-- ==== Sys2Proof/Word.lean ====
section
/-! DEFINITION. The word types of the machine and the name of a register field. -/
namespace Sys2Proof

/-- A register or memory word (R7: 32-bit registers; spec/05 w0–w31). -/
abbrev Word := BitVec 32

/-- A memory byte. -/
abbrev Byte := BitVec 8

/-- A field of a register: the register's address, its lowest bit and its length. -/
structure Fld where
  addr : Nat
  lo : Nat
  len : Nat
  deriving DecidableEq, Repr

end Sys2Proof
end

