-- ==== Sys2Proof/Syntax.lean ====
section
/-! DEFINITION. The commands the block takes: one constructor per row of spec/opcode_table.json, with the row's
operands, and the types of those operands. -/
namespace Sys2Proof

/-- A general register number, w0 to w31 (R127). -/
abbrev Reg := BitVec 5

/-- The master identities of Table 1.6 (R30). -/
inductive Master where
  | cluster | ce | mover | host | mgmt | ring | debug | lamp | snufLog
  deriving DecidableEq, Repr

/-- The identity number a transfer carries (Table 1.6). -/
def Master.id : Master → Nat
  | .cluster => 0 | .ce => 1 | .mover => 2 | .host => 3 | .mgmt => 4 | .ring => 5 | .debug => 6 | .lamp => 7
  | .snufLog => 8

/-- The width of an access to a register or to memory. -/
inductive Size where
  | byte | half | word
  deriving DecidableEq, Repr

/-- The bytes of an access. -/
def Size.bytes : Size → Nat
  | .byte => 1 | .half => 2 | .word => 4

/-- The lockstep domain whose admission gate takes an input (R26): the cluster (CCLK) or the Channel Engine (ECLK). -/
inductive AdmGate where
  | cluster | ce
  deriving DecidableEq, Repr

/-- The sending side of a crossing of Table 1.3, or the unit status of Table 10.9 row 9; `sramWrite` is an SRAM write by another master, seen by the cluster
through the interconnect crossing (R112). -/
inductive AdmSource where
  | port (p : BitVec 4)
  | host | mgmt | ring
  | slice (n : BitVec 7)
  | adc (c : BitVec 1)
  | ceToBus | busToCe | units | wickTick | faultCollector | snuffNotice | tck
  | sramWrite (addr : Word)
  deriving DecidableEq, Repr

/-- A target of R32 at which masters contend. -/
inductive Target where
  | flash (bank : BitVec 1)
  | sram (bank : BitVec 2)
  | scratchpad
  deriving DecidableEq, Repr

/-- What a copy-bus window (Table 3.10) did that depends on the moment: the CCLK of phases 1 and 2, and whether a beat
differed between the two majority copies (R89). -/
structure CopyBusRun where
  quiesce : BitVec 5
  drain : BitVec 9
  divided : Bool
  deriving DecidableEq, Repr

/-- What a copy does in one CCLK cycle, as its check vector shows it (R81, Tables 3.3 and 3.4): a request; a request by which
SYNC or MBAR waits; a result written to a register (32 and 33: an accumulator); the commit of the oldest store-buffer entry,
standing at a number; a direct-lane issue; an entry of a vector, with the address of the access that caused it (R186); a
microword of the routine in progress; a micro-trap; a stall; instructions retired. -/
inductive CycleEvent where
  | request (write fetch unbuf : Bool) (burst : BitVec 2) (addr data : Word) (be : BitVec 4)
  | barrier
  | result (dest : BitVec 6) (v : BitVec 64)
  | commit (entry : BitVec 3)
  | chissue (w : Word) (tag : BitVec 10)
  | entry (n : BitVec 8) (addr : Option Word)
  | micro
  | microTrap
  | stall
  | retired (n : BitVec 2)
  deriving DecidableEq, Repr

/-- A cycle of one copy: what it does, and the bits by which the vector it presents differs from that (an error of the copy). -/
structure CopyCycle where
  events : List CycleEvent
  differs : BitVec 256
  deriving DecidableEq, Repr

/-- What an engine copy does in one ECLK cycle (Table 3.8): an interconnect access, of the data mover or not; a tag completed; a
queue pointer updated; a port command; a ledger write. -/
inductive EngineEvent where
  | bus (mover write : Bool) (addr data : Word) (be : BitVec 4)
  | completion (tag : BitVec 10)
  | queue (q : BitVec 8)
  | portCommand (port : BitVec 4) (code : BitVec 3)
  | ledger (i : BitVec 11)
  deriving DecidableEq, Repr

/-- The bits that a test lane's checker receives from outside, the first first (R345). -/
structure LaneBits where
  lane : BitVec 5
  bits : List Bool
  deriving DecidableEq, Repr

/-- A cycle of one engine copy: what it does, the sequencer address, and the bits by which its vector differs from that. -/
structure EngineCycle where
  events : List EngineEvent
  seqpc : BitVec 12
  differs : BitVec 128
  deriving DecidableEq, Repr

/-- One Lantern self-test (R92 to R94): which Lantern; the vectors aligned in the cycle tested, of the copies or of the engines;
whether the real comparator reported a difference in the 3 cycles before; and a defect of the shadow comparator: the bits by
which its report departs from the difference it was given, and the copy that it names in place of the minority. -/
structure LanternTest where
  engine : Bool
  a : CopyCycle
  b : CopyCycle
  c : CopyCycle
  p : EngineCycle
  q : EngineCycle
  near : Bool
  defect : BitVec 256
  names : Option (BitVec 2)
  deriving DecidableEq, Repr

/-- The micro-trap causes of Table 6.9; the wait of a full set of stations comes with the command. -/
inductive MicroCause where
  | eccCorrection | lineMiss | stationsFull | pendingCheck
  deriving DecidableEq, Repr

/-- What happens to a port's transaction at the bus (R326, R328, R329): it starts and goes on; it runs to its end with the
bytes that the partner sent, a PEC last where one is due; the partner NACKs its address or a data byte; it NACKs the PEC
that the port sent; or a remote device uses a part of the standard that the personality does not support (R16, R321). -/
inductive XferOutcome where
  | begins
  | done (data : List Byte)
  | nack
  | pecNack
  | unsupported
  deriving DecidableEq, Repr

/-- A device that answers in DAA (R339): one that acknowledges SETDASA at its static address, or one that responds to
ENTDAA with its provisional ID, BCR and DCR. -/
inductive DaaDevice where
  | static (addr : BitVec 7)
  | dynamic (pid : BitVec 48) (bcr dcr : Byte)
  deriving DecidableEq, Repr

/-- A Ring frame (Table 13.2) without its TYPE, LEN, CRC and fill: LEN is the length of the payload. -/
structure RingFrame where
  bc : Bool
  more : Bool
  dst : BitVec 6
  src : BitVec 6
  seq : BitVec 16
  arg : BitVec 16
  addr : Word
  payload : List Byte
  deriving DecidableEq, Repr

/-- What a member receives that is not a good frame (R353, R354): the bytes between /S/ and the end of a frame, with whether it
holds a code-group error and whether /T/ ends it; the bytes of one closed by /V/; or an /X/ or, with `yield`, a /Y/ whose data
code group is invalid. -/
inductive BadFrame where
  | frame (raw : List Byte) (groups ended : Bool)
  | stomped (raw : List Byte)
  | orderedSet (yield : Bool)
  deriving DecidableEq, Repr

/-- What a boundary scan takes from outside: the levels at the pins as its capture finds them, by the cells of the register, and
the register as shifted in and updated (R515). -/
structure ScanIn where
  pins : BitVec 447
  scan : BitVec 447
  deriving DecidableEq, Repr

/-- A memory that fails the memory BIST (Table 17.4), with the failing address that DETAIL shows. -/
inductive BistFail where
  | scratchpad | hostBuffer
  | sram (addr : Word)
  | ledger (addr : Word)
  | partner (addr : Word)
  deriving DecidableEq, Repr

/-- A rise of TRIM_IN: the raw XTAL32 edges and the µs since the rise before it (R437). -/
structure TrimRise where
  edges : BitVec 32
  micros : BitVec 32
  deriving DecidableEq, Repr

/-- A word streamed to the patch engine, and whether the flash verifies the line that the word lets it program (R482). -/
structure PatchWord where
  word : Word
  ok : Bool
  deriving DecidableEq, Repr

/-- What an exit shows: the wake source, as PM_WAKESRC numbers it, and at the exit from EMBER whether PLLA and PLLB lock and what
each copy's signature of the full scan differs by (R422). -/
structure WakeRun where
  src : BitVec 4
  pllA : Bool
  pllB : Bool
  sigA : Word
  sigB : Word
  sigC : Word
  deriving DecidableEq, Repr

/-- What the silicon shows in the course of a start (spec/17): the ROM check (R463), the checks of the SRAM and scratchpad
clears (R255), the OTP bits whose three copies disagree (R471), the copies whose self-test signature is right, bit 0 A (R467),
the Lantern BIST (R468), the memories that fail the memory BIST (R469), the locks of PLLA and PLLB (R426), the straps as sampled
in C1 (R494), and the AOCLK cycles that the start takes. -/
structure StartRun where
  romOk : Bool
  sramOk : Bool
  spOk : Bool
  corr : BitVec 8
  copies : BitVec 3
  lntC : Bool
  lntE : Bool
  bist : List BistFail
  pllA : Bool
  pllB : Bool
  straps : BitVec 4
  cycles : Word
  deriving DecidableEq, Repr

/-- The timed injections of Table 2.6: received heartbeats or the link suppressed for 40 µs, a supply or temperature
threshold moved for 10 µs, a readback mismatch forced on one output for 32 AOCLK. -/
inductive TimedInj where
  | heartbeats | supply
  | mismatch (out : BitVec 5)
  deriving DecidableEq, Repr


/-- The commands of the block: one constructor per row of spec/opcode_table.json; each docstring is the row's rule. -/
inductive Instr where
  /-- REGISTER_WRITE (R12): A write by any master to a register with no row of its own stores the value, clamping out-of-range fields and counting the clamp. -/
  | registerWrite (m : Master) (addr : Word) (sz : Size) (v : Word)
  /-- ADMISSION (R27): An input from another clock domain is stamped into an admission slot and delivered to every replica in stagger. -/
  | admission (g : AdmGate) (src : AdmSource) (railsEqual : Bool)
  /-- CONTEST_LIMIT (R32): A non-cluster master that has lost 64 consecutive contests at a target takes the next cycle there. -/
  | contestLimit (m : Master) (t : Target)
  /-- FAULT_CAPTURE (R45): A synchronised fault request is captured, its pending bit is set and its reaction class and output set are carried out. -/
  | faultCapture (id : BitVec 8) (detail : Word) (unit : BitVec 16)
  /-- RSTCNT_CLEAR (R38): RSTCNT clears when 1 s passes without a Reset reaction. -/
  | rstcntClear
  /-- LOG_BUFFER_FLUSH (R49): Entries held in the Snuffer's buffer are written in order once master 8 can write the scratchpad again. -/
  | logBufferFlush
  /-- FLT_PEND_CLEAR (R45): A W1C of a pending bit clears it only if the detecting condition has gone. -/
  | fltPendClear (n : BitVec 2) (w : Word)
  /-- SNUFFER_READBACK (R54): Sixteen consecutive compared cycles with pin and commanded level different raise fault 0x75. -/
  | snufferReadback (pins : BitVec 24)
  /-- SNUFFER_SELF_CHECK (R55): Every 1 ms the Snuffer exercises each output latch's safe path and its supply comparator, raising fault 0x76 on failure. -/
  | snufferSelfCheck (ok : Bool)
  /-- CLOCK_LOSS (R53): When AOCLK stops for more than 2 µs, an independent detector drives every used output to its safe level. -/
  | clockLoss
  /-- SNUFFER_SUPPLY_OUT_OF_RANGE (R53): When the Snuffer's own supply monitor finds its regulator out of range, outputs and FAULT_N become undriven. -/
  | snufferSupplyOutOfRange (bad : Bool)
  /-- SNF_SWSNUFF (R57): A write of 1 to a bit snuffs that output as a software request and writes a kind-2 log entry. -/
  | snfSwsnuff (v : Word)
  /-- SNF_UNSNUFF (R59): Writing the arming value arms the unsnuff sequence and loads a new challenge; any other value raises fault 0x77. -/
  | snfUnsnuff (v : Word)
  /-- SNF_CHALRSP (R60): The unsnuff response is judged and releases the outputs of SNF_RELMASK only if every condition holds, otherwise fault 0x77. -/
  | snfChalrsp (v : Word)
  /-- UNSNUFF_LATE (R61): An armed sequence not answered within 1,600 AOCLK raises fault 0x77 and disarms. -/
  | unsnuffLate
  /-- HOLDOFF_EXPIRY (R62): A released output's hold-off ends and it takes its SNF_OPLVL level, clearing its SNUFFED bit. -/
  | holdoffExpiry (n : BitVec 5)
  /-- SNF_WWDKICK (R63): A windowed watchdog service restarts the count if correct and in window, otherwise raises fault 0x70. -/
  | snfWwdkick (v : Word)
  /-- WINDOWED_WATCHDOG_CLOSE (R63): The windowed watchdog count reaching CLOSE raises fault 0x70 and restarts the count. -/
  | windowedWatchdogClose
  /-- SNF_QAWANS (R64): A Q&A answer is judged; a correct in-window answer advances q and restarts the count, otherwise fault 0x71. -/
  | snfQawans (v : Word)
  /-- QA_WATCHDOG_CLOSE (R64): The Q&A watchdog count reaching CLOSE without an answer raises fault 0x71. -/
  | qaWatchdogClose
  /-- SNF_WDCFG_WRITE (R65): A write of watchdog limits is stored and clamped at once but applied from the next restart of the count. -/
  | snfWdcfgWrite (m : Master) (qa : Bool) (v : Word)
  /-- FLT_INJKEY (R70): Writing the injection key opens a 16 CCLK window for a write to FLT_INJ. -/
  | fltInjkey (v : Word)
  /-- INJKEY_EXPIRY (R70): The injection key window closes 16 CCLK after the key write. -/
  | injkeyExpiry
  /-- FLT_INJ (R71): An authorised injection corrupts checked data or raises the ID at the collector by the method of its Inject column. -/
  | fltInj (m : Master) (v : Word)
  /-- CHECK_VECTOR_COMPARE (R82): Lantern-C registers, compares or votes the aligned check vectors and latches a verdict, raising a fault on disagreement. -/
  | checkVectorCompare (a b c : CopyCycle)
  /-- ENGINE_VECTOR_COMPARE (R85): Lantern-E compares the engine vectors of CE-P and CE-S and raises fault 0x08 on any difference. -/
  | engineVectorCompare (p q : EngineCycle)
  /-- ROLLING_SIGNATURE (R87): At the end of each 64 CCLK period the signatures are compared and a difference raises fault 0x03 or 0x02. -/
  | rollingSignature (a b c : Word)
  /-- REKINDLE (R88): After an outvoted verdict with class Rekindle, the window quiesces, drains, transfers state and rewrites the control store of the minority copy. -/
  | rekindle (r : CopyBusRun)
  /-- REKINDLE_VERIFY (R89): At the verify phase the three signatures decide success, fault 0x05 or fault 0x02, and stagger is re-established. -/
  | rekindleVerify (a b c : Word)
  /-- REKINDLE_TIMEOUT (R88): A window not closed 2,400 CCLK after it opened is ended with fault 0x05. -/
  | rekindleTimeout
  /-- LNT_MODE_WRITE (R75): A write of the lockstep mode may only tighten; TRIO from PAIR starts a join. -/
  | lntModeWrite (m : Master) (v : Word)
  /-- JOIN (R76): After Copy C is powered, the cluster stalls for a join window writing the control store and then runs TRIO. -/
  | lntJoin (r : CopyBusRun) (ok : Bool)
  /-- LANTERN_SELF_TEST (R92): Once per self-test period the Lantern inverts one bit on the shadow path and checks the shadow report. -/
  | lanternSelfTest (t : LanternTest)
  /-- HALTREQ (R95): A debug halt request stops every copy before the same instruction in its own stagger. -/
  | haltreq
  /-- BREAKPOINT (R95): A DBG_BPn match on the lead copy's fetch halts every copy. -/
  | breakpoint (addr : Word)
  /-- STEP (R95): DBG_CTL.STEP executes exactly one instruction in every copy and halts again. -/
  | dbgStep
  /-- RESUME (R95): DBG_CTL.RESUME releases the copies in stagger. -/
  | dbgResume
  /-- DBG_REGDATA (R97): A debug register read returns the selected copy's value; a write goes to every copy in service. -/
  | dbgRegdata (w : Option Word)
  /-- INTERRUPT_ENTRY (R122): An interrupt sampled at an open boundary enters its handler through the fixed 14 CCLK slot. -/
  | interruptEntry
  /-- EXCEPTION_ENTRY (R184): A precise exception enters its handler at the level R184 gives through the same slot. -/
  | exceptionEntry (id : BitVec 8) (sub : BitVec 4) (addr : Word)
  /-- STATION_RESULT (R107): A reservation-station result arrives and is written to its register through a free write port. -/
  | stationResult (n : BitVec 3)
  /-- TAG_WAIT_TIMEOUT (R110): A station waiting 65,536 CCLK raises fault 0x15 and is freed. -/
  | tagWaitTimeout (n : BitVec 3)
  /-- STORE_BUFFER_COMMIT (R113): The oldest store-buffer entry commits to its target after its verdict, or is discarded if dropped. -/
  | storeBufferCommit
  /-- IMPRECISE_STORE_ERROR (R115): An error response to a buffered store raises fault 0x16. -/
  | impreciseStoreError (addr : Word)
  /-- ILLEGAL_INSTRUCTION (R128): An illegal instruction word raises fault 0x10 precisely with no other effect. -/
  | illegalInstruction (w : Word)
  /-- ADD (R131): rd receives ra plus rb modulo 2^32. -/
  | add (rd ra rb : Reg)
  /-- SUB (R131): rd receives ra minus rb modulo 2^32. -/
  | sub (rd ra rb : Reg)
  /-- AND (R131): rd receives the bitwise AND of ra and rb. -/
  | andr (rd ra rb : Reg)
  /-- OR (R131): rd receives the bitwise OR of ra and rb. -/
  | orr (rd ra rb : Reg)
  /-- XOR (R131): rd receives the bitwise XOR of ra and rb. -/
  | xorr (rd ra rb : Reg)
  /-- NOR (R131): rd receives the bitwise NOR of ra and rb. -/
  | nor (rd ra rb : Reg)
  /-- SHL (R131): rd receives ra shifted left by rb[4:0]. -/
  | shl (rd ra rb : Reg)
  /-- SHR (R131): rd receives ra shifted right logically by rb[4:0]. -/
  | shr (rd ra rb : Reg)
  /-- SAR (R131): rd receives ra shifted right arithmetically by rb[4:0]. -/
  | sar (rd ra rb : Reg)
  /-- ROR (R131): rd receives ra rotated right by rb[4:0]. -/
  | ror (rd ra rb : Reg)
  /-- SLT (R131): rd receives 1 if ra is signed less than rb, else 0. -/
  | slt (rd ra rb : Reg)
  /-- SLTU (R131): rd receives 1 if ra is unsigned less than rb, else 0. -/
  | sltu (rd ra rb : Reg)
  /-- SEQ (R131): rd receives 1 if ra equals rb, else 0. -/
  | seq (rd ra rb : Reg)
  /-- MIN (R131): rd receives the signed minimum of ra and rb. -/
  | min (rd ra rb : Reg)
  /-- MAX (R131): rd receives the signed maximum of ra and rb. -/
  | max (rd ra rb : Reg)
  /-- MINU (R131): rd receives the unsigned minimum of ra and rb. -/
  | minu (rd ra rb : Reg)
  /-- MAXU (R131): rd receives the unsigned maximum of ra and rb. -/
  | maxu (rd ra rb : Reg)
  /-- MUL (R132): rd receives the low 32 bits of ra times rb in 2 CCLK. -/
  | mul (rd ra rb : Reg)
  /-- MULH (R132): rd receives the high 32 bits of the signed 64-bit product. -/
  | mulh (rd ra rb : Reg)
  /-- MULHU (R132): rd receives the high 32 bits of the unsigned 64-bit product. -/
  | mulhu (rd ra rb : Reg)
  /-- DIV (R133): A signed divide issues to a station and writes the quotient 18 CCLK later. -/
  | div (rd ra rb : Reg)
  /-- DIVU (R133): An unsigned divide writes the quotient 18 CCLK after issue. -/
  | divu (rd ra rb : Reg)
  /-- REM (R133): A signed divide writes the remainder 18 CCLK after issue. -/
  | rem (rd ra rb : Reg)
  /-- REMU (R133): An unsigned divide writes the remainder 18 CCLK after issue. -/
  | remu (rd ra rb : Reg)
  /-- MAC (R132): The signed 64-bit product of ra and rb is added to accumulator rd. -/
  | mac (ac : BitVec 1) (ra rb : Reg)
  /-- MACU (R132): The unsigned 64-bit product of ra and rb is added to accumulator rd. -/
  | macu (ac : BitVec 1) (ra rb : Reg)
  /-- ACRL (R132): rd receives the low word of accumulator ra. -/
  | acrl (rd : Reg) (ac : BitVec 1)
  /-- ACRH (R132): rd receives the high word of accumulator ra. -/
  | acrh (rd : Reg) (ac : BitVec 1)
  /-- ACW (R132): Accumulator rd receives ra as low word and rb as high word. -/
  | acw (ac : BitVec 1) (ra rb : Reg)
  /-- ACCLR (R132): Accumulator rd is cleared. -/
  | acclr (ac : BitVec 1)
  /-- ADDI (R131): rd receives ra plus the sign-extended immediate. -/
  | addi (rd ra : Reg) (imm : BitVec 16)
  /-- ANDI (R131): rd receives ra AND the zero-extended immediate. -/
  | andi (rd ra : Reg) (imm : BitVec 16)
  /-- ORI (R131): rd receives ra OR the zero-extended immediate. -/
  | ori (rd ra : Reg) (imm : BitVec 16)
  /-- XORI (R131): rd receives ra XOR the zero-extended immediate. -/
  | xori (rd ra : Reg) (imm : BitVec 16)
  /-- SLTI (R131): rd receives 1 if ra is signed less than the sign-extended immediate. -/
  | slti (rd ra : Reg) (imm : BitVec 16)
  /-- SLTIU (R131): rd receives 1 if ra is unsigned less than the sign-extended immediate. -/
  | sltiu (rd ra : Reg) (imm : BitVec 16)
  /-- SHLI (R131): rd receives ra shifted left by imm16[4:0]. -/
  | shli (rd ra : Reg) (sh : BitVec 5)
  /-- SHRI (R131): rd receives ra shifted right logically by imm16[4:0]. -/
  | shri (rd ra : Reg) (sh : BitVec 5)
  /-- SARI (R131): rd receives ra shifted right arithmetically by imm16[4:0]. -/
  | sari (rd ra : Reg) (sh : BitVec 5)
  /-- RORI (R131): rd receives ra rotated right by imm16[4:0]. -/
  | rori (rd ra : Reg) (sh : BitVec 5)
  /-- LUI (R131): rd receives imm16 in its upper half and 0 in its lower half. -/
  | lui (rd : Reg) (imm : BitVec 16)
  /-- LDW (R134): A 32-bit load from ra plus offset into rd. -/
  | ldw (rd ra : Reg) (imm : BitVec 16)
  /-- LDH (R134): A sign-extended 16-bit load into rd. -/
  | ldh (rd ra : Reg) (imm : BitVec 16)
  /-- LDHU (R134): A zero-extended 16-bit load into rd. -/
  | ldhu (rd ra : Reg) (imm : BitVec 16)
  /-- LDB (R134): A sign-extended 8-bit load into rd. -/
  | ldb (rd ra : Reg) (imm : BitVec 16)
  /-- LDBU (R134): A zero-extended 8-bit load into rd. -/
  | ldbu (rd ra : Reg) (imm : BitVec 16)
  /-- STW (R134): A 32-bit store of rd to ra plus offset, buffered or unbuffered by target. -/
  | stw (rd ra : Reg) (imm : BitVec 16)
  /-- STH (R134): A 16-bit store of rd. -/
  | sth (rd ra : Reg) (imm : BitVec 16)
  /-- STB (R134): An 8-bit store of rd. -/
  | stb (rd ra : Reg) (imm : BitVec 16)
  /-- BEQ (R135): Branch when ra equals rb. -/
  | beq (ra rb : Reg) (off : BitVec 14)
  /-- BNE (R135): Branch when ra differs from rb. -/
  | bne (ra rb : Reg) (off : BitVec 14)
  /-- BLT (R135): Branch when ra is signed less than rb. -/
  | blt (ra rb : Reg) (off : BitVec 14)
  /-- BGE (R135): Branch when ra is signed greater than or equal to rb. -/
  | bge (ra rb : Reg) (off : BitVec 14)
  /-- BLTU (R135): Branch when ra is unsigned less than rb. -/
  | bltu (ra rb : Reg) (off : BitVec 14)
  /-- BGEU (R135): Branch when ra is unsigned greater than or equal to rb. -/
  | bgeu (ra rb : Reg) (off : BitVec 14)
  /-- J (R135): Jump to the instruction's address plus 4 times off26. -/
  | jmp (off : BitVec 26)
  /-- CALL (R136): Jump relative, write the link to w30 and push it on the shadow stack. -/
  | call (off : BitVec 26)
  /-- JR (R135): Jump to ra plus the sign-extended immediate. -/
  | jr (ra : Reg) (imm : BitVec 16)
  /-- CALLR (R136): Jump to ra plus immediate, writing the link to w30 and the shadow stack. -/
  | callr (ra : Reg) (imm : BitVec 16)
  /-- RET (R136): Pop the shadow stack, compare with w30 and transfer, or raise fault 0x11 or 0x12. -/
  | ret
  /-- CSRR (R137): rd receives the named CSR. -/
  | csrr (rd : Reg) (csr : BitVec 12)
  /-- CSRW (R137): The named CSR receives ra, clamped where sealed; a VBASE write sets EN. -/
  | csrw (ra : Reg) (csr : BitVec 12)
  /-- MODE_WRITE (R120): A CSRW to MODE waits for empty stations and store buffer, invalidates fetch and cache state, and switches mode. -/
  | modeWrite (ra : Reg)
  /-- GATE (R200): A checked transfer through gate n: argument checks, frame push, stack and set switch at commit. -/
  | gate (n : BitVec 7)
  /-- GRET (R202): Return from a gate: frame checks, restore w29 and set, pop the frame and transfer. -/
  | gret
  /-- IRET (R195): Return from a handler after depth checks, restoring level, mask, set, w29 and micro-state or divide record. -/
  | iret
  /-- SYNC (R116): Retire only once the store buffer is empty and every earlier write's response and fault is in. -/
  | syncBar
  /-- IFLUSH (R117): Perform SYNC then invalidate the instruction cache, line buffers and BTB. -/
  | iflush
  /-- MBAR (R218): After earlier writes complete, commit every staged protection-map value. -/
  | mbar
  /-- MPUSWAP (R218): Commit staged map values and toggle the active region set. -/
  | mpuswap
  /-- SCRUB (R252): Read and check the four rows of a 32-byte block, advancing the scrub monitor pointer where it names the block. -/
  | scrub (ra : Reg)
  /-- WFI (R140): Stop issue until an eligible interrupt or the level-8 notice is pending. -/
  | wfi
  /-- XOP (R157): Dispatch to customer routine n in the customer window, or raise fault 0x1A. -/
  | xop (rd ra : Reg) (n : BitVec 6)
  /-- CHISSUE (R138): Issue one operation on the direct lane; rd later receives the tag or a refusal. -/
  | chissue (rd ra : Reg)
  /-- CHISSUE_RESULT (R138): The tag or refusal returns through the admission gate and is written to rd, clearing its scoreboard bit. -/
  | chissueResult
  /-- CHWAIT (R139): Wait for the completion of a direct-lane tag and write its status to rd. -/
  | chwait (rd ra : Reg) (d : BitVec 1)
  /-- BKPT (R95): Halt for the debugger if HALTEN is set, else raise fault 0x10. -/
  | bkpt (imm : BitVec 12)
  /-- MICRO_TRAP (R162): A micro-trap cause at a resumable word saves the checkpoint, runs the service routine, restores and resumes. -/
  | microTrap (c : MicroCause) (wait : BitVec 16)
  /-- CONTROL_STORE_SCAN (R153): The scanner checks patch RAM and customer window words each CCLK and raises fault 0x19 on failure. -/
  | controlStoreScan
  /-- MC_CSCTL_RD (R177): Debug reads the control-store word at MC_CSADDR into MC_CSDATA0–4. -/
  | mcCsctlRd
  /-- MC_CSCTL_WR (R177): Debug writes MC_CSDATA0–4 to the control store in every copy and marks saved micro-states stale. -/
  | mcCsctlWr
  /-- IC_VCFG_SW (R187): A W1S of the software request bit requests the vector until its IACK. -/
  | icVcfgSw (n : BitVec 8)
  /-- HOLD_EXPIRY (R191): A handler's hold ends and interrupt sampling reopens. -/
  | holdExpiry
  /-- MPU_REGISTER_WRITE (R216): A write to a region register or MPU_CTL stores into the staging copy. -/
  | mpuRegisterWrite (m : Master) (addr : Word) (v : Word)
  /-- PROGRAM (R235): The flash controller blank-checks, encodes, programs and verifies one line. -/
  | flashProgram (key : BitVec 16)
  /-- ERASE (R235): The flash controller erases one sector and blank-checks it. -/
  | flashErase (key : BitVec 16)
  /-- BLANK_CHECK (R235): The flash controller reads one sector for erased lines. -/
  | blankCheck (key : BitVec 16)
  /-- FLASH_OPERATION_COMPLETE (R236): A flash operation ends, clears BUSY, writes RESULT and sets DONE. -/
  | flashOperationComplete (ok : Bool)
  /-- FLC_LOCK (R238): A W1S of a lock bit locks its 64 KiB block against program and erase until cold start. -/
  | flcLock (k : BitVec 1) (v : Word)
  /-- WRITE_BACK (R244): A corrected word in the write-back entry is rewritten in a background cycle of its bank. -/
  | writeBack (bank : BitVec 3)
  /-- SCRUB_READ (R249): An autonomous scrub row read falls due every INTV CCLK and checks the row. -/
  | scrubRead (bank : BitVec 3)
  /-- SCRUB_STARVATION (R253): The scrub monitor timer reaching 100 ms before a full pass raises fault 0x2A. -/
  | scrubStarvation
  /-- DOORBELL (R259): A write to CE_QDBq sets a new SQ TAIL or CQ/EQ HEAD, clamped to the depth. -/
  | doorbell (m : Master) (q : BitVec 8) (v : Word)
  /-- CE_QCFG_WRITE (R261): A queue configuration write is accepted only while EN is 0; setting EN resets pointers and phase. -/
  | ceQcfgWrite (m : Master) (addr : Word) (v : Word)
  /-- CE_CTL_WRITE (R282): Writing RUN starts or stops fetch from queues and acceptance of direct-lane issues. -/
  | ceCtlWrite (m : Master) (v : Word)
  /-- QUEUE_ENTRY_FETCH (R278): The CE fetches a submission entry, checks CRC, handle and tag, and starts the operation. -/
  | queueEntryFetch
  /-- TAG_STALL_RESUME (R274): When a held tag frees, the stalled SQ entry is fetched again. -/
  | tagStallResume (q : BitVec 8)
  /-- DIRECT_LANE_ISSUE (R281): An admitted CHISSUE is checked, takes a tag or is refused. -/
  | directLaneIssue
  /-- NOP (R270): The CE echoes ARG0 and ARG1 in 1 ECLK. -/
  | ceNop (tag : BitVec 10)
  /-- PORT_READ (R328): A port transaction reads up to 8 bytes from the channel's partner. -/
  | portRead (tag : BitVec 10)
  /-- PORT_WRITE (R328): A port transaction writes up to 8 bytes to the partner, or stores them on a LOOP channel. -/
  | portWrite (tag : BitVec 10)
  /-- PORT_XFER (R328): A port transaction with write and read buffers moved by the data mover. -/
  | portXfer (tag : BitVec 10)
  /-- MON_ARM (R318): Enables window and edge events of the channel's slice. -/
  | monArm (tag : BitVec 10)
  /-- MON_SAMPLE (R318): Returns the slice's filtered outputs and count state. -/
  | monSample (tag : BitVec 10)
  /-- ADC_CONVERT (R306): Queues a conversion of the slice's input on a converter. -/
  | adcConvert (tag : BitVec 10)
  /-- WAIT_EVENT (R280): Waits for the channel's next event. -/
  | waitEvent (tag : BitVec 10)
  /-- TIMER_SET (R271): Arms a one-shot or periodic timer on a TIMER channel. -/
  | timerSet (tag : BitVec 10)
  /-- RING_SEND (R363): Sends a message from SRAM to a remote member's queue as one or two SEND frames. -/
  | ringSend (tag : BitVec 10)
  /-- AUTH_NONCE (R488): Returns 8 bytes from the DRBG once READY. -/
  | authNonce (tag : BitVec 10)
  /-- BARRIER (R275): Starts only after every earlier operation from its source has completed. -/
  | ceBarrier (tag : BitVec 10)
  /-- CREATE (R268): Opens a channel at the lowest free index with the next generation. -/
  | create (tag : BitVec 10)
  /-- DESTROY (R277): Drains, cancels and closes a channel, completing last. -/
  | destroy (tag : BitVec 10)
  /-- LEDGER_READ (R270): Returns a ledger entry. -/
  | ledgerRead (tag : BitVec 10)
  /-- LEDGER_HOLD (R408): Places or releases a management hold on a ledger entry if its SEQ matches. -/
  | ledgerHold (tag : BitVec 10)
  /-- COMPLETION (R275): An admitted result is written as a completion entry in channel order and its tag freed. -/
  | completion (tag : BitVec 10)
  /-- OPERATION_TIMEOUT (R276): An operation's timeout stops it, raises fault 0x34 and completes it with TIMEOUT. -/
  | operationTimeout (tag : BitVec 10)
  /-- TIMER_EXPIRY (R271): A TIMER channel's period expires, completing TIMER_SET or posting an event. -/
  | timerExpiry (ch : BitVec 10)
  /-- EVENT (R280): An unsolicited event completes a WAIT_EVENT, goes to the EQ or is discarded. -/
  | ceEvent (ch : BitVec 10) (code : BitVec 8) (data : BitVec 64)
  /-- SLICE_THRESHOLD_CROSSING (R291): The slice input crosses a threshold and the raw comparator output changes. -/
  | sliceThresholdCrossing (n : BitVec 7) (x : BitVec 16)
  /-- DEGLITCH (R294): After N consecutive samples the filtered output takes the raw value. -/
  | deglitch (n : BitVec 7) (upper : Bool)
  /-- VOTER_DISAGREEMENT (R301): A voter group's inputs unequal for N samples raise fault 0x41. -/
  | voterDisagreement (g : BitVec 5)
  /-- RATE_RECAPTURE (R293): A rate-mode slice recaptures its hold at the start of each period. -/
  | rateRecapture (n : BitVec 7)
  /-- SLICE_SELF_CHECK (R297): Every 1 ms each slice runs eight check steps and raises fault 0x42 on failure. -/
  | sliceSelfCheck (n : BitVec 7) (failed : Option (BitVec 3))
  /-- MON_THR_WRITE (R296): A threshold write is clamped to the limits and in force within 1 µs without restarting a count. -/
  | monThrWrite (m : Master) (n : BitVec 7) (v : Word)
  /-- MON_RESTART (R304): MON_CFGn.RESTART ends a slice's isolation when its fault is not pending. -/
  | monRestart (n : BitVec 7)
  /-- MON_WSET_WRITE (R313): A watch-set write adds slices up to 16 and drops the rest. -/
  | monWsetWrite (m : Master) (k : BitVec 2) (v : Word)
  /-- SCAN_TICK (R312): In EMBER, latched slice changes are admitted to the CE at each scan tick. -/
  | scanTick
  /-- SLICE_SETTLED (R317): After a warm start from SMOULDER a powered slice settles and its counts start. -/
  | sliceSettled (n : BitVec 7)
  /-- CONVERSION_COMPLETE (R306): A converter finishes a conversion or averaging run and delivers the result. -/
  | conversionComplete (c : BitVec 1) (codes : List (BitVec 14))
  /-- CALIBRATION_STEP (R308): A due or forced calibration step runs on an idle converter. -/
  | calibrationStep (c : BitVec 1)
  /-- CALIBRATION_OVERDUE (R309): ADC_CALAGE reaching 200 ms makes fault 0x43's condition present. -/
  | calibrationOverdue (c : BitVec 1)
  /-- REFERENCE_CHECK (R310): Every 100 ms each converter converts the check bandgap; an out-of-range code raises fault 0x44. -/
  | referenceCheck (c : BitVec 1) (code : BitVec 14)
  /-- TRANSACTION (R333): At a transaction boundary a port starts the oldest transaction of the highest priority. -/
  | portTransaction (p : BitVec 4) (o : XferOutcome)
  /-- TXTMO (R334): A transaction exceeding its record's limit is ended with TIMEOUT and fault 0x51. -/
  | txtmo (p : BitVec 4)
  /-- BUS_LOW_TIMEOUT (R335): SCL held low by another for the limit releases the bus, sets HUNG and raises fault 0x51. -/
  | busLowTimeout (p : BitVec 4)
  /-- BUS_RECOVERY (R335): A 1 ms sample finding SCL high clocks SDA free, sends STOP and clears HUNG. -/
  | busRecovery (p : BitVec 4) (sclHigh sdaHigh : Bool)
  /-- RECOVER (R335): PORT_CTLn.RECOVER starts bus recovery at once on an idle port. -/
  | portRecover (p : BitVec 4)
  /-- PORT_RESTART (R343): PORT_CTLn.RESTART ends a port's isolation when its fault is not pending. -/
  | portRestart (p : BitVec 4)
  /-- DAA (R339): An I3C port runs SETDASA and ENTDAA, assigning matching records. -/
  | portDaa (p : BitVec 4) (devs : List DaaDevice)
  /-- ALERT (R341): A target port drives SMBALERT_N low and answers the Alert Response Address. -/
  | portAlert (p : BitVec 4) (on : Bool)
  /-- ARBITRATION_LOST (R336): Losing arbitration stops driving and retries, failing with PROTOCOL on the fourth loss. -/
  | arbitrationLost (p : BitVec 4)
  /-- IN_BAND_INTERRUPT (R337): A target winning the broadcast header is served and its interrupt becomes a partner event. -/
  | inBandInterrupt (p : BitVec 4) (addr : BitVec 7) (data : List Byte)
  /-- HOT_JOIN (R337): A hot-join request at the header is ACKed where enabled and sets HOTJOIN. -/
  | hotJoin (p : BitVec 4)
  /-- SMBUS_ALERT (R340): SMBALERT_N low at a boundary makes the port read the Alert Response Address. -/
  | smbusAlert (p : BitVec 4) (addr : Option (BitVec 7))
  /-- HOST_NOTIFY (R340): A Host Notify received at address 0x08 becomes an event of the matching record. -/
  | hostNotify (p : BitVec 4) (addr : BitVec 7) (data : BitVec 16)
  /-- TARGET_WRITE (R341): A write to a target port stores data in the receive table and posts an event at STOP. -/
  | targetWrite (p : BitVec 4) (data : List Byte)
  /-- TARGET_READ (R341): A read of a target port sends bytes from the reply table. -/
  | targetRead (p : BitVec 4) (c : Option Byte) (n : BitVec 9)
  /-- UART_RECEIVE (R332): A received character enters the FIFO, or is dropped with fault 0x50 on error. -/
  | uartReceive (p : BitVec 4) (c : Byte) (bad : Bool)
  /-- UART_RECEIVE_EVENT (R332): Gathered bytes are offered as an event after 7 bytes or 2 idle character times. -/
  | uartReceiveEvent (p : BitVec 4)
  /-- PORT_PCMD_RD (R325): Loads the partner record at PORT_PIDX into PORT_PDATA0–3. -/
  | portPcmdRd
  /-- PORT_PCMD_WR (R325): Stores PORT_PDATA0–3 into the partner record, clamped, unless locked. -/
  | portPcmdWr (m : Master)
  /-- PORT_PCMD_RESTART (R343): Ends a partner's isolation when fault 0x52 is not pending. -/
  | portPcmdRestart
  /-- PRBS_CHECK (R345): A wrong bit under LOCK increments TST_ERR and raises fault 0x58. -/
  | prbsCheck (k : BitVec 5) (bit : Bool)
  /-- TST_CTL_WRITE (R346): Setting GEN or CHK on a lane is accepted only while its link is idle or out of service. -/
  | tstCtlWrite (m : Master) (k : BitVec 5) (v : Word)
  /-- GP_INPUT (R347): A filtered GP input edge or level sets its GP_IRQ bit. -/
  | gpInput (n : BitVec 6) (level : Bool)
  /-- LINKIN (R350): Sixteen consecutive IDLE in sync set LINKIN. -/
  | linkin
  /-- RING_LINK_LOSS (R350): Loss of sync for 28 µs raises fault 0x54. -/
  | ringLinkLoss
  /-- BAD_FRAME (R354): A bad frame is forwarded closed by Stomp and raises fault 0x53. -/
  | badFrame (k : BadFrame)
  /-- BEAT (R358): A BEAT frame is forwarded with the member's presence bit set and its global time latched. -/
  | ringBeat (f : RingFrame)
  /-- BEAT_SEND (R358): The master sends a BEAT every 10 µs. -/
  | beatSend
  /-- RING_MEMBER_LOST (R358): At the master, a member absent from returned BEATs for 30 µs raises fault 0x55. -/
  | ringMemberLost (id : BitVec 6)
  /-- BEAT_TIMEOUT (R358): At a member, no BEAT for 30 µs raises fault 0x54. -/
  | beatTimeout
  /-- ENUM (R356): An ENUM frame assigns the next ID to each member in ring order and returns N to the master. -/
  | ringEnum (f : RingFrame)
  /-- ENUM_RESEND (R356): An ENUM not returned within 100 µs is resent every 1 ms. -/
  | enumResend
  /-- NOENUM (R357): With no master, each member sets NOENUM 100 ms after EN. -/
  | noenum
  /-- WREQ (R361): A remote write request is served as master 5 and answered with RESP. -/
  | ringWreq (f : RingFrame)
  /-- RREQ (R361): A remote read request is served as master 5 and answered with RESP. -/
  | ringRreq (f : RingFrame)
  /-- RESP (R360): A response completes a remote access or SEND at the issuer. -/
  | ringResp (f : RingFrame)
  /-- BUSY_RESEND (R360): A request answered BUSY is resent every 2 µs. -/
  | busyResend (i : BitVec 3)
  /-- REMOTE_TIMEOUT (R360): No RESP within RING_RTMO refuses the access under R10. -/
  | remoteTimeout (i : BitVec 3)
  /-- SEND (R364): A complete SEND is written to a receive slot and an event entry to queue q. -/
  | ringMsg (f : RingFrame)
  /-- SEND_FRAGMENT_TIMEOUT (R364): A first SEND frame whose second has not arrived in 20 µs is discarded. -/
  | sendFragmentTimeout (src : BitVec 6)
  /-- SNUFF (R367): A received valid /X/ is forwarded and, if new, acted on as a Ring snuff received. -/
  | ringSnuff (id : BitVec 6) (seq : BitVec 2)
  /-- SNUFFTX (R366): A write of RING_CTL.SNUFFTX originates a ring-wide snuff. -/
  | snufftx
  /-- SNUFF_REPEAT (R366): The originator repeats /X/ every 2 µs until it returns, setting SNFLOST after 8 sends. -/
  | snuffRepeat
  /-- SNUFF_FORGET (R367): 32 µs after the last valid /X/ from an originator, its held pair is forgotten. -/
  | snuffForget (id : BitVec 6)
  /-- RING_ENUM_WRITE (R356): A write of RING_CTL.ENUM at the master starts a new enumeration. -/
  | ringEnumWrite
  /-- RING_MRST (R359): The master ends a member's isolation when fault 0x55 is not pending. -/
  | ringMrst (id : BitVec 6)
  /-- PAIR (R373): A PAIR frame from the partner forms roles, refreshes the heartbeat and may resolve a split brain. -/
  | ringPair (f : RingFrame)
  /-- PAIR_SEND (R373): A pair-mode member sends PAIR every 10 µs. -/
  | pairSend
  /-- PAIR_FORMATION_TIMEOUT (R373): No partner within 100 µs of enumeration, or 100 ms unenumerated, makes the member ACTIVE. -/
  | pairFormationTimeout
  /-- PAIR_HEARTBEAT_LOSS (R374): 30 µs without a valid PAIR raises fault 0x56. -/
  | pairHeartbeatLoss
  /-- YIELD (R382): Admission of /Y/ from the partner triggers takeover at a synced STANDBY. -/
  | ringYield (id : BitVec 6)
  /-- RING_PCTL_YIELD (R381): A firmware write of YIELD makes ACTIVE yield. -/
  | ringPctlYield
  /-- RING_PCTL_RESYNC (R376): A RESYNC request at STANDBY makes ACTIVE sync again. -/
  | ringPctlResync
  /-- MIRROR (R376): STANDBY applies a MIRROR frame in SEQ order, detecting gaps. -/
  | ringMirror (f : RingFrame)
  /-- MIRROR_SYNC (R377): ACTIVE reads every mirrored item into the send FIFO until STANDBY sets SYNCED. -/
  | mirrorSync
  /-- RING_MFLUSH (R378): A write notes the last SEQ sent; FLUSHED sets when STANDBY reports it applied. -/
  | ringMflush
  /-- HOST_WRITE (R389): A host write frame is carried out word by word as master 3 once its CRC matches. -/
  | hostWrite (f : List Byte)
  /-- HOST_READ (R390): A host read frame returns STATUS, data words and CRC. -/
  | hostRead (f : List Byte) (early : Bool)
  /-- HOST_WAKE (R401): A host wake command or transaction outside LIT is a wake source. -/
  | hostWake
  /-- I3C_POINTER_WRITE (R392): An I3C private write of ADDR and LEN sets the read pointer. -/
  | i3cPointerWrite (f : List Byte)
  /-- HOST_SQDB (R395): A host SQ doorbell is passed to CE_QDB of the channel's SQ. -/
  | hostSqdb (c : BitVec 3) (v : Word)
  /-- HOST_CQDB (R395): A host CQ doorbell is passed to CE_QDB of the channel's CQ. -/
  | hostCqdb (c : BitVec 3) (v : Word)
  /-- HOST_H2D (R397): A host message write sets HOST_MBIRQc.H2D. -/
  | hostH2d (c : BitVec 3) (v : Word)
  /-- HOST_D2H (R397): A firmware message write sets the channel's D2H attention bit. -/
  | hostD2h (c : BitVec 3) (v : Word)
  /-- HOST_MBIRQ_RESTART (R399): Ends a mailbox channel's isolation when fault 0x57 is not pending. -/
  | hostMbirqRestart (c : BitVec 3)
  /-- IDENT (R404): Management block read of identity. -/
  | mgmtIdent
  /-- STATE (R404): Management block read of power state, flags and log head. -/
  | mgmtState
  /-- LIDX (R404): Management write of the ledger read index. -/
  | mgmtLidx (f : List Byte)
  /-- LEDGER (R407): Management block read of the ledger entry at MGMT_LIDX, then the index increments. -/
  | mgmtLedger
  /-- LOGIDX (R404): Management write of the log read index. -/
  | mgmtLogidx (f : List Byte)
  /-- LOG (R405): Management block read of the log entry at MGMT_LOGIDX, then the index increments. -/
  | mgmtLog
  /-- PEND (R404): Management block read of FLT_PEND0–3. -/
  | mgmtPend
  /-- HOLD (R408): Management proposal issued as LEDGER_HOLD, judged against the expected SEQ. -/
  | mgmtHold (f : List Byte)
  /-- HOLDRES (R408): Management block read of the last HOLD's status and entry. -/
  | mgmtHoldres
  /-- PREQ (R412): Management power request, refused at once, a wake source, or passed to firmware. -/
  | mgmtPreq (f : List Byte)
  /-- PRES (R412): Management read of the power request result. -/
  | mgmtPres
  /-- CLAMP (R413): Management block read of the clamp count and last clamped register. -/
  | mgmtClamp
  /-- MGMT_RESPONSE_TIMEOUT (R405): A read response not ready within 20 µs is sent with status BUSY. -/
  | mgmtResponseTimeout (cmd : Byte)
  /-- MGMT_PRES_WRITE (R412): Firmware writes the power request result and clears PENDING. -/
  | mgmtPresWrite (m : Master) (v : Word)
  /-- SYS_CLAMPCNT_CLR (R413): Writing CLR clears SYS_CLAMPCNT and SYS_CLAMPLAST. -/
  | sysClampcntClr (m : Master) (v : Word)
  /-- PM_REQ_WRITE (R416): A target state write arms a request or refuses it at once. -/
  | pmReqWrite (m : Master) (v : Word)
  /-- POWER_STATE_ENTRY (R417): At the first WFI with nothing eligible, the device runs the entry steps to the target state. -/
  | powerStateEntry
  /-- WAKE (R420): An enabled wake source aborts an entry or brings the device back to LIT. -/
  | wake (r : WakeRun)
  /-- WAKE_PIN (R421): A WAKEn pin held active for 20 µs wakes the device or sets its PM_WAKESRC bit. -/
  | wakePin (n : BitVec 2)
  /-- VMAIN_WARNING (R423): VMAIN below 2.95 V raises fault 0x68. -/
  | vmainWarning (bad : Bool)
  /-- VMAIN_RESET (R423): VMAIN below 2.85 V drops the device to DARK within 2 µs. -/
  | vmainReset
  /-- POWER_ON (R461): VMAIN rising through its release threshold with PWRGOOD and RESET_N high starts a cold start. -/
  | powerOn
  /-- WICK_SWITCHOVER (R423): VMAIN crossing 2.70/2.75 V moves the Wick domain between VMAIN and VBAT. -/
  | wickSwitchover (onVbat : Bool)
  /-- CORE_UNDERVOLTAGE (R423): VCORE below 0.74 V raises fault 0x65. -/
  | coreUndervoltage (bad : Bool)
  /-- CORE_OVERVOLTAGE (R423): VCORE above 0.88 V raises fault 0x66. -/
  | coreOvervoltage (bad : Bool)
  /-- DIE_OVER_TEMPERATURE (R423): A die sensor above its threshold at a 50 µs sample raises fault 0x67. -/
  | dieOverTemperature (bad : Bool)
  /-- CLOCK_MONITOR (R427): A clock out of its limits in a monitor window raises its fault and drives the fallback. -/
  | clockMonitor (k : BitVec 3) (bad : Bool)
  /-- PLL_LOSS_OF_LOCK (R427): A PLL out of lock for 1 µs raises fault 0x64 and switches its clocks to AOCLK. -/
  | pllLossOfLock (pll : BitVec 1)
  /-- RELOCK (R429): A write of CLK_PLLA.MULT moves CCLK to AOCLK, relocks PLLA and switches back. -/
  | relock (m : Master) (v : Word)
  /-- PLLBRST (R428): A write of CLK_CTL.PLLBRST restarts PLLB and switches ECLK back after lock. -/
  | pllbrst
  /-- PLL_LOCK (R429): A relocking PLL locks and after 256 XTALM cycles its clock is switched back. -/
  | pllLock (pll : BitVec 1) (cyc : BitVec 16)
  /-- LOCKFAIL (R428): A PLL not locked within 100 µs raises fault 0x64 and leaves its clocks on AOCLK. -/
  | lockfail (pll : BitVec 1)
  /-- CLK_CLKOUT_WRITE (R432): A write of SRC or DIV takes effect at the end of the low phase with a full low phase first. -/
  | clkClkoutWrite (m : Master) (v : Word)
  /-- WICK_TICK (R433): An XTAL32 edge passed by the tick gate advances WK_CNT and is admitted as the Wick tick. -/
  | wickTick
  /-- PERIODIC_WAKE (R436): A carry into bit K sets PWAKE in LIT or is a wake source below LIT. -/
  | periodicWake
  /-- WK_CNT_LO_READ (R434): A read returns the low word and latches the high word for the reading master. -/
  | wkCntLoRead (m : Master)
  /-- WK_CTL_WRITE (R435): A write of HALT and RELSRC halts or releases the Wick counter after reaching the domain. -/
  | wkCtlWrite (m : Master) (v : Word)
  /-- TRIM_IN_RELEASE (R435): With RELSRC 1, counting resumes at the edge after the next TRIM_IN rising edge. -/
  | trimInRelease
  /-- WK_CNT_WRITE (R435): A counter write takes effect only while HALTED, else counts as a clamp. -/
  | wkCntWrite (m : Master) (hi : Bool) (v : Word)
  /-- TRIM_MEASUREMENT (R437): START measures raw XTAL32 edges over WIN TRIM_IN periods. -/
  | trimMeasurement
  /-- TRIM_MEASUREMENT_DONE (R437): The measurement ends, writing WK_TRIMMEAS and setting MDONE or MERR. -/
  | trimMeasurementDone (rises : List TrimRise)
  /-- TRIM_CORRECTION (R438): At every N-th Wick second one edge advances the counter by 2 or 0. -/
  | trimCorrection
  /-- TODATE (R439): The calendar service converts a count to date, time and fraction. -/
  | todate
  /-- TOCNT (R439): The calendar service converts date, time and fraction to a count. -/
  | tocnt
  /-- WICK_POWER_LOSS (R440): With VBAT below 1.6 V and VMAIN below switchover, the Wick domain loses its state. -/
  | wickPowerLoss
  /-- ROLLBACK_ADVANCE (R453): A keyed write of KS_RBADV programs thermometer bits up to the clamped target. -/
  | rollbackAdvance (m : Master) (v : Word)
  /-- ROLLBACK_ADVANCE_DONE (R453): Thermometer programming ends and BUSY clears. -/
  | rollbackAdvanceDone
  /-- RESET_N (R461): RESET_N held low at least 2 µs and released starts a cold start. -/
  | resetN (r : StartRun)
  /-- COLD_START (R462): The Lamplighter clears memory, reads OTP, loads the patch, applies an image, runs BIST and releases the cores. -/
  | coldStart (r : StartRun)
  /-- WARM_START (R466): The Lamplighter reloads from the latches, runs copy and Lantern BIST and releases the cores. -/
  | warmStart (r : StartRun)
  /-- PROGRAM_ROOT (R474): OTP command programming ROOTH0 or ROOTH1. -/
  | programRoot (m : Master) (v : Word)
  /-- REVOKE_ROOT (R474): OTP command revoking root 0 or root 1. -/
  | revokeRoot (m : Master) (v : Word)
  /-- ADVANCE_LIFECYCLE (R475): OTP command advancing the lifecycle by a permitted step. -/
  | advanceLifecycle (m : Master) (v : Word)
  /-- OTP_PROGRAM_DONE (R474): OTP programming ends and BUSY clears with its result. -/
  | otpProgramDone
  /-- KEY_UPDATE (R479): A keyed KS_KCMD checks the package and writes a new journal record to the inactive sector. -/
  | keyUpdate (m : Master) (v : Word)
  /-- KEY_UPDATE_DONE (R479): The COMMIT line is programmed and the new record is shown. -/
  | keyUpdateDone (ok : Bool)
  /-- VERIFY (R482): Patch OP 1 streams a container and verifies it. -/
  | patchVerify (m : Master) (v : Word)
  /-- PATCH_PROGRAM (R482): Patch OP 2 erases the patch area and programs the streamed container, first line last. -/
  | patchProgram (m : Master) (v : Word)
  /-- KS_PDATA (R482): A container word streamed to the patch engine, waiting while a line programs. -/
  | ksPdata (m : Master) (x : PatchWord)
  /-- UNLCHAL (R483): Capturing UNLCHAL issues a new unlock challenge when entropy is ready. -/
  | unlchal
  /-- UNLRESP (R484): A shifted-in response is verified and grants or refuses a debug unlock. -/
  | unlresp (dr : BitVec 520)
  /-- DENY (R485): KS_UNLCTL.DENY refuses every later unlock response until cold start. -/
  | denyUnlock (m : Master)
  /-- END (R485): KS_UNLCTL.END ends an active debug unlock. -/
  | endUnlock (m : Master)
  /-- HEALTH_TEST_FAILURE (R486): A health test failure discards entropy, clears READY and stops the source. -/
  | healthTestFailure (apt : Bool)
  /-- RESTART (R486): RNG_CTL.RESTART reruns the entropy start-up test. -/
  | rngRestart
  /-- INSTANTIATE (R487): The DRBG is instantiated from the first conditioned outputs and READY sets. -/
  | instantiate
  /-- RNG_DATA (R488): A read pops one word from the FIFO, or returns 0 and increments RNG_UNDER. -/
  | rngData (m : Master)
  /-- RESEED (R489): After 4,096 requests or on RNG_CTL.RESEED the DRBG reseeds from the buffer. -/
  | reseed
  /-- RESEED_TIMEOUT (R489): A reseed waiting 100 ms for entropy clears READY. -/
  | reseedTimeout
  /-- VIO_BANK_CHANGE (R499): A bank becoming present is classed 20 µs later; an absent bank's pins are undriven. -/
  | vioBankChange (bank : BitVec 1) (present : Bool) (hv : Bool)
  /-- EXTEST (R516): TAP instruction driving scanned pins from the boundary scan register. -/
  | extest (scan : ScanIn)
  /-- IDCODE (R514): TAP instruction selecting the identity register. -/
  | idcode
  /-- SAMPLE_PRELOAD (R515): TAP instruction sampling and preloading the boundary scan register. -/
  | samplePreload (pins : BitVec 447) (scan : BitVec 447)
  /-- TAP_CLAMP (R516): TAP CLAMP instruction holding outputs from the boundary scan register with bypass selected. -/
  | tapClamp
  /-- HIGHZ (R516): TAP instruction putting scanned pins at high impedance. -/
  | highz
  /-- BYPASS (R513): TAP instruction selecting the 1-bit bypass register. -/
  | bypass
  /-- DBGACC (R517): Update-DR starts one 32-bit access by master 6. -/
  | dbgacc (write : Bool) (addr : Word) (v : Word)
  /-- DBGACC_COMPLETE (R517): The debug access completes and READY is set for the next capture. -/
  | dbgaccComplete
  /-- LOSS_OF_SYNC (R350): The Ring receiver loses Clause 36 sync and LINKIN clears at once, ending remote accesses and RING_SEND operations awaiting RESP. -/
  | lossOfSync
  /-- RING_CTL_EN (R371): A write of RING_CTL.EN enables or disables Ring service; at the master, EN becoming 1 with LINKIN sends ENUM and starts BEATs, and EN 0 stops origination and faults 0x54/0x55. -/
  | ringCtlEn (m : Master) (v : Word)
  /-- RC_READ (R7): A 32-bit read of an RC register by a master other than debug returns its value and clears it. -/
  | rcRead (m : Master) (addr : Word)
  /-- INJECTION_EXPIRY (R71): A timed injection (suppressed heartbeats or link for 40 µs, moved supply threshold for 10 µs, forced readback mismatch for 32 AOCLK) ends and the checked path returns to normal. -/
  | injectionExpiry (k : TimedInj)
  /-- PRBS_LOCK (R345): A PRBS checker that has seeded sets LOCK after 64 further bits with no error. -/
  | prbsLock (k : LaneBits)
  /-- TRST_N (R513): TRST_N held low resets the TAP to Test-Logic-Reset, selecting IDCODE and ending EXTEST, CLAMP or HIGHZ. -/
  | trstN
  /-- ENTDAA (R392): The host's ENTDAA CCC assigns the device, as I3C target, a dynamic address from its provisional ID, BCR and DCR. -/
  | entdaa (addr : BitVec 7)
  /-- SETDASA (R392): The host's SETDASA CCC assigns the device's dynamic address from static address 0x2C. -/
  | setdasa (sta addr : BitVec 7)
  deriving DecidableEq, Repr

end Sys2Proof
end

