-- ==== Sys2Proof/Decode.lean ====
section
/-! DEFINITION. The decoder and encoder of the Septulnan instruction words (Tables 5.1 to 5.5, R127, R128, R130), and the
host's reading of the command table, whose rows give no bits. -/
namespace Sys2Proof

/-- What an instruction word spells: an instruction, or an illegal word with its sub-cause (Table 7.4): 0 a reserved opcode,
function code or sub-operation, 1 a field not zero or an immediate out of range (R128). -/
inductive SisWord where
  | instr (i : Instr)
  | illegal (sub : Nat)
  deriving DecidableEq, Repr

/-- An instruction under a condition on its fields, else the illegal word of sub-cause 1. -/
def sisIf (b : Bool) (i : Instr) : SisWord := if b then .instr i else .illegal 1

/-- Format K with major opcode 0x00 (Table 5.4). -/
def sisAlu (rd ra rb : Reg) (func : BitVec 11) : SisWord :=
  if func = 0 then .instr (.add rd ra rb)
  else if func = 1 then .instr (.sub rd ra rb)
  else if func = 2 then .instr (.andr rd ra rb)
  else if func = 3 then .instr (.orr rd ra rb)
  else if func = 4 then .instr (.xorr rd ra rb)
  else if func = 5 then .instr (.nor rd ra rb)
  else if func = 6 then .instr (.shl rd ra rb)
  else if func = 7 then .instr (.shr rd ra rb)
  else if func = 8 then .instr (.sar rd ra rb)
  else if func = 9 then .instr (.ror rd ra rb)
  else if func = 10 then .instr (.slt rd ra rb)
  else if func = 11 then .instr (.sltu rd ra rb)
  else if func = 12 then .instr (.seq rd ra rb)
  else if func = 13 then .instr (.min rd ra rb)
  else if func = 14 then .instr (.max rd ra rb)
  else if func = 15 then .instr (.minu rd ra rb)
  else if func = 16 then .instr (.maxu rd ra rb)
  else .illegal 0

/-- Format K with major opcode 0x01 (Table 5.4). -/
def sisMul (rd ra rb : Reg) (func : BitVec 11) : SisWord :=
  if func = 0 then .instr (.mul rd ra rb)
  else if func = 1 then .instr (.mulh rd ra rb)
  else if func = 2 then .instr (.mulhu rd ra rb)
  else if func = 4 then .instr (.div rd ra rb)
  else if func = 5 then .instr (.divu rd ra rb)
  else if func = 6 then .instr (.rem rd ra rb)
  else if func = 7 then .instr (.remu rd ra rb)
  else if func = 8 then sisIf (rd.toNat < 2) (.mac (rd.setWidth 1) ra rb)
  else if func = 9 then sisIf (rd.toNat < 2) (.macu (rd.setWidth 1) ra rb)
  else if func = 10 then sisIf (ra.toNat < 2 && rb = 0) (.acrl rd (ra.setWidth 1))
  else if func = 11 then sisIf (ra.toNat < 2 && rb = 0) (.acrh rd (ra.setWidth 1))
  else if func = 12 then sisIf (rd.toNat < 2) (.acw (rd.setWidth 1) ra rb)
  else if func = 13 then sisIf (rd.toNat < 2 && ra = 0 && rb = 0) (.acclr (rd.setWidth 1))
  else .illegal 0

/-- Format S (Table 5.5). A CSRW of CSR 0x001 is the row MODE_WRITE. -/
def sisSys (rd ra : Reg) (sub : BitVec 4) (imm : BitVec 12) : SisWord :=
  if sub = 0 then sisIf (ra = 0) (.csrr rd imm)
  else if sub = 1 then sisIf (rd = 0) (if imm = 1 then .modeWrite ra else .csrw ra imm)
  else if sub = 2 then sisIf (rd = 0 && ra = 0 && imm.toNat < 128) (.gate (imm.setWidth 7))
  else if sub = 3 then sisIf (rd = 0 && ra = 0 && imm = 0) .gret
  else if sub = 4 then sisIf (rd = 0 && ra = 0 && imm = 0) .iret
  else if sub = 5 then sisIf (rd = 0 && ra = 0 && imm = 0) .syncBar
  else if sub = 6 then sisIf (rd = 0 && ra = 0 && imm = 0) .iflush
  else if sub = 7 then sisIf (rd = 0 && ra = 0 && imm = 0) .mbar
  else if sub = 8 then sisIf (rd = 0 && ra = 0 && imm = 0) .mpuswap
  else if sub = 10 then sisIf (rd = 0 && ra = 0 && imm = 0) .wfi
  else if sub = 9 then sisIf (rd = 0 && imm = 0) (.scrub ra)
  else if sub = 11 then sisIf (imm.toNat < 64) (.xop rd ra (imm.setWidth 6))
  else if sub = 12 then sisIf (imm = 0) (.chissue rd ra)
  else if sub = 13 then sisIf (imm.toNat < 2) (.chwait rd ra (imm.setWidth 1))
  else if sub = 14 then sisIf (rd = 0 && ra = 0) (.bkpt imm)
  else .illegal 0

/-- Formats I and B by major opcode (Table 5.3). -/
def sisImm (op : BitVec 6) (rd ra : Reg) (imm : BitVec 16) : SisWord :=
  if op = 2 then .instr (.addi rd ra imm)
  else if op = 3 then .instr (.andi rd ra imm)
  else if op = 4 then .instr (.ori rd ra imm)
  else if op = 5 then .instr (.xori rd ra imm)
  else if op = 6 then .instr (.slti rd ra imm)
  else if op = 7 then .instr (.sltiu rd ra imm)
  else if op = 16 then .instr (.ldw rd ra imm)
  else if op = 17 then .instr (.ldh rd ra imm)
  else if op = 18 then .instr (.ldhu rd ra imm)
  else if op = 19 then .instr (.ldb rd ra imm)
  else if op = 20 then .instr (.ldbu rd ra imm)
  else if op = 24 then .instr (.stw rd ra imm)
  else if op = 25 then .instr (.sth rd ra imm)
  else if op = 26 then .instr (.stb rd ra imm)
  else if op = 8 then sisIf (imm.toNat < 32) (.shli rd ra (imm.setWidth 5))
  else if op = 9 then sisIf (imm.toNat < 32) (.shri rd ra (imm.setWidth 5))
  else if op = 10 then sisIf (imm.toNat < 32) (.sari rd ra (imm.setWidth 5))
  else if op = 11 then sisIf (imm.toNat < 32) (.rori rd ra (imm.setWidth 5))
  else if op = 0x0C then sisIf (ra = 0) (.lui rd imm)
  else if op = 32 then sisIf (imm.toNat < 16384) (.beq rd ra (imm.setWidth 14))
  else if op = 33 then sisIf (imm.toNat < 16384) (.bne rd ra (imm.setWidth 14))
  else if op = 34 then sisIf (imm.toNat < 16384) (.blt rd ra (imm.setWidth 14))
  else if op = 35 then sisIf (imm.toNat < 16384) (.bge rd ra (imm.setWidth 14))
  else if op = 36 then sisIf (imm.toNat < 16384) (.bltu rd ra (imm.setWidth 14))
  else if op = 37 then sisIf (imm.toNat < 16384) (.bgeu rd ra (imm.setWidth 14))
  else if op = 0x2A then sisIf (rd = 0) (.jr ra imm)
  else if op = 0x2B then sisIf (rd = 0) (.callr ra imm)
  else .illegal 0

/-- An instruction word decoded (R127, R128, R130). -/
def sisDecode (w : Word) : SisWord :=
  let op := w.extractLsb' 26 6
  let rd := w.extractLsb' 21 5
  let ra := w.extractLsb' 16 5
  let rb := w.extractLsb' 11 5
  let func := w.extractLsb' 0 11
  if op = 0x00 then sisAlu rd ra rb func
  else if op = 0x01 then sisMul rd ra rb func
  else if op = 0x28 then .instr (.jmp (w.extractLsb' 0 26))
  else if op = 0x29 then .instr (.call (w.extractLsb' 0 26))
  else if op = 0x2C then sisIf (w.extractLsb' 0 26 = 0) .ret
  else if op = 0x3F then sisSys rd ra (w.extractLsb' 12 4) (w.extractLsb' 0 12)
  else sisImm op rd ra (w.extractLsb' 0 16)

/-- The word of format K. -/
def encK (op : BitVec 6) (rd ra rb : Reg) (func : BitVec 11) : Word := op ++ rd ++ ra ++ rb ++ func

/-- The word of format I. -/
def encI (op : BitVec 6) (rd ra : Reg) (imm : BitVec 16) : Word := op ++ rd ++ ra ++ imm

/-- The word of format S. -/
def encS (rd ra : Reg) (sub : BitVec 4) (imm : BitVec 12) : Word := (0x3F : BitVec 6) ++ rd ++ ra ++ sub ++ imm

/-- The word of an instruction (Tables 5.1 to 5.5); none for a command that is no instruction. -/
def sisEncode : Instr → Option Word
  | .add rd ra rb => some (encK 0 rd ra rb 0)
  | .sub rd ra rb => some (encK 0 rd ra rb 1)
  | .andr rd ra rb => some (encK 0 rd ra rb 2)
  | .orr rd ra rb => some (encK 0 rd ra rb 3)
  | .xorr rd ra rb => some (encK 0 rd ra rb 4)
  | .nor rd ra rb => some (encK 0 rd ra rb 5)
  | .shl rd ra rb => some (encK 0 rd ra rb 6)
  | .shr rd ra rb => some (encK 0 rd ra rb 7)
  | .sar rd ra rb => some (encK 0 rd ra rb 8)
  | .ror rd ra rb => some (encK 0 rd ra rb 9)
  | .slt rd ra rb => some (encK 0 rd ra rb 10)
  | .sltu rd ra rb => some (encK 0 rd ra rb 11)
  | .seq rd ra rb => some (encK 0 rd ra rb 12)
  | .min rd ra rb => some (encK 0 rd ra rb 13)
  | .max rd ra rb => some (encK 0 rd ra rb 14)
  | .minu rd ra rb => some (encK 0 rd ra rb 15)
  | .maxu rd ra rb => some (encK 0 rd ra rb 16)
  | .mul rd ra rb => some (encK 1 rd ra rb 0)
  | .mulh rd ra rb => some (encK 1 rd ra rb 1)
  | .mulhu rd ra rb => some (encK 1 rd ra rb 2)
  | .div rd ra rb => some (encK 1 rd ra rb 4)
  | .divu rd ra rb => some (encK 1 rd ra rb 5)
  | .rem rd ra rb => some (encK 1 rd ra rb 6)
  | .remu rd ra rb => some (encK 1 rd ra rb 7)
  | .mac a ra rb => some (encK 1 (a.setWidth 5) ra rb 8)
  | .macu a ra rb => some (encK 1 (a.setWidth 5) ra rb 9)
  | .acrl rd a => some (encK 1 rd (a.setWidth 5) 0 10)
  | .acrh rd a => some (encK 1 rd (a.setWidth 5) 0 11)
  | .acw a ra rb => some (encK 1 (a.setWidth 5) ra rb 12)
  | .acclr a => some (encK 1 (a.setWidth 5) 0 0 13)
  | .addi rd ra imm => some (encI 2 rd ra imm)
  | .andi rd ra imm => some (encI 3 rd ra imm)
  | .ori rd ra imm => some (encI 4 rd ra imm)
  | .xori rd ra imm => some (encI 5 rd ra imm)
  | .slti rd ra imm => some (encI 6 rd ra imm)
  | .sltiu rd ra imm => some (encI 7 rd ra imm)
  | .ldw rd ra imm => some (encI 16 rd ra imm)
  | .ldh rd ra imm => some (encI 17 rd ra imm)
  | .ldhu rd ra imm => some (encI 18 rd ra imm)
  | .ldb rd ra imm => some (encI 19 rd ra imm)
  | .ldbu rd ra imm => some (encI 20 rd ra imm)
  | .stw rd ra imm => some (encI 24 rd ra imm)
  | .sth rd ra imm => some (encI 25 rd ra imm)
  | .stb rd ra imm => some (encI 26 rd ra imm)
  | .shli rd ra sh => some (encI 8 rd ra (sh.setWidth 16))
  | .shri rd ra sh => some (encI 9 rd ra (sh.setWidth 16))
  | .sari rd ra sh => some (encI 10 rd ra (sh.setWidth 16))
  | .rori rd ra sh => some (encI 11 rd ra (sh.setWidth 16))
  | .lui rd imm => some (encI 0x0C rd 0 imm)
  | .beq ra rb off => some (encI 32 ra rb (off.setWidth 16))
  | .bne ra rb off => some (encI 33 ra rb (off.setWidth 16))
  | .blt ra rb off => some (encI 34 ra rb (off.setWidth 16))
  | .bge ra rb off => some (encI 35 ra rb (off.setWidth 16))
  | .bltu ra rb off => some (encI 36 ra rb (off.setWidth 16))
  | .bgeu ra rb off => some (encI 37 ra rb (off.setWidth 16))
  | .jmp off => some ((0x28 : BitVec 6) ++ off)
  | .call off => some ((0x29 : BitVec 6) ++ off)
  | .jr ra imm => some (encI 0x2A 0 ra imm)
  | .callr ra imm => some (encI 0x2B 0 ra imm)
  | .ret => some (encK 0x2C 0 0 0 0)
  | .csrr rd n => some (encS rd 0 0 n)
  | .csrw ra n => some (encS 0 ra 1 n)
  | .modeWrite ra => some (encS 0 ra 1 1)
  | .gate n => some (encS 0 0 2 (n.setWidth 12))
  | .gret => some (encS 0 0 3 0)
  | .iret => some (encS 0 0 4 0)
  | .syncBar => some (encS 0 0 5 0)
  | .iflush => some (encS 0 0 6 0)
  | .mbar => some (encS 0 0 7 0)
  | .mpuswap => some (encS 0 0 8 0)
  | .wfi => some (encS 0 0 10 0)
  | .scrub ra => some (encS 0 ra 9 0)
  | .xop rd ra n => some (encS rd ra 11 (n.setWidth 12))
  | .chissue rd ra => some (encS rd ra 12 0)
  | .chwait rd ra d => some (encS rd ra 13 (d.setWidth 12))
  | .bkpt imm => some (encS 0 0 14 imm)
  | _ => none

/-- The command that a word spells by the bits of spec/opcode_table.json: its rows give none. -/
def decodeTableWord (_nbits _w : Nat) : Option Instr := none

end Sys2Proof
end

