-- ==== Sys2Proof/Config.lean ====
section
/-! DEFINITION. What the spec leaves to the silicon: the free values, the patch verification key and the control store ROM. No
constant here has a body, so no proof can see a value of it. -/
namespace Sys2Proof.Config

/-- The free values (log entry 2): where the spec states that a value results but not which, the machine takes
`free n` for the next number `n` of its counter of free values. -/
opaque free : Nat → Word

/-- The public key of the Lamplighter ROM that verifies vendor patches (R167), x then y: the spec gives no value. -/
opaque patchKey : List (BitVec 8)

/-- The microwords of the control store ROM (R146), written at manufacture: the spec gives no contents. -/
opaque romWord : Nat → BitVec 144

end Sys2Proof.Config
end

