-- ==== Sys2Proof/Machine/Bits.lean ====
section
/-! DEFINITION. Bit fields, byte order, sign extension, bit counts and the two CRCs that the spec names. -/
namespace Sys2Proof.Machine

/-- The value of the field of `len` bits from bit `lo`. -/
def fld (w : Word) (lo len : Nat) : Nat := w.toNat / 2 ^ lo % 2 ^ len

/-- The mask of a field. -/
def fldMask (lo len : Nat) : Word := BitVec.ofNat 32 ((2 ^ len - 1) * 2 ^ lo)

/-- The word with one field replaced by the low bits of `v`. -/
def putFld (w : Word) (lo len v : Nat) : Word :=
  (w &&& ~~~ fldMask lo len) ||| BitVec.ofNat 32 (v % 2 ^ len * 2 ^ lo)

/-- Bit `n` of a word. -/
def bitOf (w : Word) (n : Nat) : Bool := w.getLsbD n

/-- The word with only bit `n` set. -/
def bit (n : Nat) : Word := BitVec.ofNat 32 (2 ^ n)

/-- A Bool as a number. -/
def b2n (b : Bool) : Nat := if b then 1 else 0

/-- Addition that stops at a largest value (the saturating counts). -/
def satAdd (v d max : Nat) : Nat := min (v + d) max

/-- The four bytes of a word, least significant first (R3). -/
def wordBytes (w : Word) : List Byte :=
  [w.extractLsb' 0 8, w.extractLsb' 8 8, w.extractLsb' 16 8, w.extractLsb' 24 8]

/-- Bytes, least significant first, as a number (R3). -/
def bytesNat : List Byte → Nat
  | [] => 0
  | b :: t => b.toNat + 256 * bytesNat t

/-- A number as `n` bytes, least significant first (R3). -/
def natBytes : Nat → Nat → List Byte
  | 0, _ => []
  | n + 1, v => BitVec.ofNat 8 v :: natBytes n (v / 256)

/-- Bytes, most significant first, as a number (the two formats that say so). -/
def bytesNatBE (l : List Byte) : Nat := bytesNat l.reverse

/-- The bytes of a list of words in order (R3). -/
def wordsBytes (ws : List Word) : List Byte := ws.flatMap wordBytes

/-- The words of a list of bytes, four bytes each (R3); a short end is filled with zeros. -/
def bytesWords : List Byte → List Word
  | [] => []
  | [a] => [BitVec.ofNat 32 (bytesNat [a])]
  | [a, b] => [BitVec.ofNat 32 (bytesNat [a, b])]
  | [a, b, c] => [BitVec.ofNat 32 (bytesNat [a, b, c])]
  | a :: b :: c :: d :: t => BitVec.ofNat 32 (bytesNat [a, b, c, d]) :: bytesWords t

/-- The number of bits set among the low `n` bits. -/
def popN : Nat → Nat → Nat
  | 0, _ => 0
  | n + 1, v => v % 2 + popN n (v / 2)

/-- The number of bits set in a word. -/
def popWord (w : Word) : Nat := popN 32 w.toNat

/-- The lowest bit set among the low `n` bits, counted from `i`. -/
def lowestBit : Nat → Nat → Nat → Option Nat
  | 0, _, _ => none
  | n + 1, i, v => if v % 2 = 1 then some i else lowestBit n (i + 1) (v / 2)

/-- One bit of the CRC-16/CCITT-FALSE register (polynomial 0x1021). -/
def crc16Bit (c : Nat) : Nat :=
  if c / 32768 % 2 = 1 then (c * 2 % 65536) ^^^ 0x1021 else c * 2 % 65536

/-- One byte of the CRC-16/CCITT-FALSE register. -/
def crc16Byte (c : Nat) (b : Byte) : Nat :=
  crc16Bit (crc16Bit (crc16Bit (crc16Bit (crc16Bit (crc16Bit (crc16Bit (crc16Bit (c ^^^ (b.toNat * 256)))))))))

/-- CRC-16/CCITT-FALSE (Table 0.6): initial value 0xFFFF, no reflection, no final XOR. -/
def crc16 (l : List Byte) : Nat := l.foldl crc16Byte 0xFFFF

/-- One bit of the reflected CRC-32 register (polynomial 0x04C1_1DB7). -/
def crc32Bit (c : Nat) : Nat := if c % 2 = 1 then (c / 2) ^^^ 0xEDB88320 else c / 2

/-- One byte of the reflected CRC-32 register. -/
def crc32Byte (c : Nat) (b : Byte) : Nat :=
  crc32Bit (crc32Bit (crc32Bit (crc32Bit (crc32Bit (crc32Bit (crc32Bit (crc32Bit (c ^^^ b.toNat))))))))

/-- CRC-32 (Table 0.6: polynomial 0x04C1_1DB7). -/
def crc32 (l : List Byte) : Nat := (l.foldl crc32Byte 0xFFFFFFFF) ^^^ 0xFFFFFFFF

/-- One bit of the CRC-8 of the SMBus packet error code (x^8 + x^2 + x + 1). -/
def crc8Bit (c : Nat) : Nat := if c / 128 % 2 = 1 then (c * 2 % 256) ^^^ 0x07 else c * 2 % 256

/-- One byte of the SMBus packet error code (SMBus 3.1). -/
def crc8Byte (c : Nat) (b : Byte) : Nat :=
  crc8Bit (crc8Bit (crc8Bit (crc8Bit (crc8Bit (crc8Bit (crc8Bit (crc8Bit (c ^^^ b.toNat))))))))

/-- The SMBus packet error code of a byte string. -/
def pec (l : List Byte) : Nat := l.foldl crc8Byte 0

/-- An access of `n` bytes at `a` crosses a word boundary (R134). -/
def crosses (a n : Nat) : Bool := decide (4 < a % 4 + n)

end Sys2Proof.Machine
end

