-- ==== Sys2Proof/Machine/FaultTable.lean ====
section
/-! DEFINITION. The fault sources of Table 2.3 (R40): default class, floor, isolated unit and injection method of each
fault ID, and the permitted classes of R41. -/
namespace Sys2Proof.Machine

/-- The kind of unit that the Isolates column of Table 2.3 names. -/
inductive IsoKind where
  | none | copy | slice | converter | port | partner | queue | channel | member | mailbox
  deriving DecidableEq, Repr

/-- The injection methods of Table 2.6. -/
inductive InjMethod where
  | lv | ls | lt | rk | co | dr | be | mc | ec | ie | cc | pt | sc | ad | rl | ts | cm | sv | sn
  deriving DecidableEq, Repr

/-- One row of Table 2.3. -/
structure FaultRow where
  id : Nat
  dflt : Nat
  floor : Nat
  fixed : Bool
  iso : IsoKind
  inject : InjMethod
  deriving DecidableEq, Repr

/-- Table 2.3, part 1. -/
def faultRows1 : List FaultRow :=
  [⟨0x00, 6, 6, true, .none, .lv⟩,
   ⟨0x01, 3, 3, false, .copy, .lv⟩,
   ⟨0x02, 6, 6, true, .none, .lv⟩,
   ⟨0x03, 3, 3, false, .copy, .ls⟩,
   ⟨0x04, 2, 2, false, .none, .lt⟩,
   ⟨0x05, 4, 4, false, .copy, .rk⟩,
   ⟨0x06, 2, 2, false, .none, .co⟩,
   ⟨0x08, 6, 6, false, .none, .lv⟩,
   ⟨0x09, 2, 2, false, .none, .lt⟩,
   ⟨0x0A, 6, 5, false, .none, .dr⟩,
   ⟨0x10, 2, 2, false, .none, .co⟩,
   ⟨0x11, 5, 2, false, .none, .co⟩,
   ⟨0x12, 2, 2, false, .none, .co⟩,
   ⟨0x13, 2, 2, false, .none, .co⟩,
   ⟨0x14, 2, 2, false, .none, .co⟩,
   ⟨0x15, 2, 2, false, .none, .co⟩,
   ⟨0x16, 2, 2, false, .none, .be⟩,
   ⟨0x17, 5, 2, false, .none, .co⟩,
   ⟨0x18, 6, 5, false, .none, .mc⟩,
   ⟨0x19, 6, 5, false, .none, .mc⟩,
   ⟨0x1A, 2, 2, false, .none, .co⟩,
   ⟨0x20, 1, 1, false, .none, .ec⟩,
   ⟨0x21, 5, 2, false, .none, .ec⟩,
   ⟨0x22, 5, 2, false, .none, .ec⟩,
   ⟨0x23, 1, 1, false, .none, .ec⟩,
   ⟨0x24, 5, 2, false, .none, .ec⟩,
   ⟨0x25, 1, 1, false, .none, .ec⟩,
   ⟨0x26, 5, 2, false, .none, .ec⟩,
   ⟨0x27, 6, 5, false, .none, .ie⟩,
   ⟨0x28, 2, 2, false, .none, .co⟩,
   ⟨0x29, 2, 2, false, .none, .co⟩,
   ⟨0x2A, 2, 2, false, .none, .co⟩,
   ⟨0x2B, 7, 7, true, .none, .co⟩,
   ⟨0x30, 2, 0, false, .queue, .cc⟩,
   ⟨0x31, 2, 0, false, .queue, .co⟩,
   ⟨0x32, 2, 2, false, .queue, .co⟩]

/-- Table 2.3, part 2. -/
def faultRows2 : List FaultRow :=
  [⟨0x33, 2, 0, false, .none, .co⟩,
   ⟨0x34, 2, 0, false, .channel, .pt⟩,
   ⟨0x35, 0, 0, false, .none, .co⟩,
   ⟨0x40, 0, 0, false, .slice, .co⟩,
   ⟨0x41, 2, 2, false, .slice, .sc⟩,
   ⟨0x42, 2, 2, false, .slice, .sc⟩,
   ⟨0x43, 2, 2, false, .converter, .ad⟩,
   ⟨0x44, 2, 2, false, .converter, .ad⟩,
   ⟨0x50, 2, 0, false, .port, .pt⟩,
   ⟨0x51, 2, 0, false, .port, .pt⟩,
   ⟨0x52, 2, 0, false, .partner, .pt⟩,
   ⟨0x53, 2, 0, false, .none, .cc⟩,
   ⟨0x54, 2, 2, false, .none, .rl⟩,
   ⟨0x55, 2, 2, false, .member, .rl⟩,
   ⟨0x56, 2, 2, false, .none, .rl⟩,
   ⟨0x57, 2, 0, false, .mailbox, .co⟩,
   ⟨0x58, 0, 0, true, .none, .ts⟩,
   ⟨0x60, 6, 5, false, .none, .cm⟩,
   ⟨0x61, 6, 5, false, .none, .cm⟩,
   ⟨0x62, 2, 2, false, .none, .cm⟩,
   ⟨0x63, 5, 5, false, .none, .cm⟩,
   ⟨0x64, 6, 5, false, .none, .cm⟩,
   ⟨0x65, 6, 6, false, .none, .sv⟩,
   ⟨0x66, 6, 6, false, .none, .sv⟩,
   ⟨0x67, 5, 5, false, .none, .sv⟩,
   ⟨0x68, 2, 2, false, .none, .sv⟩,
   ⟨0x70, 6, 5, false, .none, .co⟩,
   ⟨0x71, 6, 5, false, .none, .co⟩,
   ⟨0x72, 2, 2, false, .none, .co⟩,
   ⟨0x73, 7, 7, true, .none, .co⟩,
   ⟨0x74, 2, 2, false, .none, .co⟩,
   ⟨0x75, 5, 5, false, .none, .sn⟩,
   ⟨0x76, 7, 5, false, .none, .sn⟩,
   ⟨0x77, 2, 2, false, .none, .co⟩,
   ⟨0x78, 6, 5, false, .none, .co⟩]

/-- Table 2.3. -/
def faultRows : List FaultRow := faultRows1 ++ faultRows2

/-- The row of an ID; none for a reserved ID. -/
def faultRow (id : Nat) : Option FaultRow := faultRows.find? (fun r => r.id == id)

/-- The ID is one of Table 2.3 (the others are reserved, R40). -/
def faultListed (id : Nat) : Bool := (faultRow id).isSome

/-- The class is one the source may carry (R41). -/
def classPermitted (r : FaultRow) (c : Nat) : Bool :=
  if r.fixed then c == r.floor
  else decide (r.floor ≤ c) && decide (c ≤ 7) &&
    (c != 1 || r.dflt == 1) && (c != 3 || r.id == 0x01 || r.id == 0x03) && (c != 4 || r.iso != .none)

/-- The next higher permitted class from `c` on, over `n` candidates (R41); a fixed source carries its class. -/
def classFrom (r : FaultRow) : Nat → Nat → Nat
  | 0, _ => r.floor
  | n + 1, c => if classPermitted r c then c else classFrom r n (c + 1)

/-- A class replaced, if it is not permitted, by the next higher permitted class (R41). -/
def classFix (r : FaultRow) (c : Nat) : Nat := classFrom r 8 c

/-- The sources whose pending bit a W1C clears only when the detecting condition has gone (R45). -/
def faultConditional (id : Nat) : Bool :=
  (decide (0x40 ≤ id) && decide (id ≤ 0x44)) || (decide (0x54 ≤ id) && decide (id ≤ 0x56)) ||
  (decide (0x60 ≤ id) && decide (id ≤ 0x68)) || id == 0x75 || id == 0x76

/-- The latent faults that block an unsnuff whatever their class (R60). -/
def latentIds : List Nat := [0x04, 0x09, 0x42, 0x43, 0x44, 0x75, 0x76]

/-- The sources whose row says Precise (R44). -/
def preciseIds : List Nat := [0x10, 0x11, 0x12, 0x13, 0x14, 0x17, 0x1A, 0x28]

end Sys2Proof.Machine
end

