-- ==== Sys2Proof/Machine/Regs.lean ====
section
/-! DEFINITION. The addresses of the registers and of their fields, from the "Registers" section of each chapter of spec/ and Table 1.4. An array of registers takes its index. -/
namespace Sys2Proof.Machine

/-! Identity and clamp diagnostics -/

def SYS_ID : Nat := 0x40000000
def SYS_ID_V : Fld := ⟨SYS_ID, 0, 32⟩
def SYS_VARIANT : Nat := 0x40000004
def SYS_VARIANT_GRADE : Fld := ⟨SYS_VARIANT, 0, 2⟩
def SYS_STRAP : Nat := 0x40000008
def SYS_STRAP_RING_MST : Fld := ⟨SYS_STRAP, 0, 1⟩
def SYS_STRAP_HOSTSEL : Fld := ⟨SYS_STRAP, 1, 1⟩
def SYS_STRAP_MADDR : Fld := ⟨SYS_STRAP, 2, 2⟩
def SYS_CLAMPCNT : Nat := 0x40000010
def SYS_CLAMPCNT_COUNT : Fld := ⟨SYS_CLAMPCNT, 0, 16⟩
def SYS_CLAMPCNT_CLR : Fld := ⟨SYS_CLAMPCNT, 31, 1⟩
def SYS_CLAMPLAST : Nat := 0x40000014
def SYS_CLAMPLAST_V : Fld := ⟨SYS_CLAMPLAST, 0, 32⟩

/-! Power management -/

def PM_REQ : Nat := 0x40001000
def PM_REQ_TARGET : Fld := ⟨PM_REQ, 0, 3⟩
def PM_REQ_ARMED : Fld := ⟨PM_REQ, 8, 1⟩
def PM_STAT : Nat := 0x40001004
def PM_STAT_STATE : Fld := ⟨PM_STAT, 0, 3⟩
def PM_STAT_LAST : Fld := ⟨PM_STAT, 4, 3⟩
def PM_STAT_RESULT : Fld := ⟨PM_STAT, 8, 4⟩
def PM_STAT_COLD : Fld := ⟨PM_STAT, 12, 1⟩
def PM_LADDER : Nat := 0x40001008
def PM_LADDER_DEEPEST : Fld := ⟨PM_LADDER, 0, 3⟩
def PM_LADDER_B0RET : Fld := ⟨PM_LADDER, 8, 1⟩
def PM_WAKECFG : Nat := 0x4000100C
def PM_WAKECFG_EN : Fld := ⟨PM_WAKECFG, 0, 4⟩
def PM_WAKECFG_POL : Fld := ⟨PM_WAKECFG, 8, 4⟩
def PM_WAKESRC : Nat := 0x40001010
def PM_WAKESRC_V : Fld := ⟨PM_WAKESRC, 0, 15⟩
def PM_IRQ : Nat := 0x40001014
def PM_IRQ_DONE : Fld := ⟨PM_IRQ, 0, 1⟩
def PM_IRQEN : Nat := 0x40001018
def PM_IRQEN_DONE : Fld := ⟨PM_IRQEN, 0, 1⟩
def PM_SUPPLY : Nat := 0x4000101C
def PM_SUPPLY_V : Fld := ⟨PM_SUPPLY, 0, 5⟩
def PM_EXITCYC : Nat := 0x40001020
def PM_EXITCYC_V : Fld := ⟨PM_EXITCYC, 0, 24⟩

/-! Clocks -/

def CLK_PLLA : Nat := 0x40002000
def CLK_PLLA_MULT : Fld := ⟨CLK_PLLA, 0, 5⟩
def CLK_CTL : Nat := 0x40002004
def CLK_CTL_PLLBRST : Fld := ⟨CLK_CTL, 0, 1⟩
def CLK_STAT : Nat := 0x40002008
def CLK_STAT_CCLKPLLA : Fld := ⟨CLK_STAT, 0, 1⟩
def CLK_STAT_ECLKPLLB : Fld := ⟨CLK_STAT, 1, 1⟩
def CLK_STAT_PLLALOCK : Fld := ⟨CLK_STAT, 2, 1⟩
def CLK_STAT_PLLBLOCK : Fld := ⟨CLK_STAT, 3, 1⟩
def CLK_STAT_RELOCK : Fld := ⟨CLK_STAT, 4, 1⟩
def CLK_STAT_XTALMOK : Fld := ⟨CLK_STAT, 5, 1⟩
def CLK_STAT_XTAL32OK : Fld := ⟨CLK_STAT, 6, 1⟩
def CLK_STAT_MULT : Fld := ⟨CLK_STAT, 8, 5⟩
def CLK_CLKOUT : Nat := 0x4000200C
def CLK_CLKOUT_SRC : Fld := ⟨CLK_CLKOUT, 0, 2⟩
def CLK_CLKOUT_DIV : Fld := ⟨CLK_CLKOUT, 16, 9⟩
def CLK_MON : Nat := 0x40002010
def CLK_MON_V : Fld := ⟨CLK_MON, 0, 6⟩
def CLK_IRQ : Nat := 0x40002014
def CLK_IRQ_RELOCK : Fld := ⟨CLK_IRQ, 0, 1⟩
def CLK_IRQ_LOCKFAIL : Fld := ⟨CLK_IRQ, 1, 1⟩
def CLK_IRQEN : Nat := 0x40002018
def CLK_IRQEN_V : Fld := ⟨CLK_IRQEN, 0, 2⟩
def CLK_RELOCKCYC : Nat := 0x4000201C
def CLK_RELOCKCYC_V : Fld := ⟨CLK_RELOCKCYC, 0, 16⟩

/-! Lanterns -/

def LNT_MODE : Nat := 0x40003000
def LNT_MODE_MODE : Fld := ⟨LNT_MODE, 0, 2⟩
def LNT_MODE_CPOWER : Fld := ⟨LNT_MODE, 8, 1⟩
def LNT_STAT : Nat := 0x40003004
def LNT_STAT_INSVC : Fld := ⟨LNT_STAT, 0, 3⟩
def LNT_STAT_RETIRED : Fld := ⟨LNT_STAT, 4, 3⟩
def LNT_STAT_LEAD : Fld := ⟨LNT_STAT, 8, 2⟩
def LNT_STAT_RKACT : Fld := ⟨LNT_STAT, 12, 1⟩
def LNT_STAT_JOINACT : Fld := ⟨LNT_STAT, 13, 1⟩
def LNT_RKCNT : Nat := 0x40003008
def LNT_RKCNT_A : Fld := ⟨LNT_RKCNT, 0, 8⟩
def LNT_RKCNT_B : Fld := ⟨LNT_RKCNT, 8, 8⟩
def LNT_RKCNT_C : Fld := ⟨LNT_RKCNT, 16, 8⟩
def LNT_RKLAST : Nat := 0x4000300C
def LNT_RKLAST_LEN : Fld := ⟨LNT_RKLAST, 0, 12⟩
def LNT_RKLAST_COPY : Fld := ⟨LNT_RKLAST, 12, 2⟩
def LNT_RKLAST_JOIN : Fld := ⟨LNT_RKLAST, 14, 1⟩
def LNT_RKLAST_FAILED : Fld := ⟨LNT_RKLAST, 15, 1⟩
def LNT_CMPDIFF (n : Nat) : Nat := 0x40003020 + 4 * n
def LNT_CMPDIFF_V (n : Nat) : Fld := ⟨LNT_CMPDIFF n, 0, 32⟩
def LNT_CMPCYC : Nat := 0x40003040
def LNT_CMPCYC_V : Fld := ⟨LNT_CMPCYC, 0, 32⟩
def LNT_STPER : Nat := 0x40003050
def LNT_STPER_PER : Fld := ⟨LNT_STPER, 0, 14⟩
def LNT_STSTAT : Nat := 0x40003054
def LNT_STSTAT_OKC : Fld := ⟨LNT_STSTAT, 0, 1⟩
def LNT_STSTAT_OKE : Fld := ⟨LNT_STSTAT, 1, 1⟩
def LNT_STSTAT_PC : Fld := ⟨LNT_STSTAT, 8, 8⟩
def LNT_STSTAT_PE : Fld := ⟨LNT_STSTAT, 16, 7⟩
def LNT_STSTAT_KC : Fld := ⟨LNT_STSTAT, 24, 2⟩
def LNT_STRETRY : Nat := 0x40003058
def LNT_STRETRY_COUNT : Fld := ⟨LNT_STRETRY, 0, 16⟩
def LNT_BUBBLE : Nat := 0x4000305C
def LNT_BUBBLE_COUNT : Fld := ⟨LNT_BUBBLE, 0, 16⟩
def LNT_SIG (n : Nat) : Nat := 0x40003060 + 4 * n
def LNT_SIG_V (n : Nat) : Fld := ⟨LNT_SIG n, 0, 32⟩
def LNT_ECMPDIFF (n : Nat) : Nat := 0x40003080 + 4 * n
def LNT_ECMPDIFF_V (n : Nat) : Fld := ⟨LNT_ECMPDIFF n, 0, 32⟩
def LNT_ECMPCYC : Nat := 0x40003090
def LNT_ECMPCYC_V : Fld := ⟨LNT_ECMPCYC, 0, 32⟩

/-! Snuffer and watchdogs -/

def SNF_STAT : Nat := 0x40004000
def SNF_STAT_SNUFFED : Fld := ⟨SNF_STAT, 0, 24⟩
def SNF_STAT_FAULTN : Fld := ⟨SNF_STAT, 24, 1⟩
def SNF_STAT_ARMED : Fld := ⟨SNF_STAT, 25, 1⟩
def SNF_STAT_LIMP : Fld := ⟨SNF_STAT, 26, 1⟩
def SNF_STAT_RELEASED : Fld := ⟨SNF_STAT, 27, 1⟩
def SNF_STAT_WWDOK : Fld := ⟨SNF_STAT, 28, 1⟩
def SNF_STAT_QAWOK : Fld := ⟨SNF_STAT, 29, 1⟩
def SNF_REQ : Nat := 0x40004004
def SNF_REQ_V : Fld := ⟨SNF_REQ, 0, 24⟩
def SNF_OPLVL : Nat := 0x40004008
def SNF_OPLVL_V : Fld := ⟨SNF_OPLVL, 0, 24⟩
def SNF_SWSNUFF : Nat := 0x4000400C
def SNF_SWSNUFF_V : Fld := ⟨SNF_SWSNUFF, 0, 24⟩
def SNF_RELMASK : Nat := 0x40004010
def SNF_RELMASK_V : Fld := ⟨SNF_RELMASK, 0, 24⟩
def SNF_UNSNUFF : Nat := 0x40004014
def SNF_UNSNUFF_V : Fld := ⟨SNF_UNSNUFF, 0, 32⟩
def SNF_CHAL : Nat := 0x40004018
def SNF_CHAL_V : Fld := ⟨SNF_CHAL, 0, 32⟩
def SNF_CHALRSP : Nat := 0x4000401C
def SNF_CHALRSP_V : Fld := ⟨SNF_CHALRSP, 0, 32⟩
def SNF_UNSRES : Nat := 0x40004020
def SNF_UNSRES_CODE : Fld := ⟨SNF_UNSRES, 0, 4⟩
def SNF_UNSRES_FAULT : Fld := ⟨SNF_UNSRES, 8, 8⟩
def SNF_UNSRES_OUT : Fld := ⟨SNF_UNSRES, 16, 5⟩
def SNF_RDBK : Nat := 0x40004024
def SNF_RDBK_V : Fld := ⟨SNF_RDBK, 0, 24⟩
def SNF_WWDCFG : Nat := 0x40004040
def SNF_WWDCFG_CLOSE : Fld := ⟨SNF_WWDCFG, 0, 16⟩
def SNF_WWDCFG_OPEN : Fld := ⟨SNF_WWDCFG, 16, 16⟩
def SNF_WWDKICK : Nat := 0x40004044
def SNF_WWDKICK_V : Fld := ⟨SNF_WWDKICK, 0, 32⟩
def SNF_WWDCNT : Nat := 0x40004048
def SNF_WWDCNT_V : Fld := ⟨SNF_WWDCNT, 0, 16⟩
def SNF_QAWCFG : Nat := 0x40004050
def SNF_QAWCFG_CLOSE : Fld := ⟨SNF_QAWCFG, 0, 16⟩
def SNF_QAWCFG_OPEN : Fld := ⟨SNF_QAWCFG, 16, 16⟩
def SNF_QAWQ : Nat := 0x40004054
def SNF_QAWQ_V : Fld := ⟨SNF_QAWQ, 0, 8⟩
def SNF_QAWANS : Nat := 0x40004058
def SNF_QAWANS_V : Fld := ⟨SNF_QAWANS, 0, 32⟩
def SNF_QAWCNT : Nat := 0x4000405C
def SNF_QAWCNT_V : Fld := ⟨SNF_QAWCNT, 0, 16⟩
def SNF_WDCTL : Nat := 0x40004060
def SNF_WDCTL_DBGFRZ : Fld := ⟨SNF_WDCTL, 0, 1⟩
def SNF_OCFG (n : Nat) : Nat := 0x40004100 + 4 * n
def SNF_OCFG_SAFE (n : Nat) : Fld := ⟨SNF_OCFG n, 0, 1⟩
def SNF_OCFG_OD (n : Nat) : Fld := ⟨SNF_OCFG n, 1, 1⟩
def SNF_OCFG_USED (n : Nat) : Fld := ⟨SNF_OCFG n, 2, 1⟩
def SNF_OCFG_RINGRX (n : Nat) : Fld := ⟨SNF_OCFG n, 3, 1⟩
def SNF_OCFG_HOLDOFF (n : Nat) : Fld := ⟨SNF_OCFG n, 16, 10⟩

/-! Fault collector and log -/

def FLT_STAT : Nat := 0x40005000
def FLT_STAT_SNOTICE : Fld := ⟨FLT_STAT, 0, 1⟩
def FLT_STAT_NINT : Fld := ⟨FLT_STAT, 1, 1⟩
def FLT_STAT_LOGOVF : Fld := ⟨FLT_STAT, 2, 1⟩
def FLT_STAT_FIRSTV : Fld := ⟨FLT_STAT, 3, 1⟩
def FLT_STAT_LIMP : Fld := ⟨FLT_STAT, 4, 1⟩
def FLT_STAT_RSTCNT : Fld := ⟨FLT_STAT, 8, 3⟩
def FLT_STAT_LASTID : Fld := ⟨FLT_STAT, 16, 8⟩
def FLT_CFG : Nat := 0x40005004
def FLT_CFG_NLVL : Fld := ⟨FLT_CFG, 0, 3⟩
def FLT_CFG_INJEN : Fld := ⟨FLT_CFG, 8, 1⟩
def FLT_PEND (n : Nat) : Nat := 0x40005010 + 4 * n
def FLT_PEND_V (n : Nat) : Fld := ⟨FLT_PEND n, 0, 32⟩
def FLT_LOGHEAD : Nat := 0x40005020
def FLT_LOGHEAD_HEAD : Fld := ⟨FLT_LOGHEAD, 0, 8⟩
def FLT_LOGHEAD_COUNT : Fld := ⟨FLT_LOGHEAD, 16, 16⟩
def FLT_LOGTAIL : Nat := 0x40005024
def FLT_LOGTAIL_TAIL : Fld := ⟨FLT_LOGTAIL, 0, 8⟩
def FLT_REPEAT : Nat := 0x40005028
def FLT_REPEAT_COUNT : Fld := ⟨FLT_REPEAT, 0, 16⟩
def FLT_LOST : Nat := 0x4000502C
def FLT_LOST_COUNT : Fld := ⟨FLT_LOST, 0, 16⟩
def FLT_FIRST (n : Nat) : Nat := 0x40005030 + 4 * n
def FLT_FIRST_V (n : Nat) : Fld := ⟨FLT_FIRST n, 0, 32⟩
def FLT_INJKEY : Nat := 0x40005040
def FLT_INJKEY_V : Fld := ⟨FLT_INJKEY, 0, 32⟩
def FLT_INJ : Nat := 0x40005044
def FLT_INJ_ID : Fld := ⟨FLT_INJ, 0, 8⟩
def FLT_INJ_ARG : Fld := ⟨FLT_INJ, 16, 16⟩
def FLT_INJADDR : Nat := 0x40005048
def FLT_INJADDR_V : Fld := ⟨FLT_INJADDR, 0, 32⟩
def FLT_CLS (n : Nat) : Nat := 0x40005100 + 4 * n
def FLT_CLS_CLASS0 (n : Nat) : Fld := ⟨FLT_CLS n, 0, 3⟩
def FLT_CLS_RING0 (n : Nat) : Fld := ⟨FLT_CLS n, 3, 1⟩
def FLT_CLS_CLASS1 (n : Nat) : Fld := ⟨FLT_CLS n, 8, 3⟩
def FLT_CLS_RING1 (n : Nat) : Fld := ⟨FLT_CLS n, 11, 1⟩
def FLT_CLS_CLASS2 (n : Nat) : Fld := ⟨FLT_CLS n, 16, 3⟩
def FLT_CLS_RING2 (n : Nat) : Fld := ⟨FLT_CLS n, 19, 1⟩
def FLT_CLS_CLASS3 (n : Nat) : Fld := ⟨FLT_CLS n, 24, 3⟩
def FLT_CLS_RING3 (n : Nat) : Fld := ⟨FLT_CLS n, 27, 1⟩
def FLT_OSET (n : Nat) : Nat := 0x40005200 + 4 * n
def FLT_OSET_V (n : Nat) : Fld := ⟨FLT_OSET n, 0, 24⟩

/-! Interrupt controller -/

def IC_VCFG (n : Nat) : Nat := 0x40006000 + 4 * n
def IC_VCFG_LVL (n : Nat) : Fld := ⟨IC_VCFG n, 0, 4⟩
def IC_VCFG_EN (n : Nat) : Fld := ⟨IC_VCFG n, 8, 1⟩
def IC_VCFG_SW (n : Nat) : Fld := ⟨IC_VCFG n, 9, 1⟩
def IC_VCFG_REQ (n : Nat) : Fld := ⟨IC_VCFG n, 16, 1⟩
def IC_PEND (n : Nat) : Nat := 0x40006400 + 4 * n
def IC_PEND_V (n : Nat) : Fld := ⟨IC_PEND n, 0, 32⟩
def IC_STAT : Nat := 0x40006420
def IC_STAT_LAST : Fld := ⟨IC_STAT, 0, 8⟩
def IC_STAT_COUNT : Fld := ⟨IC_STAT, 16, 16⟩
def IC_HOLDMAX : Nat := 0x40006424
def IC_HOLDMAX_V : Fld := ⟨IC_HOLDMAX, 0, 8⟩
def IC_XADDR (n : Nat) : Nat := 0x40006440 + 4 * n
def IC_XADDR_V (n : Nat) : Fld := ⟨IC_XADDR n, 0, 32⟩

/-! Protection map -/

def MPU_CTL : Nat := 0x40007000
def MPU_CTL_MODE : Fld := ⟨MPU_CTL, 0, 1⟩
def MPU_CTL_STAGED : Fld := ⟨MPU_CTL, 8, 1⟩
def MPU_STAT : Nat := 0x40007004
def MPU_STAT_PSET : Fld := ⟨MPU_STAT, 0, 1⟩
def MPU_STAT_BARRIERS : Fld := ⟨MPU_STAT, 8, 8⟩
def MPU_FADDR : Nat := 0x40007008
def MPU_FADDR_V : Fld := ⟨MPU_FADDR, 0, 32⟩
def MPU_FINFO : Nat := 0x4000700C
def MPU_FINFO_MASTER : Fld := ⟨MPU_FINFO, 0, 4⟩
def MPU_FINFO_KIND : Fld := ⟨MPU_FINFO, 4, 2⟩
def MPU_FINFO_BUF : Fld := ⟨MPU_FINFO, 6, 1⟩
def MPU_FINFO_SET : Fld := ⟨MPU_FINFO, 7, 1⟩
def MPU_FINFO_REASON : Fld := ⟨MPU_FINFO, 8, 3⟩
def MPU_FCNT : Nat := 0x40007010
def MPU_FCNT_COUNT : Fld := ⟨MPU_FCNT, 0, 16⟩
def MPU_BASE (n : Nat) : Nat := 0x40007100 + 8 * n
def MPU_BASE_EN (n : Nat) : Fld := ⟨MPU_BASE n, 0, 1⟩
def MPU_BASE_R (n : Nat) : Fld := ⟨MPU_BASE n, 2, 1⟩
def MPU_BASE_W (n : Nat) : Fld := ⟨MPU_BASE n, 3, 1⟩
def MPU_BASE_X (n : Nat) : Fld := ⟨MPU_BASE n, 4, 1⟩
def MPU_BASE_BASE (n : Nat) : Fld := ⟨MPU_BASE n, 8, 24⟩
def MPU_ATTR (n : Nat) : Nat := 0x40007104 + 8 * n
def MPU_ATTR_SIZE (n : Nat) : Fld := ⟨MPU_ATTR n, 0, 6⟩
def MPU_ATTR_SUBEN (n : Nat) : Fld := ⟨MPU_ATTR n, 8, 8⟩
def MPU_ATTR_MMASK (n : Nat) : Fld := ⟨MPU_ATTR n, 16, 9⟩

/-! Gate control -/

def GT_LASTF : Nat := 0x40008000
def GT_LASTF_GATE : Fld := ⟨GT_LASTF, 0, 7⟩
def GT_LASTF_SUB : Fld := ⟨GT_LASTF, 8, 4⟩
def GT_LASTF_LEVEL : Fld := ⟨GT_LASTF, 12, 4⟩
def GT_LASTF_ID : Fld := ⟨GT_LASTF, 16, 8⟩
def GT_LASTV : Nat := 0x40008004
def GT_LASTV_V : Fld := ⟨GT_LASTV, 0, 32⟩
def GT_HWM : Nat := 0x40008008
def GT_HWM_GD : Fld := ⟨GT_HWM, 0, 4⟩
def GT_HWM_SS : Fld := ⟨GT_HWM, 16, 9⟩
def GT_CALLS : Nat := 0x4000800C
def GT_CALLS_COUNT : Fld := ⟨GT_CALLS, 0, 32⟩

/-! Microcode control -/

def MC_ROMID : Nat := 0x40009000
def MC_ROMID_V : Fld := ⟨MC_ROMID, 0, 32⟩
def MC_PSTAT : Nat := 0x40009004
def MC_PSTAT_LOADED : Fld := ⟨MC_PSTAT, 0, 1⟩
def MC_PSTAT_ABSENT : Fld := ⟨MC_PSTAT, 1, 1⟩
def MC_PSTAT_RESULT : Fld := ⟨MC_PSTAT, 2, 3⟩
def MC_PSTAT_PMIN : Fld := ⟨MC_PSTAT, 16, 16⟩
def MC_PVER : Nat := 0x40009008
def MC_PVER_V : Fld := ⟨MC_PVER, 0, 32⟩
def MC_PCOUNT : Nat := 0x4000900C
def MC_PCOUNT_NWORDS : Fld := ⟨MC_PCOUNT, 0, 11⟩
def MC_PCOUNT_NMATCH : Fld := ⟨MC_PCOUNT, 16, 7⟩
def MC_SCAN : Nat := 0x40009010
def MC_SCAN_ADDR : Fld := ⟨MC_SCAN, 0, 13⟩
def MC_SCAN_FAIL : Fld := ⟨MC_SCAN, 16, 1⟩
def MC_SCAN_PASS : Fld := ⟨MC_SCAN, 31, 1⟩
def MC_UTCNT : Nat := 0x40009014
def MC_UTCNT_TRAPS : Fld := ⟨MC_UTCNT, 0, 16⟩
def MC_UTCNT_STALLS : Fld := ⟨MC_UTCNT, 16, 8⟩
def MC_CWSTAT : Nat := 0x40009018
def MC_CWSTAT_LOADED : Fld := ⟨MC_CWSTAT, 0, 1⟩
def MC_CWSTAT_REJECTED : Fld := ⟨MC_CWSTAT, 1, 1⟩
def MC_CWSTAT_NXOP : Fld := ⟨MC_CWSTAT, 4, 7⟩
def MC_CWSTAT_NWORDS : Fld := ⟨MC_CWSTAT, 16, 11⟩
def MC_CSADDR : Nat := 0x40009020
def MC_CSADDR_V : Fld := ⟨MC_CSADDR, 0, 13⟩
def MC_CSDATA (n : Nat) : Nat := 0x40009024 + 4 * n
def MC_CSDATA_V (n : Nat) : Fld := ⟨MC_CSDATA n, 0, 32⟩
def MC_CSDATA4 : Nat := 0x40009034
def MC_CSDATA4_V : Fld := ⟨MC_CSDATA4, 0, 16⟩
def MC_CSCTL : Nat := 0x40009038
def MC_CSCTL_RD : Fld := ⟨MC_CSCTL, 0, 1⟩
def MC_CSCTL_WR : Fld := ⟨MC_CSCTL, 1, 1⟩
def MC_XOP (n : Nat) : Nat := 0x40009100 + 4 * n
def MC_XOP_OFFSET (n : Nat) : Fld := ⟨MC_XOP n, 0, 10⟩
def MC_XOP_VALID (n : Nat) : Fld := ⟨MC_XOP n, 15, 1⟩
def MC_XOP_BOUND (n : Nat) : Fld := ⟨MC_XOP n, 16, 12⟩
def MC_PM (n : Nat) : Nat := 0x40009200 + 4 * n
def MC_PM_V (n : Nat) : Fld := ⟨MC_PM n, 0, 32⟩

/-! Key store -/

def KS_LC : Nat := 0x4000A000
def KS_LC_STATE : Fld := ⟨KS_LC, 0, 2⟩
def KS_LC_ROOT0 : Fld := ⟨KS_LC, 8, 1⟩
def KS_LC_ROOT1 : Fld := ⟨KS_LC, 9, 1⟩
def KS_LC_REV0 : Fld := ⟨KS_LC, 10, 1⟩
def KS_LC_REV1 : Fld := ⟨KS_LC, 11, 1⟩
def KS_LC_CORR : Fld := ⟨KS_LC, 16, 8⟩
def KS_OTPCMD : Nat := 0x4000A008
def KS_OTPCMD_OP : Fld := ⟨KS_OTPCMD, 0, 4⟩
def KS_OTPCMD_KEY : Fld := ⟨KS_OTPCMD, 16, 16⟩
def KS_OTPSTAT : Nat := 0x4000A00C
def KS_OTPSTAT_BUSY : Fld := ⟨KS_OTPSTAT, 0, 1⟩
def KS_OTPSTAT_RESULT : Fld := ⟨KS_OTPSTAT, 4, 4⟩
def KS_OTPDATA (n : Nat) : Nat := 0x4000A010 + 4 * n
def KS_OTPDATA_V (n : Nat) : Fld := ⟨KS_OTPDATA n, 0, 32⟩
def KS_KCMD : Nat := 0x4000A040
def KS_KCMD_UPDATE : Fld := ⟨KS_KCMD, 0, 1⟩
def KS_KCMD_KEY : Fld := ⟨KS_KCMD, 16, 16⟩
def KS_KSTAT : Nat := 0x4000A044
def KS_KSTAT_BUSY : Fld := ⟨KS_KSTAT, 0, 1⟩
def KS_KSTAT_RESULT : Fld := ⟨KS_KSTAT, 4, 4⟩
def KS_KSTAT_JST0 : Fld := ⟨KS_KSTAT, 8, 2⟩
def KS_KSTAT_JST1 : Fld := ⟨KS_KSTAT, 10, 2⟩
def KS_KSTAT_ACTIVE : Fld := ⟨KS_KSTAT, 12, 1⟩
def KS_JGEN : Nat := 0x4000A048
def KS_JGEN_V : Fld := ⟨KS_JGEN, 0, 32⟩
def KS_SLOTST (n : Nat) : Nat := 0x4000A050 + 4 * n
def KS_SLOTST_ACTIVE (n : Nat) : Fld := ⟨KS_SLOTST n, 0, 1⟩
def KS_SLOTST_ROOT (n : Nat) : Fld := ⟨KS_SLOTST n, 1, 1⟩
def KS_SLOTGEN (n : Nat) : Nat := 0x4000A060 + 4 * n
def KS_SLOTGEN_V (n : Nat) : Fld := ⟨KS_SLOTGEN n, 0, 32⟩
def KS_SIGNER : Nat := 0x4000A070
def KS_SIGNER_SIG0 : Fld := ⟨KS_SIGNER, 0, 2⟩
def KS_SIGNER_SIG1 : Fld := ⟨KS_SIGNER, 2, 2⟩
def KS_SIGNER_DIFF : Fld := ⟨KS_SIGNER, 4, 1⟩
def KS_PCMD : Nat := 0x4000A074
def KS_PCMD_OP : Fld := ⟨KS_PCMD, 0, 2⟩
def KS_PCMD_KEY : Fld := ⟨KS_PCMD, 16, 16⟩
def KS_PDATA : Nat := 0x4000A078
def KS_PDATA_V : Fld := ⟨KS_PDATA, 0, 32⟩
def KS_PSTAT : Nat := 0x4000A07C
def KS_PSTAT_BUSY : Fld := ⟨KS_PSTAT, 0, 1⟩
def KS_PSTAT_RESULT : Fld := ⟨KS_PSTAT, 4, 4⟩
def KS_PSTAT_VERIFIED : Fld := ⟨KS_PSTAT, 8, 1⟩
def KS_UNLCTL : Nat := 0x4000A080
def KS_UNLCTL_DENY : Fld := ⟨KS_UNLCTL, 0, 1⟩
def KS_UNLCTL_END : Fld := ⟨KS_UNLCTL, 1, 1⟩
def KS_UNLSTAT : Nat := 0x4000A084
def KS_UNLSTAT_ACTIVE : Fld := ⟨KS_UNLSTAT, 0, 1⟩
def KS_UNLSTAT_CHAL : Fld := ⟨KS_UNLSTAT, 1, 1⟩
def KS_UNLSTAT_SLOT : Fld := ⟨KS_UNLSTAT, 2, 2⟩
def KS_UNLSTAT_FAILS : Fld := ⟨KS_UNLSTAT, 4, 4⟩
def KS_UNLSTAT_RES : Fld := ⟨KS_UNLSTAT, 8, 4⟩
def KS_BOOT : Nat := 0x4000A090
def KS_BOOT_COLD : Fld := ⟨KS_BOOT, 0, 1⟩
def KS_BOOT_CAUSE : Fld := ⟨KS_BOOT, 1, 3⟩
def KS_BOOT_COPYOK : Fld := ⟨KS_BOOT, 4, 3⟩
def KS_BOOT_LNTC : Fld := ⟨KS_BOOT, 7, 1⟩
def KS_BOOT_LNTE : Fld := ⟨KS_BOOT, 8, 1⟩
def KS_BOOT_MEMOK : Fld := ⟨KS_BOOT, 9, 1⟩
def KS_BOOTCYC : Nat := 0x4000A094
def KS_BOOTCYC_V : Fld := ⟨KS_BOOTCYC, 0, 32⟩
def KS_IMGSEL : Nat := 0x4000A100
def KS_IMGSEL_SLOT : Fld := ⟨KS_IMGSEL, 0, 1⟩
def KS_IMGSEL_APPLIED : Fld := ⟨KS_IMGSEL, 1, 1⟩
def KS_IMGSEL_SEALED : Fld := ⟨KS_IMGSEL, 2, 1⟩
def KS_IMGSEL_SKIP : Fld := ⟨KS_IMGSEL, 3, 1⟩
def KS_IMGSEL_CLAMPED : Fld := ⟨KS_IMGSEL, 4, 1⟩
def KS_IMGSEL_NOIMAGE : Fld := ⟨KS_IMGSEL, 5, 1⟩
def KS_IMGA : Nat := 0x4000A104
def KS_IMGA_CODE : Fld := ⟨KS_IMGA, 0, 4⟩
def KS_IMGA_KSLOT : Fld := ⟨KS_IMGA, 4, 2⟩
def KS_IMGA_SECT : Fld := ⟨KS_IMGA, 8, 8⟩
def KS_IMGB : Nat := 0x4000A108
def KS_IMGB_CODE : Fld := ⟨KS_IMGB, 0, 4⟩
def KS_IMGB_KSLOT : Fld := ⟨KS_IMGB, 4, 2⟩
def KS_IMGB_SECT : Fld := ⟨KS_IMGB, 8, 8⟩
def KS_IVER (n : Nat) : Nat := 0x4000A10C + 4 * n
def KS_IVER_V (n : Nat) : Fld := ⟨KS_IVER n, 0, 32⟩
def KS_IMGSKIP : Nat := 0x4000A114
def KS_IMGSKIP_V : Fld := ⟨KS_IMGSKIP, 0, 32⟩
def KS_IMGKEY : Nat := 0x4000A118
def KS_IMGKEY_KEY0 : Fld := ⟨KS_IMGKEY, 0, 2⟩
def KS_IMGKEY_KEY1 : Fld := ⟨KS_IMGKEY, 2, 2⟩
def KS_IMGKEY_ROT : Fld := ⟨KS_IMGKEY, 4, 1⟩
def KS_RBCNT : Nat := 0x4000A11C
def KS_RBCNT_COUNT : Fld := ⟨KS_RBCNT, 0, 7⟩
def KS_RBCNT_BUSY : Fld := ⟨KS_RBCNT, 8, 1⟩
def KS_RBCNT_RBVAL : Fld := ⟨KS_RBCNT, 16, 7⟩
def KS_RBADV : Nat := 0x4000A120
def KS_RBADV_T : Fld := ⟨KS_RBADV, 0, 7⟩
def KS_RBADV_KEY : Fld := ⟨KS_RBADV, 16, 16⟩
def KS_KBUF (n : Nat) : Nat := 0x4000A200 + 4 * n
def KS_KBUF_V (n : Nat) : Fld := ⟨KS_KBUF n, 0, 32⟩

/-! Entropy and DRBG -/

def RNG_CTL : Nat := 0x4000B000
def RNG_CTL_RESEED : Fld := ⟨RNG_CTL, 0, 1⟩
def RNG_CTL_RESTART : Fld := ⟨RNG_CTL, 1, 1⟩
def RNG_STAT : Nat := 0x4000B004
def RNG_STAT_READY : Fld := ⟨RNG_STAT, 0, 1⟩
def RNG_STAT_AVAIL : Fld := ⟨RNG_STAT, 1, 1⟩
def RNG_STAT_HFAIL : Fld := ⟨RNG_STAT, 2, 1⟩
def RNG_STAT_RCTFAIL : Fld := ⟨RNG_STAT, 3, 1⟩
def RNG_STAT_APTFAIL : Fld := ⟨RNG_STAT, 4, 1⟩
def RNG_STAT_SEEDING : Fld := ⟨RNG_STAT, 5, 1⟩
def RNG_STAT_WORDS : Fld := ⟨RNG_STAT, 8, 5⟩
def RNG_DATA : Nat := 0x4000B008
def RNG_DATA_V : Fld := ⟨RNG_DATA, 0, 32⟩
def RNG_IRQ : Nat := 0x4000B00C
def RNG_IRQ_READY : Fld := ⟨RNG_IRQ, 0, 1⟩
def RNG_IRQ_HFAIL : Fld := ⟨RNG_IRQ, 1, 1⟩
def RNG_IRQEN : Nat := 0x4000B010
def RNG_IRQEN_V : Fld := ⟨RNG_IRQEN, 0, 2⟩
def RNG_UNDER : Nat := 0x4000B014
def RNG_UNDER_COUNT : Fld := ⟨RNG_UNDER, 0, 16⟩
def RNG_RESEEDS : Nat := 0x4000B018
def RNG_RESEEDS_V : Fld := ⟨RNG_RESEEDS, 0, 32⟩

/-! Wick domain -/

def WK_CNT_LO : Nat := 0x4000C000
def WK_CNT_LO_V : Fld := ⟨WK_CNT_LO, 0, 32⟩
def WK_CNT_HI : Nat := 0x4000C004
def WK_CNT_HI_V : Fld := ⟨WK_CNT_HI, 0, 16⟩
def WK_CTL : Nat := 0x4000C008
def WK_CTL_HALT : Fld := ⟨WK_CTL, 0, 1⟩
def WK_CTL_RELSRC : Fld := ⟨WK_CTL, 1, 1⟩
def WK_STAT : Nat := 0x4000C00C
def WK_STAT_HALTED : Fld := ⟨WK_STAT, 0, 1⟩
def WK_STAT_WPEND : Fld := ⟨WK_STAT, 1, 1⟩
def WK_STAT_MDONE : Fld := ⟨WK_STAT, 2, 1⟩
def WK_STAT_MERR : Fld := ⟨WK_STAT, 3, 1⟩
def WK_STAT_ONVBAT : Fld := ⟨WK_STAT, 4, 1⟩
def WK_HCNT : Nat := 0x4000C010
def WK_HCNT_V : Fld := ⟨WK_HCNT, 0, 32⟩
def WK_WAKE : Nat := 0x4000C014
def WK_WAKE_K : Fld := ⟨WK_WAKE, 0, 5⟩
def WK_WAKE_EN : Fld := ⟨WK_WAKE, 8, 1⟩
def WK_IRQ : Nat := 0x4000C018
def WK_IRQ_PWAKE : Fld := ⟨WK_IRQ, 0, 1⟩
def WK_IRQEN : Nat := 0x4000C01C
def WK_IRQEN_PWAKE : Fld := ⟨WK_IRQEN, 0, 1⟩
def WK_TRIMCFG : Nat := 0x4000C020
def WK_TRIMCFG_REF : Fld := ⟨WK_TRIMCFG, 0, 2⟩
def WK_TRIMCFG_START : Fld := ⟨WK_TRIMCFG, 8, 1⟩
def WK_TRIMCFG_WIN : Fld := ⟨WK_TRIMCFG, 16, 8⟩
def WK_TRIMMEAS : Nat := 0x4000C024
def WK_TRIMMEAS_V : Fld := ⟨WK_TRIMMEAS, 0, 32⟩
def WK_TRIM : Nat := 0x4000C028
def WK_TRIM_N : Fld := ⟨WK_TRIM, 0, 16⟩
def WK_TRIM_DIR : Fld := ⟨WK_TRIM, 16, 1⟩
def WK_TRIM_EN : Fld := ⟨WK_TRIM, 17, 1⟩
def WK_CALTLO : Nat := 0x4000C030
def WK_CALTLO_V : Fld := ⟨WK_CALTLO, 0, 32⟩
def WK_CALTHI : Nat := 0x4000C034
def WK_CALTHI_V : Fld := ⟨WK_CALTHI, 0, 16⟩
def WK_CALDATE : Nat := 0x4000C038
def WK_CALDATE_YEAR : Fld := ⟨WK_CALDATE, 0, 8⟩
def WK_CALDATE_MONTH : Fld := ⟨WK_CALDATE, 8, 4⟩
def WK_CALDATE_DAY : Fld := ⟨WK_CALDATE, 16, 5⟩
def WK_CALDATE_WDAY : Fld := ⟨WK_CALDATE, 24, 3⟩
def WK_CALTIME : Nat := 0x4000C03C
def WK_CALTIME_SEC : Fld := ⟨WK_CALTIME, 0, 6⟩
def WK_CALTIME_MIN : Fld := ⟨WK_CALTIME, 8, 6⟩
def WK_CALTIME_HOUR : Fld := ⟨WK_CALTIME, 16, 5⟩
def WK_CALSUB : Nat := 0x4000C040
def WK_CALSUB_V : Fld := ⟨WK_CALSUB, 0, 15⟩
def WK_CALCTL : Nat := 0x4000C044
def WK_CALCTL_TODATE : Fld := ⟨WK_CALCTL, 0, 1⟩
def WK_CALCTL_TOCNT : Fld := ⟨WK_CALCTL, 1, 1⟩
def WK_CALCTL_BUSY : Fld := ⟨WK_CALCTL, 8, 1⟩
def WK_CALCTL_RANGE : Fld := ⟨WK_CALCTL, 9, 1⟩

/-! Memory integrity -/

def MEM_STAT : Nat := 0x4000D000
def MEM_STAT_CLRSP : Fld := ⟨MEM_STAT, 0, 1⟩
def MEM_STAT_CLRSRAM : Fld := ⟨MEM_STAT, 1, 1⟩
def MEM_STAT_CLRFAIL : Fld := ⟨MEM_STAT, 2, 1⟩
def MEM_STAT_SCRRUN : Fld := ⟨MEM_STAT, 3, 1⟩
def MEM_STAT_DETMON : Fld := ⟨MEM_STAT, 4, 1⟩
def MEM_STAT_RPT : Fld := ⟨MEM_STAT, 5, 1⟩
def MEM_STAT_RPTOVF : Fld := ⟨MEM_STAT, 6, 1⟩
def MEM_SCRCFG : Nat := 0x4000D004
def MEM_SCRCFG_INTV : Fld := ⟨MEM_SCRCFG, 0, 9⟩
def MEM_SCRPASS : Nat := 0x4000D008
def MEM_SCRPASS_V : Fld := ⟨MEM_SCRPASS, 0, 32⟩
def MEM_SPPASS : Nat := 0x4000D00C
def MEM_SPPASS_V : Fld := ⟨MEM_SPPASS, 0, 8⟩
def MEM_DETPTR : Nat := 0x4000D010
def MEM_DETPTR_BLOCK : Fld := ⟨MEM_DETPTR, 0, 15⟩
def MEM_DETPTR_ELAPSED : Fld := ⟨MEM_DETPTR, 16, 7⟩
def MEM_CECNT : Nat := 0x4000D014
def MEM_CECNT_SRAM : Fld := ⟨MEM_CECNT, 0, 8⟩
def MEM_CECNT_SP : Fld := ⟨MEM_CECNT, 8, 8⟩
def MEM_CEADDR : Nat := 0x4000D018
def MEM_CEADDR_V : Fld := ⟨MEM_CEADDR, 0, 32⟩
def MEM_CESYN : Nat := 0x4000D01C
def MEM_CESYN_SYN : Fld := ⟨MEM_CESYN, 0, 7⟩
def MEM_CESYN_SCRUB : Fld := ⟨MEM_CESYN, 8, 1⟩
def MEM_UEADDR : Nat := 0x4000D020
def MEM_UEADDR_V : Fld := ⟨MEM_UEADDR, 0, 32⟩
def MEM_UESYN : Nat := 0x4000D024
def MEM_UESYN_SYN : Fld := ⟨MEM_UESYN, 0, 7⟩
def MEM_UESYN_SCRUB : Fld := ⟨MEM_UESYN, 8, 1⟩
def MEM_UESYN_WRONG : Fld := ⟨MEM_UESYN, 9, 1⟩
def MEM_RPT (n : Nat) : Nat := 0x4000D030 + 4 * n
def MEM_RPT_VALID (n : Nat) : Fld := ⟨MEM_RPT n, 0, 1⟩
def MEM_RPT_ADDR (n : Nat) : Fld := ⟨MEM_RPT n, 2, 30⟩
def MEM_E2EINFO : Nat := 0x4000D040
def MEM_E2EINFO_MASTER : Fld := ⟨MEM_E2EINFO, 0, 4⟩
def MEM_E2EINFO_TARGET : Fld := ⟨MEM_E2EINFO, 4, 3⟩
def MEM_E2EINFO_WRITE : Fld := ⟨MEM_E2EINFO, 8, 1⟩
def MEM_E2EINFO_APAR : Fld := ⟨MEM_E2EINFO, 9, 1⟩
def MEM_E2EINFO_RDATA : Fld := ⟨MEM_E2EINFO, 10, 1⟩
def MEM_E2EADDR : Nat := 0x4000D044
def MEM_E2EADDR_V : Fld := ⟨MEM_E2EADDR, 0, 32⟩
def MEM_WBLOST : Nat := 0x4000D048
def MEM_WBLOST_COUNT : Fld := ⟨MEM_WBLOST, 0, 16⟩
def MEM_CLRCYC : Nat := 0x4000D04C
def MEM_CLRCYC_SRAM : Fld := ⟨MEM_CLRCYC, 0, 16⟩
def MEM_CLRCYC_SP : Fld := ⟨MEM_CLRCYC, 16, 16⟩
def FLC_STAT : Nat := 0x4000E000
def FLC_STAT_BUSY : Fld := ⟨FLC_STAT, 0, 1⟩
def FLC_STAT_BANK : Fld := ⟨FLC_STAT, 1, 1⟩
def FLC_STAT_DONE : Fld := ⟨FLC_STAT, 2, 1⟩
def FLC_STAT_REJBUSY : Fld := ⟨FLC_STAT, 3, 1⟩
def FLC_STAT_RESULT : Fld := ⟨FLC_STAT, 4, 3⟩
def FLC_CMD : Nat := 0x4000E004
def FLC_CMD_OP : Fld := ⟨FLC_CMD, 0, 4⟩
def FLC_CMD_KEY : Fld := ⟨FLC_CMD, 16, 16⟩
def FLC_ADDR : Nat := 0x4000E008
def FLC_ADDR_V : Fld := ⟨FLC_ADDR, 0, 22⟩
def FLC_DATA (n : Nat) : Nat := 0x4000E010 + 4 * n
def FLC_DATA_V (n : Nat) : Fld := ⟨FLC_DATA n, 0, 32⟩
def FLC_LOCK (n : Nat) : Nat := 0x4000E030 + 4 * n
def FLC_LOCK_V (n : Nat) : Fld := ⟨FLC_LOCK n, 0, 32⟩
def FLC_CECNT : Nat := 0x4000E038
def FLC_CECNT_B0 : Fld := ⟨FLC_CECNT, 0, 16⟩
def FLC_CECNT_B1 : Fld := ⟨FLC_CECNT, 16, 16⟩
def FLC_CEADDR : Nat := 0x4000E03C
def FLC_CEADDR_V : Fld := ⟨FLC_CEADDR, 0, 32⟩
def FLC_UEADDR : Nat := 0x4000E040
def FLC_UEADDR_V : Fld := ⟨FLC_UEADDR, 0, 32⟩

/-! Channel Engine -/

def CE_CTL : Nat := 0x40010000
def CE_CTL_RUN : Fld := ⟨CE_CTL, 0, 1⟩
def CE_STAT : Nat := 0x40010004
def CE_STAT_TAGS : Fld := ⟨CE_STAT, 0, 11⟩
def CE_STAT_CHANS : Fld := ⟨CE_STAT, 11, 11⟩
def CE_STAT_EVENTS : Fld := ⟨CE_STAT, 22, 7⟩
def CE_IRQ : Nat := 0x40010008
def CE_IRQ_EVLOST : Fld := ⟨CE_IRQ, 0, 1⟩
def CE_IRQ_CQFULL : Fld := ⟨CE_IRQ, 1, 1⟩
def CE_IRQ_TAGSTALL : Fld := ⟨CE_IRQ, 2, 1⟩
def CE_IRQ_NTERR : Fld := ⟨CE_IRQ, 3, 1⟩
def CE_IRQEN : Nat := 0x4001000C
def CE_IRQEN_V : Fld := ⟨CE_IRQEN, 0, 4⟩
def CE_DLWIN : Nat := 0x40010010
def CE_DLWIN_TBASE : Fld := ⟨CE_DLWIN, 0, 10⟩
def CE_DLWIN_TCNT : Fld := ⟨CE_DLWIN, 16, 11⟩
def CE_EVLOST : Nat := 0x40010014
def CE_EVLOST_COUNT : Fld := ⟨CE_EVLOST, 0, 16⟩
def CE_NTQ : Nat := 0x40010018
def CE_NTQ_SQ : Fld := ⟨CE_NTQ, 0, 8⟩
def CE_NTQ_IDX : Fld := ⟨CE_NTQ, 8, 12⟩
def CE_NTSTAT : Nat := 0x4001001C
def CE_NTSTAT_STATUS : Fld := ⟨CE_NTSTAT, 0, 16⟩
def CE_TAGMAP (n : Nat) : Nat := 0x40010100 + 4 * n
def CE_TAGMAP_V (n : Nat) : Fld := ⟨CE_TAGMAP n, 0, 32⟩
def CE_QBASE (n : Nat) : Nat := 0x40011000 + 16 * n
def CE_QBASE_BASE (n : Nat) : Fld := ⟨CE_QBASE n, 4, 16⟩
def CE_QBASE_FIXED (n : Nat) : Fld := ⟨CE_QBASE n, 20, 12⟩
def CE_QCFG (n : Nat) : Nat := 0x40011004 + 16 * n
def CE_QCFG_TYPE (n : Nat) : Fld := ⟨CE_QCFG n, 0, 2⟩
def CE_QCFG_LOG2DEPTH (n : Nat) : Fld := ⟨CE_QCFG n, 2, 4⟩
def CE_QCFG_EN (n : Nat) : Fld := ⟨CE_QCFG n, 6, 1⟩
def CE_QCFG_PAIR (n : Nat) : Fld := ⟨CE_QCFG n, 8, 8⟩
def CE_QCFG_VEC (n : Nat) : Fld := ⟨CE_QCFG n, 16, 7⟩
def CE_QCFG_VEN (n : Nat) : Fld := ⟨CE_QCFG n, 23, 1⟩
def CE_QDB (n : Nat) : Nat := 0x40011008 + 16 * n
def CE_QDB_V (n : Nat) : Fld := ⟨CE_QDB n, 0, 12⟩
def CE_QPTR (n : Nat) : Nat := 0x4001100C + 16 * n
def CE_QPTR_HEAD (n : Nat) : Fld := ⟨CE_QPTR n, 0, 12⟩
def CE_QPTR_TAIL (n : Nat) : Fld := ⟨CE_QPTR n, 16, 12⟩
def CE_QPTR_PHASE (n : Nat) : Fld := ⟨CE_QPTR n, 28, 1⟩
def CE_QPTR_FULL (n : Nat) : Fld := ⟨CE_QPTR n, 29, 1⟩
def CE_QPTR_STALL (n : Nat) : Fld := ⟨CE_QPTR n, 30, 1⟩
def CE_TWIN (n : Nat) : Nat := 0x40012000 + 4 * n
def CE_TWIN_TBASE (n : Nat) : Fld := ⟨CE_TWIN n, 0, 10⟩
def CE_TWIN_TCNT (n : Nat) : Fld := ⟨CE_TWIN n, 16, 11⟩
def CE_CHINFO (n : Nat) : Nat := 0x40014000 + 4 * n
def CE_CHINFO_GEN (n : Nat) : Fld := ⟨CE_CHINFO n, 0, 6⟩
def CE_CHINFO_OPEN (n : Nat) : Fld := ⟨CE_CHINFO n, 6, 1⟩
def CE_CHINFO_KIND (n : Nat) : Fld := ⟨CE_CHINFO n, 7, 3⟩
def CE_CHINFO_UNIT (n : Nat) : Fld := ⟨CE_CHINFO n, 10, 12⟩
def CE_CHINFO_EQ (n : Nat) : Fld := ⟨CE_CHINFO n, 22, 8⟩
def CE_LEDGER (n : Nat) : Nat := 0x40018000 + 4 * n
def CE_LEDGER_V (n : Nat) : Fld := ⟨CE_LEDGER n, 0, 32⟩

/-! Monitor slices and converters -/

def MON_CFG (n : Nat) : Nat := 0x40020000 + 64 * n
def MON_CFG_EN (n : Nat) : Fld := ⟨MON_CFG n, 0, 1⟩
def MON_CFG_MODE (n : Nat) : Fld := ⟨MON_CFG n, 1, 2⟩
def MON_CFG_SRC (n : Nat) : Fld := ⟨MON_CFG n, 3, 1⟩
def MON_CFG_DMODE (n : Nat) : Fld := ⟨MON_CFG n, 4, 2⟩
def MON_CFG_FLT (n : Nat) : Fld := ⟨MON_CFG n, 6, 1⟩
def MON_CFG_WAKE (n : Nat) : Fld := ⟨MON_CFG n, 7, 1⟩
def MON_CFG_RESTART (n : Nat) : Fld := ⟨MON_CFG n, 16, 1⟩
def MON_THR (n : Nat) : Nat := 0x40020004 + 64 * n
def MON_THR_UPPER (n : Nat) : Fld := ⟨MON_THR n, 0, 10⟩
def MON_THR_LOWER (n : Nat) : Fld := ⟨MON_THR n, 16, 10⟩
def MON_FILT (n : Nat) : Nat := 0x40020008 + 64 * n
def MON_FILT_HYST (n : Nat) : Fld := ⟨MON_FILT n, 0, 5⟩
def MON_FILT_DG (n : Nat) : Fld := ⟨MON_FILT n, 8, 8⟩
def MON_FILT_RPER (n : Nat) : Fld := ⟨MON_FILT n, 16, 8⟩
def MON_FILT_RUNIT (n : Nat) : Fld := ⟨MON_FILT n, 24, 1⟩
def MON_LIM (n : Nat) : Nat := 0x4002000C + 64 * n
def MON_LIM_ULIM (n : Nat) : Fld := ⟨MON_LIM n, 0, 10⟩
def MON_LIM_LLIM (n : Nat) : Fld := ⟨MON_LIM n, 16, 10⟩
def MON_RTEU (n : Nat) : Nat := 0x40020010 + 64 * n
def MON_RTEU_V (n : Nat) : Fld := ⟨MON_RTEU n, 0, 24⟩
def MON_RTEL (n : Nat) : Nat := 0x40020014 + 64 * n
def MON_RTEL_V (n : Nat) : Fld := ⟨MON_RTEL n, 0, 24⟩
def MON_STAT (n : Nat) : Nat := 0x40020018 + 64 * n
def MON_STAT_LR (n : Nat) : Fld := ⟨MON_STAT n, 0, 1⟩
def MON_STAT_UR (n : Nat) : Fld := ⟨MON_STAT n, 1, 1⟩
def MON_STAT_LF (n : Nat) : Fld := ⟨MON_STAT n, 2, 1⟩
def MON_STAT_UF (n : Nat) : Fld := ⟨MON_STAT n, 3, 1⟩
def MON_STAT_CNT (n : Nat) : Fld := ⟨MON_STAT n, 4, 1⟩
def MON_STAT_LIVE (n : Nat) : Fld := ⟨MON_STAT n, 5, 1⟩
def MON_STAT_ISO (n : Nat) : Fld := ⟨MON_STAT n, 6, 1⟩
def MON_STAT_ISOID (n : Nat) : Fld := ⟨MON_STAT n, 8, 8⟩
def MON_SC (n : Nat) : Nat := 0x4002001C + 64 * n
def MON_SC_LASTOK (n : Nat) : Fld := ⟨MON_SC n, 0, 1⟩
def MON_SC_STEP (n : Nat) : Fld := ⟨MON_SC n, 1, 3⟩
def MON_SC_FAILS (n : Nat) : Fld := ⟨MON_SC n, 8, 8⟩
def MON_GRPC (n : Nat) : Nat := 0x40020030 + 64 * n
def MON_GRPC_KIND (n : Nat) : Fld := ⟨MON_GRPC n, 0, 2⟩
def MON_GRPC_M0 (n : Nat) : Fld := ⟨MON_GRPC n, 3, 7⟩
def MON_GRPC_M1 (n : Nat) : Fld := ⟨MON_GRPC n, 10, 7⟩
def MON_GRPC_M2 (n : Nat) : Fld := ⟨MON_GRPC n, 17, 7⟩
def MON_GRPS (n : Nat) : Nat := 0x40020034 + 64 * n
def MON_GRPS_LOWER (n : Nat) : Fld := ⟨MON_GRPS n, 0, 1⟩
def MON_GRPS_UPPER (n : Nat) : Fld := ⟨MON_GRPS n, 1, 1⟩
def MON_GRPS_DISAGREE (n : Nat) : Fld := ⟨MON_GRPS n, 2, 1⟩
def MON_GRPS_SUSPENDED (n : Nat) : Fld := ⟨MON_GRPS n, 3, 1⟩
def MON_GRPRU (n : Nat) : Nat := 0x40020038 + 64 * n
def MON_GRPRU_V (n : Nat) : Fld := ⟨MON_GRPRU n, 0, 24⟩
def MON_GRPRL (n : Nat) : Nat := 0x4002003C + 64 * n
def MON_GRPRL_V (n : Nat) : Fld := ⟨MON_GRPRL n, 0, 24⟩
def MON_WSET (n : Nat) : Nat := 0x40020830 + 4 * n
def MON_WSET_V (n : Nat) : Fld := ⟨MON_WSET n, 0, 32⟩
def MON_VIOL (n : Nat) : Nat := 0x40020870 + 4 * n
def MON_VIOL_V (n : Nat) : Fld := ⟨MON_VIOL n, 0, 32⟩
def MON_GCTL : Nat := 0x400208B0
def MON_GCTL_SCANP : Fld := ⟨MON_GCTL, 0, 7⟩
def MON_GCTL_WCOUNT : Fld := ⟨MON_GCTL, 16, 5⟩
def ADC_STAT (n : Nat) : Nat := 0x40060000 + 4 * n
def ADC_STAT_ON (n : Nat) : Fld := ⟨ADC_STAT n, 0, 1⟩
def ADC_STAT_CALACT (n : Nat) : Fld := ⟨ADC_STAT n, 1, 1⟩
def ADC_STAT_STEP (n : Nat) : Fld := ⟨ADC_STAT n, 2, 3⟩
def ADC_STAT_REFOK (n : Nat) : Fld := ⟨ADC_STAT n, 5, 1⟩
def ADC_STAT_ISO (n : Nat) : Fld := ⟨ADC_STAT n, 6, 1⟩
def ADC_STAT_QLEN (n : Nat) : Fld := ⟨ADC_STAT n, 8, 16⟩
def ADC_CALAGE (n : Nat) : Nat := 0x40060008 + 4 * n
def ADC_CALAGE_V (n : Nat) : Fld := ⟨ADC_CALAGE n, 0, 16⟩
def ADC_REF (n : Nat) : Nat := 0x40060010 + 4 * n
def ADC_REF_V (n : Nat) : Fld := ⟨ADC_REF n, 0, 14⟩
def ADC_IRQ : Nat := 0x40060018
def ADC_IRQ_V0 : Fld := ⟨ADC_IRQ, 0, 2⟩
def ADC_IRQ_V1 : Fld := ⟨ADC_IRQ, 8, 2⟩
def ADC_IRQEN : Nat := 0x4006001C
def ADC_IRQEN_V0 : Fld := ⟨ADC_IRQEN, 0, 2⟩
def ADC_IRQEN_V1 : Fld := ⟨ADC_IRQEN, 8, 2⟩
def ADC_CNT (n : Nat) : Nat := 0x40060020 + 4 * n
def ADC_CNT_COUNT (n : Nat) : Fld := ⟨ADC_CNT n, 0, 32⟩
def ADC_FORCE (n : Nat) : Nat := 0x40060028 + 4 * n
def ADC_FORCE_COUNT (n : Nat) : Fld := ⟨ADC_FORCE n, 0, 16⟩

/-! Ports, partners, GPIO and link test -/

def PORT_CFG (n : Nat) : Nat := 0x40030000 + 1024 * n
def PORT_CFG_PERS (n : Nat) : Fld := ⟨PORT_CFG n, 0, 3⟩
def PORT_CFG_ALERTEN (n : Nat) : Fld := ⟨PORT_CFG n, 3, 1⟩
def PORT_CFG_HNEN (n : Nat) : Fld := ⟨PORT_CFG n, 4, 1⟩
def PORT_CFG_HJEN (n : Nat) : Fld := ⟨PORT_CFG n, 5, 1⟩
def PORT_CFG_HDREN (n : Nat) : Fld := ⟨PORT_CFG n, 6, 1⟩
def PORT_CFG_QUAD (n : Nat) : Fld := ⟨PORT_CFG n, 7, 1⟩
def PORT_CFG_PARITY (n : Nat) : Fld := ⟨PORT_CFG n, 8, 2⟩
def PORT_CFG_HALF (n : Nat) : Fld := ⟨PORT_CFG n, 10, 1⟩
def PORT_CFG_TPEC (n : Nat) : Fld := ⟨PORT_CFG n, 11, 1⟩
def PORT_CFG_FLOW (n : Nat) : Fld := ⟨PORT_CFG n, 12, 1⟩
def PORT_CTL (n : Nat) : Nat := 0x40030004 + 1024 * n
def PORT_CTL_RESTART (n : Nat) : Fld := ⟨PORT_CTL n, 0, 1⟩
def PORT_CTL_DAA (n : Nat) : Fld := ⟨PORT_CTL n, 1, 1⟩
def PORT_CTL_ALERT (n : Nat) : Fld := ⟨PORT_CTL n, 2, 1⟩
def PORT_CTL_RECOVER (n : Nat) : Fld := ⟨PORT_CTL n, 3, 1⟩
def PORT_STAT (n : Nat) : Nat := 0x40030008 + 1024 * n
def PORT_STAT_BUSY (n : Nat) : Fld := ⟨PORT_STAT n, 0, 1⟩
def PORT_STAT_HUNG (n : Nat) : Fld := ⟨PORT_STAT n, 1, 1⟩
def PORT_STAT_SCLLOW (n : Nat) : Fld := ⟨PORT_STAT n, 2, 1⟩
def PORT_STAT_SDALOW (n : Nat) : Fld := ⟨PORT_STAT n, 3, 1⟩
def PORT_STAT_ISO (n : Nat) : Fld := ⟨PORT_STAT n, 4, 1⟩
def PORT_STAT_TEST (n : Nat) : Fld := ⟨PORT_STAT n, 5, 1⟩
def PORT_STAT_DAAACT (n : Nat) : Fld := ⟨PORT_STAT n, 6, 1⟩
def PORT_STAT_QLEN (n : Nat) : Fld := ⟨PORT_STAT n, 8, 8⟩
def PORT_STAT_UNKADDR (n : Nat) : Fld := ⟨PORT_STAT n, 16, 7⟩
def PORT_STAT_ISOID (n : Nat) : Fld := ⟨PORT_STAT n, 24, 8⟩
def PORT_TMO (n : Nat) : Nat := 0x4003000C + 1024 * n
def PORT_TMO_MS (n : Nat) : Fld := ⟨PORT_TMO n, 0, 8⟩
def PORT_BAUD (n : Nat) : Nat := 0x40030010 + 1024 * n
def PORT_BAUD_DIV (n : Nat) : Fld := ⟨PORT_BAUD n, 0, 16⟩
def PORT_BAUD_FRAC (n : Nat) : Fld := ⟨PORT_BAUD n, 16, 4⟩
def PORT_IRQ (n : Nat) : Nat := 0x40030014 + 1024 * n
def PORT_IRQ_V (n : Nat) : Fld := ⟨PORT_IRQ n, 0, 9⟩
def PORT_IRQEN (n : Nat) : Nat := 0x40030018 + 1024 * n
def PORT_IRQEN_V (n : Nat) : Fld := ⟨PORT_IRQEN n, 0, 9⟩
def PORT_TADDR (n : Nat) : Nat := 0x4003001C + 1024 * n
def PORT_TADDR_V (n : Nat) : Fld := ⟨PORT_TADDR n, 0, 7⟩
def PORT_TBASE (n : Nat) : Nat := 0x40030020 + 1024 * n
def PORT_TBASE_V (n : Nat) : Fld := ⟨PORT_TBASE n, 0, 32⟩
def PORT_DAA (n : Nat) : Nat := 0x40030024 + 1024 * n
def PORT_DAA_ASSIGNED (n : Nat) : Fld := ⟨PORT_DAA n, 0, 8⟩
def PORT_DAA_UNMATCHED (n : Nat) : Fld := ⟨PORT_DAA n, 8, 8⟩
def PORT_NEWPIDL (n : Nat) : Nat := 0x40030028 + 1024 * n
def PORT_NEWPIDL_V (n : Nat) : Fld := ⟨PORT_NEWPIDL n, 0, 32⟩
def PORT_NEWPIDH (n : Nat) : Nat := 0x4003002C + 1024 * n
def PORT_NEWPIDH_V (n : Nat) : Fld := ⟨PORT_NEWPIDH n, 0, 32⟩
def PORT_SPICFG (n : Nat) : Nat := 0x40030030 + 1024 * n
def PORT_SPICFG_CS1 (n : Nat) : Fld := ⟨PORT_SPICFG n, 0, 6⟩
def PORT_SPICFG_CS1EN (n : Nat) : Fld := ⟨PORT_SPICFG n, 6, 1⟩
def PORT_SPICFG_CS2 (n : Nat) : Fld := ⟨PORT_SPICFG n, 8, 6⟩
def PORT_SPICFG_CS2EN (n : Nat) : Fld := ⟨PORT_SPICFG n, 14, 1⟩
def PORT_SPICFG_CS3 (n : Nat) : Fld := ⟨PORT_SPICFG n, 16, 6⟩
def PORT_SPICFG_CS3EN (n : Nat) : Fld := ⟨PORT_SPICFG n, 22, 1⟩
def PORT_CNT (n : Nat) : Nat := 0x40030034 + 1024 * n
def PORT_CNT_DONE (n : Nat) : Fld := ⟨PORT_CNT n, 0, 16⟩
def PORT_CNT_BAD (n : Nat) : Fld := ⟨PORT_CNT n, 16, 16⟩
def PORT_BAUDE (n : Nat) : Nat := 0x40030038 + 1024 * n
def PORT_BAUDE_DIV (n : Nat) : Fld := ⟨PORT_BAUDE n, 0, 16⟩
def PORT_BAUDE_FRAC (n : Nat) : Fld := ⟨PORT_BAUDE n, 16, 4⟩
def PORT_PIDX : Nat := 0x40030300
def PORT_PIDX_V : Fld := ⟨PORT_PIDX, 0, 12⟩
def PORT_PDATA (n : Nat) : Nat := 0x40030304 + 4 * n
def PORT_PDATA_V (n : Nat) : Fld := ⟨PORT_PDATA n, 0, 32⟩
def PORT_PCMD : Nat := 0x40030314
def PORT_PCMD_RD : Fld := ⟨PORT_PCMD, 0, 1⟩
def PORT_PCMD_WR : Fld := ⟨PORT_PCMD, 1, 1⟩
def PORT_PCMD_RESTART : Fld := ⟨PORT_PCMD, 2, 1⟩
def PORT_PERRIDX : Nat := 0x40030318
def PORT_PERRIDX_V : Fld := ⟨PORT_PERRIDX, 0, 12⟩
def PORT_PVALID : Nat := 0x4003031C
def PORT_PVALID_COUNT : Fld := ⟨PORT_PVALID, 0, 13⟩
def GP_IN (n : Nat) : Nat := 0x40070000 + 4 * n
def GP_IN_V (n : Nat) : Fld := ⟨GP_IN n, 0, 32⟩
def GP_OUT0 : Nat := 0x40070008
def GP_OUT0_V : Fld := ⟨GP_OUT0, 0, 32⟩
def GP_OUT1 : Nat := 0x4007000C
def GP_OUT1_V : Fld := ⟨GP_OUT1, 0, 8⟩
def GP_OSET (n : Nat) : Nat := 0x40070010 + 4 * n
def GP_OSET_V (n : Nat) : Fld := ⟨GP_OSET n, 0, 32⟩
def GP_OCLR (n : Nat) : Nat := 0x40070018 + 4 * n
def GP_OCLR_V (n : Nat) : Fld := ⟨GP_OCLR n, 0, 32⟩
def GP_IRQ0 : Nat := 0x40070020
def GP_IRQ0_V : Fld := ⟨GP_IRQ0, 0, 32⟩
def GP_IRQ1 : Nat := 0x40070024
def GP_IRQ1_V : Fld := ⟨GP_IRQ1, 0, 8⟩
def GP_CFG (n : Nat) : Nat := 0x40070100 + 4 * n
def GP_CFG_OE (n : Nat) : Fld := ⟨GP_CFG n, 0, 1⟩
def GP_CFG_OD (n : Nat) : Fld := ⟨GP_CFG n, 1, 1⟩
def GP_CFG_PULL (n : Nat) : Fld := ⟨GP_CFG n, 2, 2⟩
def GP_CFG_IRQ (n : Nat) : Fld := ⟨GP_CFG n, 4, 3⟩
def GP_CFG_DG (n : Nat) : Fld := ⟨GP_CFG n, 8, 8⟩
def GP_CFG_OWNED (n : Nat) : Fld := ⟨GP_CFG n, 16, 1⟩
def TST_CTL (n : Nat) : Nat := 0x40080000 + 32 * n
def TST_CTL_GEN (n : Nat) : Fld := ⟨TST_CTL n, 0, 1⟩
def TST_CTL_CHK (n : Nat) : Fld := ⟨TST_CTL n, 1, 1⟩
def TST_CTL_POLY (n : Nat) : Fld := ⟨TST_CTL n, 2, 2⟩
def TST_CTL_LOOP (n : Nat) : Fld := ⟨TST_CTL n, 4, 2⟩
def TST_CTL_INV (n : Nat) : Fld := ⟨TST_CTL n, 6, 1⟩
def TST_CTL_DIV (n : Nat) : Fld := ⟨TST_CTL n, 16, 16⟩
def TST_STAT (n : Nat) : Nat := 0x40080004 + 32 * n
def TST_STAT_LOCK (n : Nat) : Fld := ⟨TST_STAT n, 0, 1⟩
def TST_STAT_RUN (n : Nat) : Fld := ⟨TST_STAT n, 1, 1⟩
def TST_ERR (n : Nat) : Nat := 0x40080008 + 32 * n
def TST_ERR_COUNT (n : Nat) : Fld := ⟨TST_ERR n, 0, 32⟩
def TST_BITS (n : Nat) : Nat := 0x4008000C + 32 * n
def TST_BITS_COUNT (n : Nat) : Fld := ⟨TST_BITS n, 0, 32⟩

/-! Ring and pair -/

def RING_CTL : Nat := 0x40040000
def RING_CTL_EN : Fld := ⟨RING_CTL, 0, 1⟩
def RING_CTL_ENUM : Fld := ⟨RING_CTL, 1, 1⟩
def RING_CTL_SNUFFTX : Fld := ⟨RING_CTL, 2, 1⟩
def RING_STAT : Nat := 0x40040004
def RING_STAT_LINKIN : Fld := ⟨RING_STAT, 0, 1⟩
def RING_STAT_ENUMD : Fld := ⟨RING_STAT, 1, 1⟩
def RING_STAT_MST : Fld := ⟨RING_STAT, 2, 1⟩
def RING_STAT_DEMOTED : Fld := ⟨RING_STAT, 3, 1⟩
def RING_STAT_OVER : Fld := ⟨RING_STAT, 4, 1⟩
def RING_STAT_ID : Fld := ⟨RING_STAT, 8, 6⟩
def RING_STAT_N : Fld := ⟨RING_STAT, 16, 7⟩
def RING_IRQ : Nat := 0x40040008
def RING_IRQ_ENUMDONE : Fld := ⟨RING_IRQ, 0, 1⟩
def RING_IRQ_MSTCONF : Fld := ⟨RING_IRQ, 1, 1⟩
def RING_IRQ_IDCHG : Fld := ⟨RING_IRQ, 2, 1⟩
def RING_IRQ_SNFLOST : Fld := ⟨RING_IRQ, 3, 1⟩
def RING_IRQ_NOENUM : Fld := ⟨RING_IRQ, 4, 1⟩
def RING_IRQ_MEMBER : Fld := ⟨RING_IRQ, 5, 1⟩
def RING_IRQEN : Nat := 0x4004000C
def RING_IRQEN_V : Fld := ⟨RING_IRQEN, 0, 6⟩
def RING_UIDL : Nat := 0x40040010
def RING_UIDL_V : Fld := ⟨RING_UIDL, 0, 32⟩
def RING_UIDH : Nat := 0x40040014
def RING_UIDH_V : Fld := ⟨RING_UIDH, 0, 32⟩
def RING_CDLY : Nat := 0x40040018
def RING_CDLY_V : Fld := ⟨RING_CDLY, 0, 12⟩
def RING_RTMO : Nat := 0x4004001C
def RING_RTMO_TMO : Fld := ⟨RING_RTMO, 0, 8⟩
def RING_PRES (n : Nat) : Nat := 0x40040020 + 4 * n
def RING_PRES_V (n : Nat) : Fld := ⟨RING_PRES n, 0, 32⟩
def RING_ISO (n : Nat) : Nat := 0x40040028 + 4 * n
def RING_ISO_V (n : Nat) : Fld := ⟨RING_ISO n, 0, 32⟩
def RING_MRST : Nat := 0x40040030
def RING_MRST_V : Fld := ⟨RING_MRST, 0, 6⟩
def RING_GTMCNT : Nat := 0x40040034
def RING_GTMCNT_V : Fld := ⟨RING_GTMCNT, 0, 32⟩
def RING_GTLCNT : Nat := 0x40040038
def RING_GTLCNT_V : Fld := ⟨RING_GTLCNT, 0, 32⟩
def RING_GTPH : Nat := 0x4004003C
def RING_GTPH_V : Fld := ⟨RING_GTPH, 0, 32⟩
def RING_RXBASE : Nat := 0x40040040
def RING_RXBASE_V : Fld := ⟨RING_RXBASE, 0, 32⟩
def RING_RXMAP (n : Nat) : Nat := 0x40040044 + 4 * n
def RING_RXMAP_V (n : Nat) : Fld := ⟨RING_RXMAP n, 0, 32⟩
def RING_SNF : Nat := 0x4004004C
def RING_SNF_OWNSEQ : Fld := ⟨RING_SNF, 0, 2⟩
def RING_SNF_OWNRET : Fld := ⟨RING_SNF, 2, 1⟩
def RING_SNF_LASTID : Fld := ⟨RING_SNF, 8, 6⟩
def RING_SNF_LASTSEQ : Fld := ⟨RING_SNF, 14, 2⟩
def RING_RERR : Nat := 0x40040050
def RING_RERR_STATUS : Fld := ⟨RING_RERR, 0, 4⟩
def RING_RERR_TARGET : Fld := ⟨RING_RERR, 8, 6⟩
def RING_RERR_ISSEND : Fld := ⟨RING_RERR, 16, 1⟩
def RING_FCNT : Nat := 0x40040054
def RING_FCNT_COUNT : Fld := ⟨RING_FCNT, 0, 32⟩
def RING_CRCCNT : Nat := 0x40040058
def RING_CRCCNT_COUNT : Fld := ⟨RING_CRCCNT, 0, 32⟩
def RING_PCFG : Nat := 0x40040080
def RING_PCFG_GROUP : Fld := ⟨RING_PCFG, 0, 4⟩
def RING_PCFG_PACTPIN : Fld := ⟨RING_PCFG, 8, 6⟩
def RING_PCFG_PACTUSED : Fld := ⟨RING_PCFG, 14, 1⟩
def RING_PCFG_MWSIZE : Fld := ⟨RING_PCFG, 16, 6⟩
def RING_PSTAT : Nat := 0x40040084
def RING_PSTAT_ROLE : Fld := ⟨RING_PSTAT, 0, 2⟩
def RING_PSTAT_SYNCED : Fld := ⟨RING_PSTAT, 2, 1⟩
def RING_PSTAT_PEER : Fld := ⟨RING_PSTAT, 3, 1⟩
def RING_PSTAT_PARTNER : Fld := ⟨RING_PSTAT, 4, 6⟩
def RING_PSTAT_SPLIT : Fld := ⟨RING_PSTAT, 10, 1⟩
def RING_PSTAT_REASON : Fld := ⟨RING_PSTAT, 12, 3⟩
def RING_PSTAT_FLUSHED : Fld := ⟨RING_PSTAT, 15, 1⟩
def RING_PCTL : Nat := 0x40040088
def RING_PCTL_YIELD : Fld := ⟨RING_PCTL, 0, 1⟩
def RING_PCTL_RESYNC : Fld := ⟨RING_PCTL, 1, 1⟩
def RING_PIRQ : Nat := 0x4004008C
def RING_PIRQ_ROLE : Fld := ⟨RING_PIRQ, 0, 1⟩
def RING_PIRQ_SYNCED : Fld := ⟨RING_PIRQ, 1, 1⟩
def RING_PIRQ_PEERLOST : Fld := ⟨RING_PIRQ, 2, 1⟩
def RING_PIRQ_SPLIT : Fld := ⟨RING_PIRQ, 3, 1⟩
def RING_PIRQ_GRPCONF : Fld := ⟨RING_PIRQ, 4, 1⟩
def RING_PIRQEN : Nat := 0x40040090
def RING_PIRQEN_V : Fld := ⟨RING_PIRQEN, 0, 5⟩
def RING_MSEQ : Nat := 0x40040094
def RING_MSEQ_SENT : Fld := ⟨RING_MSEQ, 0, 16⟩
def RING_MSEQ_APPLIED : Fld := ⟨RING_MSEQ, 16, 16⟩
def RING_MFLUSH : Nat := 0x40040098
def RING_MFLUSH_V : Fld := ⟨RING_MFLUSH, 0, 32⟩
def RING_MWBASE : Nat := 0x4004009C
def RING_MWBASE_V : Fld := ⟨RING_MWBASE, 0, 32⟩

/-! Host path and management path -/

def HOST_ID : Nat := 0x40050000
def HOST_ID_V : Fld := ⟨HOST_ID, 0, 32⟩
def HOST_HSTAT : Nat := 0x40050004
def HOST_HSTAT_PSTATE : Fld := ⟨HOST_HSTAT, 0, 3⟩
def HOST_HSTAT_LIMP : Fld := ⟨HOST_HSTAT, 3, 1⟩
def HOST_HSTAT_FAULTN : Fld := ⟨HOST_HSTAT, 4, 1⟩
def HOST_HSTAT_CQNE : Fld := ⟨HOST_HSTAT, 8, 8⟩
def HOST_HSTAT_EN : Fld := ⟨HOST_HSTAT, 16, 8⟩
def HOST_HSTAT_ISO : Fld := ⟨HOST_HSTAT, 24, 8⟩
def HOST_ATTN : Nat := 0x40050008
def HOST_ATTN_D2H : Fld := ⟨HOST_ATTN, 0, 8⟩
def HOST_ATTN_CQNE : Fld := ⟨HOST_ATTN, 8, 8⟩
def HOST_ATTNEN : Nat := 0x4005000C
def HOST_ATTNEN_D2H : Fld := ⟨HOST_ATTNEN, 0, 8⟩
def HOST_ATTNEN_CQNE : Fld := ⟨HOST_ATTNEN, 8, 8⟩
def HOST_ATTNEN_FLT : Fld := ⟨HOST_ATTNEN, 16, 1⟩
def HOST_DUMMY : Nat := 0x40050010
def HOST_DUMMY_V : Fld := ⟨HOST_DUMMY, 0, 7⟩
def HOST_WAKEREG : Nat := 0x40050014
def HOST_WAKEREG_V : Fld := ⟨HOST_WAKEREG, 0, 32⟩
def HOST_SQDB (n : Nat) : Nat := 0x40050040 + 8 * n
def HOST_SQDB_V (n : Nat) : Fld := ⟨HOST_SQDB n, 0, 12⟩
def HOST_CQDB (n : Nat) : Nat := 0x40050044 + 8 * n
def HOST_CQDB_V (n : Nat) : Fld := ⟨HOST_CQDB n, 0, 12⟩
def HOST_H2D (n : Nat) : Nat := 0x40050080 + 8 * n
def HOST_H2D_V (n : Nat) : Fld := ⟨HOST_H2D n, 0, 32⟩
def HOST_D2H (n : Nat) : Nat := 0x40050084 + 8 * n
def HOST_D2H_V (n : Nat) : Fld := ⟨HOST_D2H n, 0, 32⟩
def HOST_CFG : Nat := 0x40050100
def HOST_CFG_PERS : Fld := ⟨HOST_CFG, 0, 1⟩
def HOST_CFG_DYNADDR : Fld := ⟨HOST_CFG, 8, 7⟩
def HOST_CFG_ASSIGNED : Fld := ⟨HOST_CFG, 15, 1⟩
def HOST_ERR : Nat := 0x40050104
def HOST_ERR_CODE : Fld := ⟨HOST_ERR, 0, 3⟩
def HOST_ERR_CHAN : Fld := ⟨HOST_ERR, 4, 4⟩
def HOST_ERR_COUNT : Fld := ⟨HOST_ERR, 16, 16⟩
def HOST_LATECNT : Nat := 0x40050108
def HOST_LATECNT_COUNT : Fld := ⟨HOST_LATECNT, 0, 16⟩
def HOST_MBCFG (n : Nat) : Nat := 0x40050200 + 16 * n
def HOST_MBCFG_EN (n : Nat) : Fld := ⟨HOST_MBCFG n, 0, 1⟩
def HOST_MBCFG_SQ (n : Nat) : Fld := ⟨HOST_MBCFG n, 8, 8⟩
def HOST_MBCFG_CQ (n : Nat) : Fld := ⟨HOST_MBCFG n, 16, 8⟩
def HOST_MBWIN (n : Nat) : Nat := 0x40050204 + 16 * n
def HOST_MBWIN_WSIZE (n : Nat) : Fld := ⟨HOST_MBWIN n, 0, 5⟩
def HOST_MBWIN_BASE (n : Nat) : Fld := ⟨HOST_MBWIN n, 12, 20⟩
def HOST_MBOPS (n : Nat) : Nat := 0x40050208 + 16 * n
def HOST_MBOPS_V (n : Nat) : Fld := ⟨HOST_MBOPS n, 0, 32⟩
def HOST_MBIRQ (n : Nat) : Nat := 0x4005020C + 16 * n
def HOST_MBIRQ_H2D (n : Nat) : Fld := ⟨HOST_MBIRQ n, 0, 1⟩
def HOST_MBIRQ_SQDB (n : Nat) : Fld := ⟨HOST_MBIRQ n, 1, 1⟩
def HOST_MBIRQ_ERR (n : Nat) : Fld := ⟨HOST_MBIRQ n, 2, 1⟩
def HOST_MBIRQ_IEN (n : Nat) : Fld := ⟨HOST_MBIRQ n, 8, 3⟩
def HOST_MBIRQ_RESTART (n : Nat) : Fld := ⟨HOST_MBIRQ n, 16, 1⟩
def HOST_MBIRQ_ISO (n : Nat) : Fld := ⟨HOST_MBIRQ n, 24, 1⟩
def MGMT_CFG : Nat := 0x40051000
def MGMT_CFG_ADDR : Fld := ⟨MGMT_CFG, 0, 7⟩
def MGMT_LIDX : Nat := 0x40051004
def MGMT_LIDX_V : Fld := ⟨MGMT_LIDX, 0, 11⟩
def MGMT_LOGIDX : Nat := 0x40051008
def MGMT_LOGIDX_V : Fld := ⟨MGMT_LOGIDX, 0, 8⟩
def MGMT_PROP0 : Nat := 0x4005100C
def MGMT_PROP0_IDX : Fld := ⟨MGMT_PROP0, 0, 11⟩
def MGMT_PROP0_PLACE : Fld := ⟨MGMT_PROP0, 16, 1⟩
def MGMT_PROP0_HOLDER : Fld := ⟨MGMT_PROP0, 17, 7⟩
def MGMT_PROP1 : Nat := 0x40051010
def MGMT_PROP1_SEQ : Fld := ⟨MGMT_PROP1, 0, 12⟩
def MGMT_HOLDRES : Nat := 0x40051014
def MGMT_HOLDRES_V : Fld := ⟨MGMT_HOLDRES, 0, 32⟩
def MGMT_PREQ : Nat := 0x40051018
def MGMT_PREQ_STATE : Fld := ⟨MGMT_PREQ, 0, 3⟩
def MGMT_PREQ_PENDING : Fld := ⟨MGMT_PREQ, 8, 1⟩
def MGMT_PRES : Nat := 0x4005101C
def MGMT_PRES_RES : Fld := ⟨MGMT_PRES, 0, 2⟩
def MGMT_IRQ : Nat := 0x40051020
def MGMT_IRQ_PREQ : Fld := ⟨MGMT_IRQ, 0, 1⟩
def MGMT_IRQ_HOLDAPP : Fld := ⟨MGMT_IRQ, 1, 1⟩
def MGMT_IRQ_HOLDSTALE : Fld := ⟨MGMT_IRQ, 2, 1⟩
def MGMT_IRQEN : Nat := 0x40051024
def MGMT_IRQEN_V : Fld := ⟨MGMT_IRQEN, 0, 3⟩
def MGMT_ERRCNT : Nat := 0x40051028
def MGMT_ERRCNT_COUNT : Fld := ⟨MGMT_ERRCNT, 0, 16⟩
def MGMT_ERRCNT_HOLDST : Fld := ⟨MGMT_ERRCNT, 24, 8⟩

/-! Debug -/

def DBG_CTL : Nat := 0x40090000
def DBG_CTL_HALTREQ : Fld := ⟨DBG_CTL, 0, 1⟩
def DBG_CTL_STEP : Fld := ⟨DBG_CTL, 1, 1⟩
def DBG_CTL_RESUME : Fld := ⟨DBG_CTL, 2, 1⟩
def DBG_CTL_HALTEN : Fld := ⟨DBG_CTL, 3, 1⟩
def DBG_CTL_STEPMASK : Fld := ⟨DBG_CTL, 4, 1⟩
def DBG_STAT : Nat := 0x40090004
def DBG_STAT_HALTED : Fld := ⟨DBG_STAT, 0, 1⟩
def DBG_STAT_UNLOCKED : Fld := ⟨DBG_STAT, 1, 1⟩
def DBG_STAT_CAUSE : Fld := ⟨DBG_STAT, 2, 2⟩
def DBG_BP (n : Nat) : Nat := 0x40090010 + 4 * n
def DBG_BP_EN (n : Nat) : Fld := ⟨DBG_BP n, 0, 1⟩
def DBG_BP_ADDR (n : Nat) : Fld := ⟨DBG_BP n, 2, 30⟩
def DBG_REGSEL : Nat := 0x40090020
def DBG_REGSEL_SEL : Fld := ⟨DBG_REGSEL, 0, 12⟩
def DBG_REGSEL_CSR : Fld := ⟨DBG_REGSEL, 12, 1⟩
def DBG_REGDATA : Nat := 0x40090024
def DBG_REGDATA_V : Fld := ⟨DBG_REGDATA, 0, 32⟩
def DBG_COPYSEL : Nat := 0x40090028
def DBG_COPYSEL_COPY : Fld := ⟨DBG_COPYSEL, 0, 2⟩

end Sys2Proof.Machine
end

