-- ==== Sys2Proof/Machine/RegTable.lean ====
section
/-! DEFINITION. The register table: for every register of the map its address, count and stride, its reset value and the access code, Legal column and tightening direction of each field, from the "Registers" sections of spec/ (codes of Table 0.5; directions of Table 16.9). -/
namespace Sys2Proof.Machine

/-- The access codes of Table 0.5. -/
inductive Acc where
  | rw | ro | wo | w1c | w1s | rc | rws
  deriving DecidableEq, Repr

/-- The tightening directions of Table 16.9: none (not a sealed field), a higher value, a lower value, more bits set. -/
inductive Tight where
  | none | up | down | bits
  deriving DecidableEq, Repr

/-- One field of a register table: position, access code, Legal column (a list of ranges with a step, none when every
value is legal) and tightening direction. -/
structure FieldD where
  lo : Nat
  len : Nat
  acc : Acc
  legal : List (Nat × Nat × Nat)
  tight : Tight
  deriving DecidableEq, Repr

/-- One row of the table: `count` registers from `base` in steps of `stride`, one reset value, whether the image assigns
the reset value (R456), whether a warm reset keeps it (its reset column names a cold start or power-on, or it is
hardware status), which masters may write it (none: all), and its fields. -/
structure RegD where
  base : Nat
  count : Nat
  stride : Nat
  reset : Nat
  img : Bool
  keep : Bool
  only : List Nat
  fields : List FieldD
  deriving DecidableEq, Repr

/-- Identity and clamp diagnostics. -/
def sysRegs : List RegD :=
  [⟨SYS_ID, 1, 4, 0x6400B000, false, false, [], [⟨0, 32, .ro, [], .none⟩]⟩,
   ⟨SYS_VARIANT, 1, 4, 0x0, false, true, [], [⟨0, 2, .ro, [], .none⟩]⟩,
   ⟨SYS_STRAP, 1, 4, 0x0, false, true, [], [⟨0, 1, .ro, [], .none⟩, ⟨1, 1, .ro, [], .none⟩, ⟨2, 2, .ro, [], .none⟩]⟩,
   ⟨SYS_CLAMPCNT, 1, 4, 0x0, false, false, [], [⟨0, 16, .ro, [], .none⟩, ⟨31, 1, .wo, [], .none⟩]⟩,
   ⟨SYS_CLAMPLAST, 1, 4, 0x0, false, false, [], [⟨0, 32, .ro, [], .none⟩]⟩]

/-- Power management. -/
def pmRegs : List RegD :=
  [⟨PM_REQ, 1, 4, 0x5, false, false, [], [⟨0, 3, .rw, [(0, 5, 1)], .none⟩, ⟨8, 1, .ro, [], .none⟩]⟩,
   ⟨PM_STAT, 1, 4, 0x5, false, true, [], [⟨0, 3, .ro, [], .none⟩, ⟨4, 3, .ro, [], .none⟩, ⟨8, 4, .ro, [], .none⟩, ⟨12, 1, .ro, [], .none⟩]⟩,
   ⟨PM_LADDER, 1, 4, 0x1, true, false, [], [⟨0, 3, .rws, [(1, 5, 1)], .up⟩, ⟨8, 1, .ro, [], .none⟩]⟩,
   ⟨PM_WAKECFG, 1, 4, 0x0, false, true, [], [⟨0, 4, .rw, [], .none⟩, ⟨8, 4, .rw, [], .none⟩]⟩,
   ⟨PM_WAKESRC, 1, 4, 0x0, false, true, [], [⟨0, 15, .w1c, [], .none⟩]⟩,
   ⟨PM_IRQ, 1, 4, 0x0, false, false, [], [⟨0, 1, .w1c, [], .none⟩]⟩,
   ⟨PM_IRQEN, 1, 4, 0x0, false, false, [], [⟨0, 1, .rw, [], .none⟩]⟩,
   ⟨PM_SUPPLY, 1, 4, 0x17, false, true, [], [⟨0, 5, .ro, [], .none⟩]⟩,
   ⟨PM_EXITCYC, 1, 4, 0x0, false, false, [], [⟨0, 24, .ro, [], .none⟩]⟩]

/-- Clocks. -/
def clkRegs : List RegD :=
  [⟨CLK_PLLA, 1, 4, 0x10, true, false, [], [⟨0, 5, .rw, [(2, 16, 1)], .none⟩]⟩,
   ⟨CLK_CTL, 1, 4, 0x0, false, false, [], [⟨0, 1, .w1s, [], .none⟩]⟩,
   ⟨CLK_STAT, 1, 4, 0x106F, false, true, [], [⟨0, 1, .ro, [], .none⟩, ⟨1, 1, .ro, [], .none⟩, ⟨2, 1, .ro, [], .none⟩, ⟨3, 1, .ro, [], .none⟩, ⟨4, 1, .ro, [], .none⟩, ⟨5, 1, .ro, [], .none⟩, ⟨6, 1, .ro, [], .none⟩, ⟨8, 5, .ro, [], .none⟩]⟩,
   ⟨CLK_CLKOUT, 1, 4, 0x80000, false, false, [], [⟨0, 2, .rw, [], .none⟩, ⟨16, 9, .rw, [(8, 400, 2)], .none⟩]⟩,
   ⟨CLK_MON, 1, 4, 0x0, false, true, [], [⟨0, 6, .ro, [], .none⟩]⟩,
   ⟨CLK_IRQ, 1, 4, 0x0, false, false, [], [⟨0, 1, .w1c, [], .none⟩, ⟨1, 1, .w1c, [], .none⟩]⟩,
   ⟨CLK_IRQEN, 1, 4, 0x0, false, false, [], [⟨0, 2, .rw, [], .none⟩]⟩,
   ⟨CLK_RELOCKCYC, 1, 4, 0x0, false, false, [], [⟨0, 16, .ro, [], .none⟩]⟩]

/-- Lanterns. -/
def lntRegs : List RegD :=
  [⟨LNT_MODE, 1, 4, 0x1, true, false, [], [⟨0, 2, .rws, [(0, 2, 1)], .up⟩, ⟨8, 1, .ro, [], .none⟩]⟩,
   ⟨LNT_STAT, 1, 4, 0x0, false, true, [], [⟨0, 3, .ro, [], .none⟩, ⟨4, 3, .ro, [], .none⟩, ⟨8, 2, .ro, [], .none⟩, ⟨12, 1, .ro, [], .none⟩, ⟨13, 1, .ro, [], .none⟩]⟩,
   ⟨LNT_RKCNT, 1, 4, 0x0, false, true, [], [⟨0, 8, .ro, [], .none⟩, ⟨8, 8, .ro, [], .none⟩, ⟨16, 8, .ro, [], .none⟩]⟩,
   ⟨LNT_RKLAST, 1, 4, 0x0, false, false, [], [⟨0, 12, .ro, [], .none⟩, ⟨12, 2, .ro, [], .none⟩, ⟨14, 1, .ro, [], .none⟩, ⟨15, 1, .ro, [], .none⟩]⟩,
   ⟨LNT_CMPDIFF 0, 8, 4, 0x0, false, false, [], [⟨0, 32, .ro, [], .none⟩]⟩,
   ⟨LNT_CMPCYC, 1, 4, 0x0, false, false, [], [⟨0, 32, .ro, [], .none⟩]⟩,
   ⟨LNT_STPER, 1, 4, 0x64, true, false, [], [⟨0, 14, .rws, [(10, 10000, 1)], .down⟩]⟩,
   ⟨LNT_STSTAT, 1, 4, 0x0, false, false, [], [⟨0, 1, .ro, [], .none⟩, ⟨1, 1, .ro, [], .none⟩, ⟨8, 8, .ro, [], .none⟩, ⟨16, 7, .ro, [], .none⟩, ⟨24, 2, .ro, [], .none⟩]⟩,
   ⟨LNT_STRETRY, 1, 4, 0x0, false, false, [], [⟨0, 16, .rc, [], .none⟩]⟩,
   ⟨LNT_BUBBLE, 1, 4, 0x0, false, false, [], [⟨0, 16, .rc, [], .none⟩]⟩,
   ⟨LNT_SIG 0, 3, 4, 0x0, false, false, [], [⟨0, 32, .ro, [], .none⟩]⟩,
   ⟨LNT_ECMPDIFF 0, 4, 4, 0x0, false, false, [], [⟨0, 32, .ro, [], .none⟩]⟩]
  ++ [⟨LNT_ECMPCYC, 1, 4, 0x0, false, false, [], [⟨0, 32, .ro, [], .none⟩]⟩]

/-- Snuffer and watchdogs. -/
def snfRegs : List RegD :=
  [⟨SNF_STAT, 1, 4, 0x1FFFFFF, false, false, [], [⟨0, 24, .ro, [], .none⟩, ⟨24, 1, .ro, [], .none⟩, ⟨25, 1, .ro, [], .none⟩, ⟨26, 1, .ro, [], .none⟩, ⟨27, 1, .ro, [], .none⟩, ⟨28, 1, .ro, [], .none⟩, ⟨29, 1, .ro, [], .none⟩]⟩,
   ⟨SNF_REQ, 1, 4, 0x0, false, false, [], [⟨0, 24, .ro, [], .none⟩]⟩,
   ⟨SNF_OPLVL, 1, 4, 0x0, false, false, [], [⟨0, 24, .rw, [], .none⟩]⟩,
   ⟨SNF_SWSNUFF, 1, 4, 0x0, false, false, [], [⟨0, 24, .w1s, [], .none⟩]⟩,
   ⟨SNF_RELMASK, 1, 4, 0xFFFFFF, false, false, [], [⟨0, 24, .rw, [], .none⟩]⟩,
   ⟨SNF_UNSNUFF, 1, 4, 0x0, false, false, [], [⟨0, 32, .wo, [], .none⟩]⟩,
   ⟨SNF_CHAL, 1, 4, 0x0, false, false, [], [⟨0, 32, .ro, [], .none⟩]⟩,
   ⟨SNF_CHALRSP, 1, 4, 0x0, false, false, [], [⟨0, 32, .wo, [], .none⟩]⟩,
   ⟨SNF_UNSRES, 1, 4, 0x0, false, false, [], [⟨0, 4, .ro, [], .none⟩, ⟨8, 8, .ro, [], .none⟩, ⟨16, 5, .ro, [], .none⟩]⟩,
   ⟨SNF_RDBK, 1, 4, 0x0, false, false, [], [⟨0, 24, .ro, [], .none⟩]⟩,
   ⟨SNF_WWDCFG, 1, 4, 0x186A, true, false, [], [⟨0, 16, .rws, [(1, 65535, 1)], .down⟩, ⟨16, 16, .rws, [], .up⟩]⟩,
   ⟨SNF_WWDKICK, 1, 4, 0x0, false, false, [], [⟨0, 32, .wo, [], .none⟩]⟩]
  ++ [⟨SNF_WWDCNT, 1, 4, 0x0, false, false, [], [⟨0, 16, .ro, [], .none⟩]⟩,
   ⟨SNF_QAWCFG, 1, 4, 0x186A, true, false, [], [⟨0, 16, .rws, [(1, 65535, 1)], .down⟩, ⟨16, 16, .rws, [], .up⟩]⟩,
   ⟨SNF_QAWQ, 1, 4, 0x5C, false, false, [], [⟨0, 8, .ro, [], .none⟩]⟩,
   ⟨SNF_QAWANS, 1, 4, 0x0, false, false, [], [⟨0, 32, .wo, [], .none⟩]⟩,
   ⟨SNF_QAWCNT, 1, 4, 0x0, false, false, [], [⟨0, 16, .ro, [], .none⟩]⟩,
   ⟨SNF_WDCTL, 1, 4, 0x0, true, false, [], [⟨0, 1, .rws, [], .down⟩]⟩,
   ⟨SNF_OCFG 0, 24, 4, 0x0, true, false, [], [⟨0, 1, .ro, [], .none⟩, ⟨1, 1, .ro, [], .none⟩, ⟨2, 1, .ro, [], .none⟩, ⟨3, 1, .rws, [], .up⟩, ⟨16, 10, .rws, [], .up⟩]⟩]

/-- Fault collector and log. -/
def fltRegs : List RegD :=
  [⟨FLT_STAT, 1, 4, 0x0, false, false, [], [⟨0, 1, .w1c, [], .none⟩, ⟨1, 1, .w1c, [], .none⟩, ⟨2, 1, .w1c, [], .none⟩, ⟨3, 1, .w1c, [], .none⟩, ⟨4, 1, .ro, [], .none⟩, ⟨8, 3, .ro, [], .none⟩, ⟨16, 8, .ro, [], .none⟩]⟩,
   ⟨FLT_CFG, 1, 4, 0x3, true, false, [], [⟨0, 3, .rws, [], .up⟩, ⟨8, 1, .rws, [], .down⟩]⟩,
   ⟨FLT_PEND 0, 4, 4, 0x0, false, false, [], [⟨0, 32, .w1c, [], .none⟩]⟩,
   ⟨FLT_LOGHEAD, 1, 4, 0x0, false, false, [], [⟨0, 8, .ro, [], .none⟩, ⟨16, 16, .ro, [], .none⟩]⟩,
   ⟨FLT_LOGTAIL, 1, 4, 0x0, false, false, [], [⟨0, 8, .rw, [], .none⟩]⟩,
   ⟨FLT_REPEAT, 1, 4, 0x0, false, false, [], [⟨0, 16, .rc, [], .none⟩]⟩,
   ⟨FLT_LOST, 1, 4, 0x0, false, false, [], [⟨0, 16, .rc, [], .none⟩]⟩,
   ⟨FLT_FIRST 0, 4, 4, 0x0, false, false, [], [⟨0, 32, .ro, [], .none⟩]⟩,
   ⟨FLT_INJKEY, 1, 4, 0x0, false, false, [], [⟨0, 32, .wo, [], .none⟩]⟩,
   ⟨FLT_INJ, 1, 4, 0x0, false, false, [], [⟨0, 8, .wo, [], .none⟩, ⟨16, 16, .wo, [], .none⟩]⟩,
   ⟨FLT_INJADDR, 1, 4, 0x0, false, false, [], [⟨0, 32, .rw, [(0, 0x3FFFFC, 4), (0x10000000, 0x100BFFFC, 4), (0x18000000, 0x1800FFFC, 4)], .none⟩]⟩,
   ⟨FLT_CLS 0, 32, 4, 0x0, true, false, [], [⟨0, 3, .rws, [], .up⟩, ⟨3, 1, .rws, [], .up⟩, ⟨8, 3, .rws, [], .up⟩, ⟨11, 1, .rws, [], .up⟩, ⟨16, 3, .rws, [], .up⟩, ⟨19, 1, .rws, [], .up⟩, ⟨24, 3, .rws, [], .up⟩, ⟨27, 1, .rws, [], .up⟩]⟩]
  ++ [⟨FLT_OSET 0, 128, 4, 0x0, true, false, [], [⟨0, 24, .rws, [], .bits⟩]⟩]

/-- Interrupt controller. -/
def icRegs : List RegD :=
  [⟨IC_VCFG 0, 256, 4, 0x0, false, false, [], [⟨0, 4, .rw, [], .none⟩, ⟨8, 1, .rw, [], .none⟩, ⟨9, 1, .w1s, [], .none⟩, ⟨16, 1, .ro, [], .none⟩]⟩,
   ⟨IC_PEND 0, 8, 4, 0x0, false, false, [], [⟨0, 32, .ro, [], .none⟩]⟩,
   ⟨IC_STAT, 1, 4, 0x0, false, false, [], [⟨0, 8, .ro, [], .none⟩, ⟨16, 16, .ro, [], .none⟩]⟩,
   ⟨IC_HOLDMAX, 1, 4, 0x0, false, false, [], [⟨0, 8, .rc, [], .none⟩]⟩,
   ⟨IC_XADDR 0, 9, 4, 0x0, false, false, [], [⟨0, 32, .ro, [], .none⟩]⟩]

/-- Protection map. -/
def mpuRegs : List RegD :=
  [⟨MPU_CTL, 1, 4, 0x0, true, false, [], [⟨0, 1, .rws, [], .up⟩, ⟨8, 1, .ro, [], .none⟩]⟩,
   ⟨MPU_STAT, 1, 4, 0x0, false, false, [], [⟨0, 1, .ro, [], .none⟩, ⟨8, 8, .ro, [], .none⟩]⟩,
   ⟨MPU_FADDR, 1, 4, 0x0, false, false, [], [⟨0, 32, .ro, [], .none⟩]⟩,
   ⟨MPU_FINFO, 1, 4, 0x0, false, false, [], [⟨0, 4, .ro, [], .none⟩, ⟨4, 2, .ro, [], .none⟩, ⟨6, 1, .ro, [], .none⟩, ⟨7, 1, .ro, [], .none⟩, ⟨8, 3, .ro, [], .none⟩]⟩,
   ⟨MPU_FCNT, 1, 4, 0x0, false, false, [], [⟨0, 16, .rc, [], .none⟩]⟩,
   ⟨MPU_BASE 0, 32, 8, 0x0, true, false, [], [⟨0, 1, .rw, [], .none⟩, ⟨2, 1, .rw, [], .none⟩, ⟨3, 1, .rw, [], .none⟩, ⟨4, 1, .rw, [], .none⟩, ⟨8, 24, .rw, [], .none⟩]⟩,
   ⟨MPU_ATTR 0, 32, 8, 0xFF08, true, false, [], [⟨0, 6, .rw, [(8, 32, 1)], .none⟩, ⟨8, 8, .rw, [], .none⟩, ⟨16, 9, .rw, [], .none⟩]⟩]

/-- Gate control. -/
def gtRegs : List RegD :=
  [⟨GT_LASTF, 1, 4, 0x0, false, false, [], [⟨0, 7, .ro, [], .none⟩, ⟨8, 4, .ro, [], .none⟩, ⟨12, 4, .ro, [], .none⟩, ⟨16, 8, .ro, [], .none⟩]⟩,
   ⟨GT_LASTV, 1, 4, 0x0, false, false, [], [⟨0, 32, .ro, [], .none⟩]⟩,
   ⟨GT_HWM, 1, 4, 0x0, false, false, [], [⟨0, 4, .rc, [], .none⟩, ⟨16, 9, .rc, [], .none⟩]⟩,
   ⟨GT_CALLS, 1, 4, 0x0, false, false, [], [⟨0, 32, .rc, [], .none⟩]⟩]

/-- Microcode control. -/
def mcRegs : List RegD :=
  [⟨MC_ROMID, 1, 4, 0x6400B001, false, false, [], [⟨0, 32, .ro, [], .none⟩]⟩,
   ⟨MC_PSTAT, 1, 4, 0x0, false, true, [], [⟨0, 1, .ro, [], .none⟩, ⟨1, 1, .ro, [], .none⟩, ⟨2, 3, .ro, [], .none⟩, ⟨16, 16, .ro, [], .none⟩]⟩,
   ⟨MC_PVER, 1, 4, 0x0, false, true, [], [⟨0, 32, .ro, [], .none⟩]⟩,
   ⟨MC_PCOUNT, 1, 4, 0x0, false, true, [], [⟨0, 11, .ro, [], .none⟩, ⟨16, 7, .ro, [], .none⟩]⟩,
   ⟨MC_SCAN, 1, 4, 0x0, false, false, [], [⟨0, 13, .ro, [], .none⟩, ⟨16, 1, .w1c, [], .none⟩, ⟨31, 1, .ro, [], .none⟩]⟩,
   ⟨MC_UTCNT, 1, 4, 0x0, false, false, [], [⟨0, 16, .rc, [], .none⟩, ⟨16, 8, .rc, [], .none⟩]⟩,
   ⟨MC_CWSTAT, 1, 4, 0x0, false, true, [], [⟨0, 1, .ro, [], .none⟩, ⟨1, 1, .ro, [], .none⟩, ⟨4, 7, .ro, [], .none⟩, ⟨16, 11, .ro, [], .none⟩]⟩,
   ⟨MC_CSADDR, 1, 4, 0x0, false, false, [6], [⟨0, 13, .rw, [(0, 6143, 1)], .none⟩]⟩,
   ⟨MC_CSDATA 0, 4, 4, 0x0, false, false, [6], [⟨0, 32, .rw, [], .none⟩]⟩,
   ⟨MC_CSDATA4, 1, 4, 0x0, false, false, [6], [⟨0, 16, .rw, [], .none⟩]⟩,
   ⟨MC_CSCTL, 1, 4, 0x0, false, false, [6], [⟨0, 1, .wo, [], .none⟩, ⟨1, 1, .wo, [], .none⟩]⟩,
   ⟨MC_XOP 0, 64, 4, 0x0, false, true, [], [⟨0, 10, .ro, [], .none⟩, ⟨15, 1, .ro, [], .none⟩, ⟨16, 12, .ro, [], .none⟩]⟩]
  ++ [⟨MC_PM 0, 64, 4, 0x0, false, true, [], [⟨0, 32, .ro, [], .none⟩]⟩]

/-- Key store. -/
def ksRegs : List RegD :=
  [⟨KS_LC, 1, 4, 0x0, false, false, [], [⟨0, 2, .ro, [], .none⟩, ⟨8, 1, .ro, [], .none⟩, ⟨9, 1, .ro, [], .none⟩, ⟨10, 1, .ro, [], .none⟩, ⟨11, 1, .ro, [], .none⟩, ⟨16, 8, .ro, [], .none⟩]⟩,
   ⟨KS_OTPCMD, 1, 4, 0x0, false, false, [], [⟨0, 4, .wo, [], .none⟩, ⟨16, 16, .wo, [], .none⟩]⟩,
   ⟨KS_OTPSTAT, 1, 4, 0x0, false, false, [], [⟨0, 1, .ro, [], .none⟩, ⟨4, 4, .ro, [], .none⟩]⟩,
   ⟨KS_OTPDATA 0, 8, 4, 0x0, false, false, [], [⟨0, 32, .wo, [], .none⟩]⟩,
   ⟨KS_KCMD, 1, 4, 0x0, false, false, [], [⟨0, 1, .wo, [], .none⟩, ⟨16, 16, .wo, [], .none⟩]⟩,
   ⟨KS_KSTAT, 1, 4, 0x0, false, false, [], [⟨0, 1, .ro, [], .none⟩, ⟨4, 4, .ro, [], .none⟩, ⟨8, 2, .ro, [], .none⟩, ⟨10, 2, .ro, [], .none⟩, ⟨12, 1, .ro, [], .none⟩]⟩,
   ⟨KS_JGEN, 1, 4, 0x0, false, false, [], [⟨0, 32, .ro, [], .none⟩]⟩,
   ⟨KS_SLOTST 0, 4, 4, 0x0, false, false, [], [⟨0, 1, .ro, [], .none⟩, ⟨1, 1, .ro, [], .none⟩]⟩,
   ⟨KS_SLOTGEN 0, 4, 4, 0x0, false, false, [], [⟨0, 32, .ro, [], .none⟩]⟩,
   ⟨KS_SIGNER, 1, 4, 0x0, false, false, [], [⟨0, 2, .ro, [], .none⟩, ⟨2, 2, .ro, [], .none⟩, ⟨4, 1, .ro, [], .none⟩]⟩,
   ⟨KS_PCMD, 1, 4, 0x0, false, false, [], [⟨0, 2, .wo, [], .none⟩, ⟨16, 16, .wo, [], .none⟩]⟩,
   ⟨KS_PDATA, 1, 4, 0x0, false, false, [], [⟨0, 32, .wo, [], .none⟩]⟩]
  ++ [⟨KS_PSTAT, 1, 4, 0x0, false, false, [], [⟨0, 1, .ro, [], .none⟩, ⟨4, 4, .ro, [], .none⟩, ⟨8, 1, .ro, [], .none⟩]⟩,
   ⟨KS_UNLCTL, 1, 4, 0x0, false, false, [0], [⟨0, 1, .w1s, [], .none⟩, ⟨1, 1, .w1s, [], .none⟩]⟩,
   ⟨KS_UNLSTAT, 1, 4, 0x0, false, false, [], [⟨0, 1, .ro, [], .none⟩, ⟨1, 1, .ro, [], .none⟩, ⟨2, 2, .ro, [], .none⟩, ⟨4, 4, .ro, [], .none⟩, ⟨8, 4, .ro, [], .none⟩]⟩,
   ⟨KS_BOOT, 1, 4, 0x0, false, false, [], [⟨0, 1, .ro, [], .none⟩, ⟨1, 3, .ro, [], .none⟩, ⟨4, 3, .ro, [], .none⟩, ⟨7, 1, .ro, [], .none⟩, ⟨8, 1, .ro, [], .none⟩, ⟨9, 1, .ro, [], .none⟩]⟩,
   ⟨KS_BOOTCYC, 1, 4, 0x0, false, false, [], [⟨0, 32, .ro, [], .none⟩]⟩,
   ⟨KS_IMGSEL, 1, 4, 0x0, false, false, [], [⟨0, 1, .ro, [], .none⟩, ⟨1, 1, .ro, [], .none⟩, ⟨2, 1, .ro, [], .none⟩, ⟨3, 1, .ro, [], .none⟩, ⟨4, 1, .ro, [], .none⟩, ⟨5, 1, .ro, [], .none⟩]⟩,
   ⟨KS_IMGA, 1, 4, 0x0, false, false, [], [⟨0, 4, .ro, [], .none⟩, ⟨4, 2, .ro, [], .none⟩, ⟨8, 8, .ro, [], .none⟩]⟩,
   ⟨KS_IMGB, 1, 4, 0x0, false, false, [], [⟨0, 4, .ro, [], .none⟩, ⟨4, 2, .ro, [], .none⟩, ⟨8, 8, .ro, [], .none⟩]⟩,
   ⟨KS_IVER 0, 2, 4, 0x0, false, false, [], [⟨0, 32, .ro, [], .none⟩]⟩,
   ⟨KS_IMGSKIP, 1, 4, 0x0, false, false, [], [⟨0, 32, .ro, [], .none⟩]⟩,
   ⟨KS_IMGKEY, 1, 4, 0x0, false, false, [], [⟨0, 2, .ro, [], .none⟩, ⟨2, 2, .ro, [], .none⟩, ⟨4, 1, .ro, [], .none⟩]⟩,
   ⟨KS_RBCNT, 1, 4, 0x0, false, false, [], [⟨0, 7, .ro, [], .none⟩, ⟨8, 1, .ro, [], .none⟩, ⟨16, 7, .ro, [], .none⟩]⟩]
  ++ [⟨KS_RBADV, 1, 4, 0x0, false, false, [], [⟨0, 7, .wo, [], .none⟩, ⟨16, 16, .wo, [], .none⟩]⟩,
   ⟨KS_KBUF 0, 56, 4, 0x0, false, false, [0], [⟨0, 32, .rw, [], .none⟩]⟩]

/-- Entropy and DRBG. -/
def rngRegs : List RegD :=
  [⟨RNG_CTL, 1, 4, 0x0, false, false, [], [⟨0, 1, .w1s, [], .none⟩, ⟨1, 1, .w1s, [], .none⟩]⟩,
   ⟨RNG_STAT, 1, 4, 0x0, false, false, [], [⟨0, 1, .ro, [], .none⟩, ⟨1, 1, .ro, [], .none⟩, ⟨2, 1, .ro, [], .none⟩, ⟨3, 1, .ro, [], .none⟩, ⟨4, 1, .ro, [], .none⟩, ⟨5, 1, .ro, [], .none⟩, ⟨8, 5, .ro, [], .none⟩]⟩,
   ⟨RNG_DATA, 1, 4, 0x0, false, false, [], [⟨0, 32, .ro, [], .none⟩]⟩,
   ⟨RNG_IRQ, 1, 4, 0x0, false, false, [], [⟨0, 1, .w1c, [], .none⟩, ⟨1, 1, .w1c, [], .none⟩]⟩,
   ⟨RNG_IRQEN, 1, 4, 0x0, false, false, [], [⟨0, 2, .rw, [], .none⟩]⟩,
   ⟨RNG_UNDER, 1, 4, 0x0, false, false, [], [⟨0, 16, .rc, [], .none⟩]⟩,
   ⟨RNG_RESEEDS, 1, 4, 0x0, false, false, [], [⟨0, 32, .ro, [], .none⟩]⟩]

/-- Wick domain. -/
def wkRegs : List RegD :=
  [⟨WK_CNT_LO, 1, 4, 0x0, false, false, [], [⟨0, 32, .ro, [], .none⟩]⟩,
   ⟨WK_CNT_HI, 1, 4, 0x0, false, false, [], [⟨0, 16, .ro, [], .none⟩]⟩,
   ⟨WK_CTL, 1, 4, 0x0, false, false, [], [⟨0, 1, .rw, [], .none⟩, ⟨1, 1, .rw, [], .none⟩]⟩,
   ⟨WK_STAT, 1, 4, 0x0, false, false, [], [⟨0, 1, .ro, [], .none⟩, ⟨1, 1, .ro, [], .none⟩, ⟨2, 1, .ro, [], .none⟩, ⟨3, 1, .ro, [], .none⟩, ⟨4, 1, .ro, [], .none⟩]⟩,
   ⟨WK_HCNT, 1, 4, 0x0, false, false, [], [⟨0, 32, .ro, [], .none⟩]⟩,
   ⟨WK_WAKE, 1, 4, 0x3, false, false, [], [⟨0, 5, .rw, [(3, 29, 1)], .none⟩, ⟨8, 1, .rw, [], .none⟩]⟩,
   ⟨WK_IRQ, 1, 4, 0x0, false, false, [], [⟨0, 1, .w1c, [], .none⟩]⟩,
   ⟨WK_IRQEN, 1, 4, 0x0, false, false, [], [⟨0, 1, .rw, [], .none⟩]⟩,
   ⟨WK_TRIMCFG, 1, 4, 0x0, false, false, [], [⟨0, 2, .rw, [(1, 3, 1)], .none⟩, ⟨8, 1, .w1s, [], .none⟩, ⟨16, 8, .rw, [(1, 255, 1)], .none⟩]⟩,
   ⟨WK_TRIMMEAS, 1, 4, 0x0, false, false, [], [⟨0, 32, .ro, [], .none⟩]⟩,
   ⟨WK_TRIM, 1, 4, 0x1, false, false, [], [⟨0, 16, .rw, [(1, 65535, 1)], .none⟩, ⟨16, 1, .rw, [], .none⟩, ⟨17, 1, .rw, [], .none⟩]⟩,
   ⟨WK_CALTLO, 1, 4, 0x0, false, false, [], [⟨0, 32, .rw, [], .none⟩]⟩]
  ++ [⟨WK_CALTHI, 1, 4, 0x0, false, false, [], [⟨0, 16, .rw, [], .none⟩]⟩,
   ⟨WK_CALDATE, 1, 4, 0x6010100, false, false, [], [⟨0, 8, .rw, [(0, 199, 1)], .none⟩, ⟨8, 4, .rw, [(1, 12, 1)], .none⟩, ⟨16, 5, .rw, [(1, 31, 1)], .none⟩, ⟨24, 3, .ro, [], .none⟩]⟩,
   ⟨WK_CALTIME, 1, 4, 0x0, false, false, [], [⟨0, 6, .rw, [(0, 59, 1)], .none⟩, ⟨8, 6, .rw, [(0, 59, 1)], .none⟩, ⟨16, 5, .rw, [(0, 23, 1)], .none⟩]⟩,
   ⟨WK_CALSUB, 1, 4, 0x0, false, false, [], [⟨0, 15, .rw, [], .none⟩]⟩,
   ⟨WK_CALCTL, 1, 4, 0x0, false, false, [], [⟨0, 1, .w1s, [], .none⟩, ⟨1, 1, .w1s, [], .none⟩, ⟨8, 1, .ro, [], .none⟩, ⟨9, 1, .ro, [], .none⟩]⟩]

/-- Memory integrity. -/
def memiRegs : List RegD :=
  [⟨MEM_STAT, 1, 4, 0x0, false, true, [], [⟨0, 1, .ro, [], .none⟩, ⟨1, 1, .ro, [], .none⟩, ⟨2, 1, .ro, [], .none⟩, ⟨3, 1, .ro, [], .none⟩, ⟨4, 1, .ro, [], .none⟩, ⟨5, 1, .w1c, [], .none⟩, ⟨6, 1, .w1c, [], .none⟩]⟩,
   ⟨MEM_SCRCFG, 1, 4, 0x140, false, false, [], [⟨0, 9, .rw, [(64, 320, 1)], .none⟩]⟩,
   ⟨MEM_SCRPASS, 1, 4, 0x0, false, false, [], [⟨0, 32, .ro, [], .none⟩]⟩,
   ⟨MEM_SPPASS, 1, 4, 0x0, false, false, [], [⟨0, 8, .ro, [], .none⟩]⟩,
   ⟨MEM_DETPTR, 1, 4, 0x0, false, false, [], [⟨0, 15, .ro, [], .none⟩, ⟨16, 7, .ro, [], .none⟩]⟩,
   ⟨MEM_CECNT, 1, 4, 0x0, false, false, [], [⟨0, 8, .rc, [], .none⟩, ⟨8, 8, .rc, [], .none⟩]⟩,
   ⟨MEM_CEADDR, 1, 4, 0x0, false, false, [], [⟨0, 32, .ro, [], .none⟩]⟩,
   ⟨MEM_CESYN, 1, 4, 0x0, false, false, [], [⟨0, 7, .ro, [], .none⟩, ⟨8, 1, .ro, [], .none⟩]⟩,
   ⟨MEM_UEADDR, 1, 4, 0x0, false, false, [], [⟨0, 32, .ro, [], .none⟩]⟩,
   ⟨MEM_UESYN, 1, 4, 0x0, false, false, [], [⟨0, 7, .ro, [], .none⟩, ⟨8, 1, .ro, [], .none⟩, ⟨9, 1, .ro, [], .none⟩]⟩,
   ⟨MEM_RPT 0, 4, 4, 0x0, false, false, [], [⟨0, 1, .w1c, [], .none⟩, ⟨2, 30, .ro, [], .none⟩]⟩,
   ⟨MEM_E2EINFO, 1, 4, 0x0, false, false, [], [⟨0, 4, .ro, [], .none⟩, ⟨4, 3, .ro, [], .none⟩, ⟨8, 1, .ro, [], .none⟩, ⟨9, 1, .ro, [], .none⟩, ⟨10, 1, .ro, [], .none⟩]⟩]
  ++ [⟨MEM_E2EADDR, 1, 4, 0x0, false, false, [], [⟨0, 32, .ro, [], .none⟩]⟩,
   ⟨MEM_WBLOST, 1, 4, 0x0, false, false, [], [⟨0, 16, .rc, [], .none⟩]⟩,
   ⟨MEM_CLRCYC, 1, 4, 0x0, false, true, [], [⟨0, 16, .ro, [], .none⟩, ⟨16, 16, .ro, [], .none⟩]⟩,
   ⟨FLC_STAT, 1, 4, 0x0, false, false, [], [⟨0, 1, .ro, [], .none⟩, ⟨1, 1, .ro, [], .none⟩, ⟨2, 1, .w1c, [], .none⟩, ⟨3, 1, .w1c, [], .none⟩, ⟨4, 3, .ro, [], .none⟩]⟩,
   ⟨FLC_CMD, 1, 4, 0x0, false, false, [], [⟨0, 4, .wo, [], .none⟩, ⟨16, 16, .wo, [], .none⟩]⟩,
   ⟨FLC_ADDR, 1, 4, 0x0, false, false, [], [⟨0, 22, .rw, [], .none⟩]⟩,
   ⟨FLC_DATA 0, 8, 4, 0x0, false, false, [], [⟨0, 32, .rw, [], .none⟩]⟩,
   ⟨FLC_LOCK 0, 2, 4, 0x0, false, true, [], [⟨0, 32, .w1s, [], .none⟩]⟩,
   ⟨FLC_CECNT, 1, 4, 0x0, false, false, [], [⟨0, 16, .rc, [], .none⟩, ⟨16, 16, .rc, [], .none⟩]⟩,
   ⟨FLC_CEADDR, 1, 4, 0x0, false, false, [], [⟨0, 32, .ro, [], .none⟩]⟩,
   ⟨FLC_UEADDR, 1, 4, 0x0, false, false, [], [⟨0, 32, .ro, [], .none⟩]⟩]

/-- Channel Engine. -/
def ceRegs : List RegD :=
  [⟨CE_CTL, 1, 4, 0x0, false, false, [], [⟨0, 1, .rw, [], .none⟩]⟩,
   ⟨CE_STAT, 1, 4, 0x0, false, false, [], [⟨0, 11, .ro, [], .none⟩, ⟨11, 11, .ro, [], .none⟩, ⟨22, 7, .ro, [], .none⟩]⟩,
   ⟨CE_IRQ, 1, 4, 0x0, false, false, [], [⟨0, 1, .w1c, [], .none⟩, ⟨1, 1, .w1c, [], .none⟩, ⟨2, 1, .w1c, [], .none⟩, ⟨3, 1, .w1c, [], .none⟩]⟩,
   ⟨CE_IRQEN, 1, 4, 0x0, false, false, [], [⟨0, 4, .rw, [], .none⟩]⟩,
   ⟨CE_DLWIN, 1, 4, 0x2003C0, false, false, [], [⟨0, 10, .rw, [], .none⟩, ⟨16, 11, .rw, [], .none⟩]⟩,
   ⟨CE_EVLOST, 1, 4, 0x0, false, false, [], [⟨0, 16, .rc, [], .none⟩]⟩,
   ⟨CE_NTQ, 1, 4, 0x0, false, false, [], [⟨0, 8, .ro, [], .none⟩, ⟨8, 12, .ro, [], .none⟩]⟩,
   ⟨CE_NTSTAT, 1, 4, 0x0, false, false, [], [⟨0, 16, .ro, [], .none⟩]⟩,
   ⟨CE_TAGMAP 0, 32, 4, 0x0, false, false, [], [⟨0, 32, .ro, [], .none⟩]⟩,
   ⟨CE_QBASE 0, 256, 16, 0x10000000, false, false, [], [⟨4, 16, .rw, [], .none⟩, ⟨20, 12, .ro, [], .none⟩]⟩,
   ⟨CE_QCFG 0, 256, 16, 0xC, false, false, [], [⟨0, 2, .rw, [], .none⟩, ⟨2, 4, .rw, [(3, 12, 1)], .none⟩, ⟨6, 1, .rw, [], .none⟩, ⟨8, 8, .rw, [(1, 255, 1)], .none⟩, ⟨16, 7, .rw, [], .none⟩, ⟨23, 1, .rw, [], .none⟩]⟩,
   ⟨CE_QDB 0, 256, 16, 0x0, false, false, [], [⟨0, 12, .wo, [], .none⟩]⟩]
  ++ [⟨CE_QPTR 0, 256, 16, 0x10000000, false, false, [], [⟨0, 12, .ro, [], .none⟩, ⟨16, 12, .ro, [], .none⟩, ⟨28, 1, .ro, [], .none⟩, ⟨29, 1, .ro, [], .none⟩, ⟨30, 1, .ro, [], .none⟩]⟩,
   ⟨CE_TWIN 0, 256, 4, 0x0, false, false, [], [⟨0, 10, .rw, [], .none⟩, ⟨16, 11, .rw, [], .none⟩]⟩,
   ⟨CE_CHINFO 0, 1024, 4, 0x0, false, false, [], [⟨0, 6, .ro, [], .none⟩, ⟨6, 1, .ro, [], .none⟩, ⟨7, 3, .ro, [], .none⟩, ⟨10, 12, .ro, [], .none⟩, ⟨22, 8, .ro, [], .none⟩]⟩,
   ⟨CE_LEDGER 0, 2048, 4, 0x0, false, true, [], [⟨0, 32, .ro, [], .none⟩]⟩]

/-- Monitor slices and converters. -/
def monRegs : List RegD :=
  [⟨MON_CFG 0, 128, 64, 0x0, true, false, [], [⟨0, 1, .ro, [], .none⟩, ⟨1, 2, .ro, [], .none⟩, ⟨3, 1, .ro, [], .none⟩, ⟨4, 2, .ro, [], .none⟩, ⟨6, 1, .rws, [], .up⟩, ⟨7, 1, .rws, [], .up⟩, ⟨16, 1, .w1s, [], .none⟩]⟩,
   ⟨MON_THR 0, 128, 64, 0x0, true, false, [], [⟨0, 10, .rw, [], .none⟩, ⟨16, 10, .rw, [], .none⟩]⟩,
   ⟨MON_FILT 0, 128, 64, 0x0, true, false, [], [⟨0, 5, .rws, [], .up⟩, ⟨8, 8, .rws, [], .down⟩, ⟨16, 8, .ro, [], .none⟩, ⟨24, 1, .ro, [], .none⟩]⟩,
   ⟨MON_LIM 0, 128, 64, 0x0, true, false, [], [⟨0, 10, .ro, [], .none⟩, ⟨16, 10, .ro, [], .none⟩]⟩,
   ⟨MON_RTEU 0, 128, 64, 0x0, true, false, [], [⟨0, 24, .rws, [], .bits⟩]⟩,
   ⟨MON_RTEL 0, 128, 64, 0x0, true, false, [], [⟨0, 24, .rws, [], .bits⟩]⟩,
   ⟨MON_STAT 0, 128, 64, 0x0, false, false, [], [⟨0, 1, .ro, [], .none⟩, ⟨1, 1, .ro, [], .none⟩, ⟨2, 1, .ro, [], .none⟩, ⟨3, 1, .ro, [], .none⟩, ⟨4, 1, .ro, [], .none⟩, ⟨5, 1, .ro, [], .none⟩, ⟨6, 1, .ro, [], .none⟩, ⟨8, 8, .ro, [], .none⟩]⟩,
   ⟨MON_SC 0, 128, 64, 0x0, false, false, [], [⟨0, 1, .ro, [], .none⟩, ⟨1, 3, .ro, [], .none⟩, ⟨8, 8, .rc, [], .none⟩]⟩,
   ⟨MON_GRPC 0, 32, 64, 0x0, true, false, [], [⟨0, 2, .ro, [], .none⟩, ⟨3, 7, .ro, [], .none⟩, ⟨10, 7, .ro, [], .none⟩, ⟨17, 7, .ro, [], .none⟩]⟩,
   ⟨MON_GRPS 0, 32, 64, 0x0, false, false, [], [⟨0, 1, .ro, [], .none⟩, ⟨1, 1, .ro, [], .none⟩, ⟨2, 1, .ro, [], .none⟩, ⟨3, 1, .ro, [], .none⟩]⟩,
   ⟨MON_GRPRU 0, 32, 64, 0x0, true, false, [], [⟨0, 24, .rws, [], .bits⟩]⟩,
   ⟨MON_GRPRL 0, 32, 64, 0x0, true, false, [], [⟨0, 24, .rws, [], .bits⟩]⟩]
  ++ [⟨MON_WSET 0, 4, 4, 0x0, true, false, [], [⟨0, 32, .rws, [], .bits⟩]⟩,
   ⟨MON_VIOL 0, 4, 4, 0x0, false, false, [], [⟨0, 32, .ro, [], .none⟩]⟩,
   ⟨MON_GCTL, 1, 4, 0x8, true, false, [], [⟨0, 7, .rw, [(1, 80, 1)], .none⟩, ⟨16, 5, .ro, [], .none⟩]⟩,
   ⟨ADC_STAT 0, 2, 4, 0x0, false, false, [], [⟨0, 1, .ro, [], .none⟩, ⟨1, 1, .ro, [], .none⟩, ⟨2, 3, .ro, [], .none⟩, ⟨5, 1, .ro, [], .none⟩, ⟨6, 1, .ro, [], .none⟩, ⟨8, 16, .ro, [], .none⟩]⟩,
   ⟨ADC_CALAGE 0, 2, 4, 0x0, false, false, [], [⟨0, 16, .ro, [], .none⟩]⟩,
   ⟨ADC_REF 0, 2, 4, 0x0, false, false, [], [⟨0, 14, .ro, [], .none⟩]⟩,
   ⟨ADC_IRQ, 1, 4, 0x0, false, false, [], [⟨0, 2, .w1c, [], .none⟩, ⟨8, 2, .w1c, [], .none⟩]⟩,
   ⟨ADC_IRQEN, 1, 4, 0x0, false, false, [], [⟨0, 2, .rw, [], .none⟩, ⟨8, 2, .rw, [], .none⟩]⟩,
   ⟨ADC_CNT 0, 2, 4, 0x0, false, false, [], [⟨0, 32, .rc, [], .none⟩]⟩,
   ⟨ADC_FORCE 0, 2, 4, 0x0, false, false, [], [⟨0, 16, .rc, [], .none⟩]⟩]

/-- Ports, partners, GPIO and link test. -/
def portRegs : List RegD :=
  [⟨PORT_CFG 0, 16, 1024, 0x0, true, false, [], [⟨0, 3, .ro, [], .none⟩, ⟨3, 1, .ro, [], .none⟩, ⟨4, 1, .ro, [], .none⟩, ⟨5, 1, .ro, [], .none⟩, ⟨6, 1, .ro, [], .none⟩, ⟨7, 1, .ro, [], .none⟩, ⟨8, 2, .ro, [], .none⟩, ⟨10, 1, .ro, [], .none⟩, ⟨11, 1, .ro, [], .none⟩, ⟨12, 1, .ro, [], .none⟩]⟩,
   ⟨PORT_CTL 0, 16, 1024, 0x0, false, false, [], [⟨0, 1, .w1s, [], .none⟩, ⟨1, 1, .w1s, [], .none⟩, ⟨2, 1, .rw, [], .none⟩, ⟨3, 1, .w1s, [], .none⟩]⟩,
   ⟨PORT_STAT 0, 16, 1024, 0x0, false, false, [], [⟨0, 1, .ro, [], .none⟩, ⟨1, 1, .ro, [], .none⟩, ⟨2, 1, .ro, [], .none⟩, ⟨3, 1, .ro, [], .none⟩, ⟨4, 1, .ro, [], .none⟩, ⟨5, 1, .ro, [], .none⟩, ⟨6, 1, .ro, [], .none⟩, ⟨8, 8, .ro, [], .none⟩, ⟨16, 7, .ro, [], .none⟩, ⟨24, 8, .ro, [], .none⟩]⟩,
   ⟨PORT_TMO 0, 16, 1024, 0x19, true, false, [], [⟨0, 8, .rws, [(1, 255, 1)], .down⟩]⟩,
   ⟨PORT_BAUD 0, 16, 1024, 0x4, true, false, [], [⟨0, 16, .rw, [(4, 65535, 1)], .none⟩, ⟨16, 4, .rw, [], .none⟩]⟩,
   ⟨PORT_IRQ 0, 16, 1024, 0x0, false, false, [], [⟨0, 9, .w1c, [], .none⟩]⟩,
   ⟨PORT_IRQEN 0, 16, 1024, 0x0, false, false, [], [⟨0, 9, .rw, [], .none⟩]⟩,
   ⟨PORT_TADDR 0, 16, 1024, 0x0, true, false, [], [⟨0, 7, .ro, [], .none⟩]⟩,
   ⟨PORT_TBASE 0, 16, 1024, 0x10000000, false, false, [], [⟨0, 32, .rw, [(0x10000000, 0x100BC000, 16384)], .none⟩]⟩,
   ⟨PORT_DAA 0, 16, 1024, 0x0, false, false, [], [⟨0, 8, .ro, [], .none⟩, ⟨8, 8, .ro, [], .none⟩]⟩,
   ⟨PORT_NEWPIDL 0, 16, 1024, 0x0, false, false, [], [⟨0, 32, .ro, [], .none⟩]⟩,
   ⟨PORT_NEWPIDH 0, 16, 1024, 0x0, false, false, [], [⟨0, 32, .ro, [], .none⟩]⟩]
  ++ [⟨PORT_SPICFG 0, 16, 1024, 0x0, true, false, [], [⟨0, 6, .ro, [], .none⟩, ⟨6, 1, .ro, [], .none⟩, ⟨8, 6, .ro, [], .none⟩, ⟨14, 1, .ro, [], .none⟩, ⟨16, 6, .ro, [], .none⟩, ⟨22, 1, .ro, [], .none⟩]⟩,
   ⟨PORT_CNT 0, 16, 1024, 0x0, false, false, [], [⟨0, 16, .rc, [], .none⟩, ⟨16, 16, .rc, [], .none⟩]⟩,
   ⟨PORT_BAUDE 0, 16, 1024, 0x4, true, false, [], [⟨0, 16, .rw, [(4, 65535, 1)], .none⟩, ⟨16, 4, .rw, [], .none⟩]⟩,
   ⟨PORT_PIDX, 1, 4, 0x0, false, false, [], [⟨0, 12, .rw, [], .none⟩]⟩,
   ⟨PORT_PDATA 0, 1, 4, 0x0, false, false, [], [⟨0, 5, .rw, [], .none⟩, ⟨5, 1, .ro, [], .none⟩, ⟨6, 20, .rw, [], .none⟩, ⟨31, 1, .ro, [], .none⟩]⟩,
   ⟨PORT_PDATA 1, 1, 4, 0x0, false, false, [], [⟨0, 23, .rw, [], .none⟩]⟩,
   ⟨PORT_PDATA 2, 1, 4, 0x0, false, false, [], [⟨0, 32, .rw, [], .none⟩]⟩,
   ⟨PORT_PDATA 3, 1, 4, 0x0, false, false, [], [⟨0, 16, .rw, [], .none⟩, ⟨16, 16, .ro, [], .none⟩]⟩,
   ⟨PORT_PCMD, 1, 4, 0x0, false, false, [], [⟨0, 1, .wo, [], .none⟩, ⟨1, 1, .wo, [], .none⟩, ⟨2, 1, .wo, [], .none⟩]⟩,
   ⟨PORT_PERRIDX, 1, 4, 0x0, false, false, [], [⟨0, 12, .ro, [], .none⟩]⟩,
   ⟨PORT_PVALID, 1, 4, 0x0, false, false, [], [⟨0, 13, .ro, [], .none⟩]⟩,
   ⟨GP_IN 0, 2, 4, 0x0, false, false, [], [⟨0, 32, .ro, [], .none⟩]⟩,
   ⟨GP_OUT0, 1, 4, 0x0, false, false, [], [⟨0, 32, .rw, [], .none⟩]⟩,
   ⟨GP_OUT1, 1, 4, 0x0, false, false, [], [⟨0, 8, .rw, [], .none⟩]⟩,
   ⟨GP_OSET 0, 2, 4, 0x0, false, false, [], [⟨0, 32, .wo, [], .none⟩]⟩]
  ++ [⟨GP_OCLR 0, 2, 4, 0x0, false, false, [], [⟨0, 32, .wo, [], .none⟩]⟩,
   ⟨GP_IRQ0, 1, 4, 0x0, false, false, [], [⟨0, 32, .w1c, [], .none⟩]⟩,
   ⟨GP_IRQ1, 1, 4, 0x0, false, false, [], [⟨0, 8, .w1c, [], .none⟩]⟩,
   ⟨GP_CFG 0, 40, 4, 0x0, false, false, [], [⟨0, 1, .rw, [], .none⟩, ⟨1, 1, .rw, [], .none⟩, ⟨2, 2, .rw, [(0, 2, 1)], .none⟩, ⟨4, 3, .rw, [(0, 5, 1)], .none⟩, ⟨8, 8, .rw, [], .none⟩, ⟨16, 1, .ro, [], .none⟩]⟩,
   ⟨TST_CTL 0, 19, 32, 0x10000, false, false, [], [⟨0, 1, .rw, [], .none⟩, ⟨1, 1, .rw, [], .none⟩, ⟨2, 2, .rw, [(0, 2, 1)], .none⟩, ⟨4, 2, .rw, [(0, 2, 1)], .none⟩, ⟨6, 1, .rw, [], .none⟩, ⟨16, 16, .rw, [(1, 65535, 1)], .none⟩]⟩,
   ⟨TST_STAT 0, 19, 32, 0x0, false, false, [], [⟨0, 1, .ro, [], .none⟩, ⟨1, 1, .ro, [], .none⟩]⟩,
   ⟨TST_ERR 0, 19, 32, 0x0, false, false, [], [⟨0, 32, .rc, [], .none⟩]⟩,
   ⟨TST_BITS 0, 19, 32, 0x0, false, false, [], [⟨0, 32, .rc, [], .none⟩]⟩]

/-- Ring and pair. -/
def ringRegs : List RegD :=
  [⟨RING_CTL, 1, 4, 0x0, true, false, [], [⟨0, 1, .rw, [], .none⟩, ⟨1, 1, .w1s, [], .none⟩, ⟨2, 1, .w1s, [], .none⟩]⟩,
   ⟨RING_STAT, 1, 4, 0x0, false, true, [], [⟨0, 1, .ro, [], .none⟩, ⟨1, 1, .ro, [], .none⟩, ⟨2, 1, .ro, [], .none⟩, ⟨3, 1, .ro, [], .none⟩, ⟨4, 1, .ro, [], .none⟩, ⟨8, 6, .ro, [], .none⟩, ⟨16, 7, .ro, [], .none⟩]⟩,
   ⟨RING_IRQ, 1, 4, 0x0, false, false, [], [⟨0, 1, .w1c, [], .none⟩, ⟨1, 1, .w1c, [], .none⟩, ⟨2, 1, .w1c, [], .none⟩, ⟨3, 1, .w1c, [], .none⟩, ⟨4, 1, .w1c, [], .none⟩, ⟨5, 1, .w1c, [], .none⟩]⟩,
   ⟨RING_IRQEN, 1, 4, 0x0, false, false, [], [⟨0, 6, .rw, [], .none⟩]⟩,
   ⟨RING_UIDL, 1, 4, 0x0, false, true, [], [⟨0, 32, .ro, [], .none⟩]⟩,
   ⟨RING_UIDH, 1, 4, 0x0, false, true, [], [⟨0, 32, .ro, [], .none⟩]⟩,
   ⟨RING_CDLY, 1, 4, 0x0, false, false, [], [⟨0, 12, .rw, [], .none⟩]⟩,
   ⟨RING_RTMO, 1, 4, 0x40, false, false, [], [⟨0, 8, .rw, [(8, 255, 1)], .none⟩]⟩,
   ⟨RING_PRES 0, 2, 4, 0x0, false, false, [], [⟨0, 32, .ro, [], .none⟩]⟩,
   ⟨RING_ISO 0, 2, 4, 0x0, false, false, [], [⟨0, 32, .ro, [], .none⟩]⟩,
   ⟨RING_MRST, 1, 4, 0x0, false, false, [], [⟨0, 6, .wo, [], .none⟩]⟩,
   ⟨RING_GTMCNT, 1, 4, 0x0, false, false, [], [⟨0, 32, .ro, [], .none⟩]⟩]
  ++ [⟨RING_GTLCNT, 1, 4, 0x0, false, false, [], [⟨0, 32, .ro, [], .none⟩]⟩,
   ⟨RING_GTPH, 1, 4, 0x0, false, false, [], [⟨0, 32, .ro, [], .none⟩]⟩,
   ⟨RING_RXBASE, 1, 4, 0x10000000, false, false, [], [⟨0, 32, .rw, [(0x10000000, 0x100BF000, 4096)], .none⟩]⟩,
   ⟨RING_RXMAP 0, 2, 4, 0x0, false, false, [], [⟨0, 32, .w1c, [], .none⟩]⟩,
   ⟨RING_SNF, 1, 4, 0x0, false, false, [], [⟨0, 2, .ro, [], .none⟩, ⟨2, 1, .ro, [], .none⟩, ⟨8, 6, .ro, [], .none⟩, ⟨14, 2, .ro, [], .none⟩]⟩,
   ⟨RING_RERR, 1, 4, 0x0, false, false, [], [⟨0, 4, .ro, [], .none⟩, ⟨8, 6, .ro, [], .none⟩, ⟨16, 1, .ro, [], .none⟩]⟩,
   ⟨RING_FCNT, 1, 4, 0x0, false, false, [], [⟨0, 32, .rc, [], .none⟩]⟩,
   ⟨RING_CRCCNT, 1, 4, 0x0, false, false, [], [⟨0, 32, .rc, [], .none⟩]⟩,
   ⟨RING_PCFG, 1, 4, 0x0, true, false, [], [⟨0, 4, .ro, [], .none⟩, ⟨8, 6, .ro, [], .none⟩, ⟨14, 1, .ro, [], .none⟩, ⟨16, 6, .ro, [], .none⟩]⟩,
   ⟨RING_PSTAT, 1, 4, 0x0, false, false, [], [⟨0, 2, .ro, [], .none⟩, ⟨2, 1, .ro, [], .none⟩, ⟨3, 1, .ro, [], .none⟩, ⟨4, 6, .ro, [], .none⟩, ⟨10, 1, .ro, [], .none⟩, ⟨12, 3, .ro, [], .none⟩, ⟨15, 1, .ro, [], .none⟩]⟩,
   ⟨RING_PCTL, 1, 4, 0x0, false, false, [], [⟨0, 1, .w1s, [], .none⟩, ⟨1, 1, .w1s, [], .none⟩]⟩,
   ⟨RING_PIRQ, 1, 4, 0x0, false, false, [], [⟨0, 1, .w1c, [], .none⟩, ⟨1, 1, .w1c, [], .none⟩, ⟨2, 1, .w1c, [], .none⟩, ⟨3, 1, .w1c, [], .none⟩, ⟨4, 1, .w1c, [], .none⟩]⟩]
  ++ [⟨RING_PIRQEN, 1, 4, 0x0, false, false, [], [⟨0, 5, .rw, [], .none⟩]⟩,
   ⟨RING_MSEQ, 1, 4, 0x0, false, false, [], [⟨0, 16, .ro, [], .none⟩, ⟨16, 16, .ro, [], .none⟩]⟩,
   ⟨RING_MFLUSH, 1, 4, 0x0, false, false, [], [⟨0, 32, .wo, [], .none⟩]⟩,
   ⟨RING_MWBASE, 1, 4, 0x0, true, false, [], [⟨0, 32, .ro, [], .none⟩]⟩]

/-- Host path and management path. -/
def hostRegs : List RegD :=
  [⟨HOST_ID, 1, 4, 0x6400B000, false, false, [], [⟨0, 32, .ro, [], .none⟩]⟩,
   ⟨HOST_HSTAT, 1, 4, 0x0, false, false, [], [⟨0, 3, .ro, [], .none⟩, ⟨3, 1, .ro, [], .none⟩, ⟨4, 1, .ro, [], .none⟩, ⟨8, 8, .ro, [], .none⟩, ⟨16, 8, .ro, [], .none⟩, ⟨24, 8, .ro, [], .none⟩]⟩,
   ⟨HOST_ATTN, 1, 4, 0x0, false, false, [3], [⟨0, 8, .w1c, [], .none⟩, ⟨8, 8, .ro, [], .none⟩]⟩,
   ⟨HOST_ATTNEN, 1, 4, 0x0, false, false, [], [⟨0, 8, .rw, [], .none⟩, ⟨8, 8, .rw, [], .none⟩, ⟨16, 1, .rw, [], .none⟩]⟩,
   ⟨HOST_DUMMY, 1, 4, 0x18, false, false, [], [⟨0, 7, .rw, [(8, 64, 1)], .none⟩]⟩,
   ⟨HOST_WAKEREG, 1, 4, 0x0, false, false, [], [⟨0, 32, .wo, [], .none⟩]⟩,
   ⟨HOST_SQDB 0, 8, 8, 0x0, false, false, [], [⟨0, 12, .wo, [], .none⟩]⟩,
   ⟨HOST_CQDB 0, 8, 8, 0x0, false, false, [], [⟨0, 12, .wo, [], .none⟩]⟩,
   ⟨HOST_H2D 0, 8, 8, 0x0, false, false, [3], [⟨0, 32, .rw, [], .none⟩]⟩,
   ⟨HOST_D2H 0, 8, 8, 0x0, false, false, [0], [⟨0, 32, .rw, [], .none⟩]⟩,
   ⟨HOST_CFG, 1, 4, 0x0, false, true, [], [⟨0, 1, .ro, [], .none⟩, ⟨8, 7, .ro, [], .none⟩, ⟨15, 1, .ro, [], .none⟩]⟩,
   ⟨HOST_ERR, 1, 4, 0x0, false, false, [], [⟨0, 3, .ro, [], .none⟩, ⟨4, 4, .ro, [], .none⟩, ⟨16, 16, .ro, [], .none⟩]⟩]
  ++ [⟨HOST_LATECNT, 1, 4, 0x0, false, false, [], [⟨0, 16, .rc, [], .none⟩]⟩,
   ⟨HOST_MBCFG 0, 8, 16, 0x0, false, false, [], [⟨0, 1, .rw, [], .none⟩, ⟨8, 8, .rw, [(2, 255, 1)], .none⟩, ⟨16, 8, .rw, [(2, 255, 1)], .none⟩]⟩,
   ⟨HOST_MBWIN 0, 8, 16, 0x10000001, false, false, [], [⟨0, 5, .rw, [(1, 16, 1)], .none⟩, ⟨12, 20, .rw, [(0x10000, 65727, 1)], .none⟩]⟩,
   ⟨HOST_MBOPS 0, 8, 16, 0x0, false, false, [], [⟨0, 32, .rw, [], .none⟩]⟩,
   ⟨HOST_MBIRQ 0, 8, 16, 0x0, false, false, [], [⟨0, 1, .w1c, [], .none⟩, ⟨1, 1, .w1c, [], .none⟩, ⟨2, 1, .w1c, [], .none⟩, ⟨8, 3, .rw, [], .none⟩, ⟨16, 1, .w1s, [], .none⟩, ⟨24, 1, .ro, [], .none⟩]⟩,
   ⟨MGMT_CFG, 1, 4, 0x0, false, true, [], [⟨0, 7, .ro, [], .none⟩]⟩,
   ⟨MGMT_LIDX, 1, 4, 0x0, false, false, [], [⟨0, 11, .rw, [], .none⟩]⟩,
   ⟨MGMT_LOGIDX, 1, 4, 0x0, false, false, [], [⟨0, 8, .rw, [], .none⟩]⟩,
   ⟨MGMT_PROP0, 1, 4, 0x0, false, false, [4], [⟨0, 11, .rw, [], .none⟩, ⟨16, 1, .rw, [], .none⟩, ⟨17, 7, .rw, [(1, 127, 1)], .none⟩]⟩,
   ⟨MGMT_PROP1, 1, 4, 0x0, false, false, [4], [⟨0, 12, .rw, [], .none⟩]⟩,
   ⟨MGMT_HOLDRES, 1, 4, 0x0, false, false, [], [⟨0, 32, .ro, [], .none⟩]⟩,
   ⟨MGMT_PREQ, 1, 4, 0x5, false, false, [4], [⟨0, 3, .rw, [(0, 5, 1)], .none⟩, ⟨8, 1, .ro, [], .none⟩]⟩]
  ++ [⟨MGMT_PRES, 1, 4, 0x0, false, false, [0], [⟨0, 2, .rw, [(0, 2, 1)], .none⟩]⟩,
   ⟨MGMT_IRQ, 1, 4, 0x0, false, false, [], [⟨0, 1, .w1c, [], .none⟩, ⟨1, 1, .w1c, [], .none⟩, ⟨2, 1, .w1c, [], .none⟩]⟩,
   ⟨MGMT_IRQEN, 1, 4, 0x0, false, false, [], [⟨0, 3, .rw, [], .none⟩]⟩,
   ⟨MGMT_ERRCNT, 1, 4, 0x0, false, false, [], [⟨0, 16, .rc, [], .none⟩, ⟨24, 8, .ro, [], .none⟩]⟩]

/-- Debug. -/
def dbgRegs : List RegD :=
  [⟨DBG_CTL, 1, 4, 0x0, false, false, [6], [⟨0, 1, .w1s, [], .none⟩, ⟨1, 1, .w1s, [], .none⟩, ⟨2, 1, .w1s, [], .none⟩, ⟨3, 1, .rw, [], .none⟩, ⟨4, 1, .rw, [], .none⟩]⟩,
   ⟨DBG_STAT, 1, 4, 0x0, false, false, [], [⟨0, 1, .ro, [], .none⟩, ⟨1, 1, .ro, [], .none⟩, ⟨2, 2, .ro, [], .none⟩]⟩,
   ⟨DBG_BP 0, 4, 4, 0x0, false, false, [], [⟨0, 1, .rw, [], .none⟩, ⟨2, 30, .rw, [], .none⟩]⟩,
   ⟨DBG_REGSEL, 1, 4, 0x0, false, false, [], [⟨0, 12, .rw, [], .none⟩, ⟨12, 1, .rw, [], .none⟩]⟩,
   ⟨DBG_REGDATA, 1, 4, 0x0, false, false, [], [⟨0, 32, .rw, [], .none⟩]⟩,
   ⟨DBG_COPYSEL, 1, 4, 0x0, false, false, [], [⟨0, 2, .rw, [(0, 2, 1)], .none⟩]⟩]

/-- The table rows of the 4 KiB page that holds an address. -/
def pageRegs (a : Nat) : List RegD :=
  let p := a / 4096
  if p = 0x40000 then sysRegs
  else if p = 0x40001 then pmRegs
  else if p = 0x40002 then clkRegs
  else if p = 0x40003 then lntRegs
  else if p = 0x40004 then snfRegs
  else if p = 0x40005 then fltRegs
  else if p = 0x40006 then icRegs
  else if p = 0x40007 then mpuRegs
  else if p = 0x40008 then gtRegs
  else if p = 0x40009 then mcRegs
  else if p = 0x4000A then ksRegs
  else if p = 0x4000B then rngRegs
  else if p = 0x4000C then wkRegs
  else if p = 0x4000D then memiRegs
  else if p = 0x4000E then memiRegs
  else if p = 0x40010 then ceRegs
  else if p = 0x40011 then ceRegs
  else if p = 0x40012 then ceRegs
  else if p = 0x40014 then ceRegs
  else if p = 0x40018 then ceRegs
  else if p = 0x40019 then ceRegs
  else if p = 0x40020 then monRegs
  else if p = 0x40021 then monRegs
  else if p = 0x40030 then portRegs
  else if p = 0x40031 then portRegs
  else if p = 0x40032 then portRegs
  else if p = 0x40033 then portRegs
  else if p = 0x40040 then ringRegs
  else if p = 0x40050 then hostRegs
  else if p = 0x40051 then hostRegs
  else if p = 0x40060 then monRegs
  else if p = 0x40070 then portRegs
  else if p = 0x40080 then portRegs
  else if p = 0x40090 then dbgRegs
  else []

end Sys2Proof.Machine
end

