-- ==== Sys2Proof/Machine/Store.lean ====
section
/-! DEFINITION. Sparse data by key: a list of key and value pairs in one canonical form, its read and its write. -/
namespace Sys2Proof.Machine

/-- Sparse data: keys strictly rising, and no entry equal to what an unlisted key reads as. -/
abbrev Store (α : Type) := List (Nat × α)

/-- The value at a key: the listed one, or what an unlisted key reads as. -/
def Store.get {α : Type} (dflt : Nat → α) : Store α → Nat → α
  | [], a => dflt a
  | (k, v) :: t, a => if k = a then v else Store.get dflt t a

/-- The entries with other keys. -/
def Store.erase {α : Type} : Store α → Nat → Store α
  | [], _ => []
  | (k, v) :: t, a => if k = a then Store.erase t a else (k, v) :: Store.erase t a

/-- An entry put in front of the first larger key. -/
def Store.insert {α : Type} : Store α → Nat → α → Store α
  | [], a, v => [(a, v)]
  | (k, w) :: t, a, v => if a < k then (a, v) :: (k, w) :: t else (k, w) :: Store.insert t a v

/-- A write: the value that an unlisted key reads as removes the entry, any other value is listed. -/
def Store.set {α : Type} [DecidableEq α] (dflt : Nat → α) (m : Store α) (a : Nat) (v : α) : Store α :=
  if v = dflt a then Store.erase m a else Store.insert (Store.erase m a) a v

/-- The canonical form: keys strictly rising and no entry equal to the default of its key. -/
def Store.wf {α : Type} [DecidableEq α] (dflt : Nat → α) : Store α → Bool
  | [] => true
  | [(k, v)] => decide (v ≠ dflt k)
  | (k, v) :: (k', v') :: t => decide (v ≠ dflt k) && decide (k < k') && Store.wf dflt ((k', v') :: t)

end Sys2Proof.Machine
end

