-- ==== Sys2Proof/Machine/State.lean ====
section
/-! DEFINITION. The state of the block as plain data: registers, structure latches, core-local registers, memories with
their check bits, the internals of every unit, the queue of waiting commands; the reasons a step can stop; and the state
after reset. -/
namespace Sys2Proof.Machine

/-! ## The Snuffer and the fault collector (spec/02) -/

/-- One watchdog (R63–R65): the AOCLK within the current 16 µs unit, the window latched at the last restart, and whether
a correct service has come since cold start (R60). The count itself is SNF_WWDCNT or SNF_QAWCNT. -/
structure Watchdog where
  sub : Nat
  openAt : Nat
  closeAt : Nat
  served : Bool
  deriving DecidableEq, Repr

/-- The Snuffer's internal state: outputs still held since power-up (R17), outputs counting their hold-off and the AOCLK
left for each (R62), the AOCLK since arming (R61), the watchdogs, whether they have started since the cold start, FAULT_N held low through a start
(R56), the AOCLK each commanded level has stood unchanged and the mismatched cycles counted (R54), the Snuffer's own
supply and the clock-loss detector (R53), the Snuffer-only hold (R69), and whether the SNUFFER section has been applied since
power-up (R493). -/
structure Snf where
  powerUp : Word
  holding : Word
  holdLeft : Store Nat
  armAge : Nat
  wwd : Watchdog
  qaw : Watchdog
  wdRun : Bool
  startLow : Bool
  levelAge : Store Nat
  mismatch : Store Nat
  supplyBad : Bool
  clockLost : Bool
  only : Bool
  applied : Bool
  deriving DecidableEq, Repr

/-- A unit that Isolate has stopped (R39). -/
inductive IsoUnit where
  | slice (n : Nat) | converter (n : Nat) | port (n : Nat) | partner (n : Nat) | queue (n : Nat)
  | channel (n : Nat) | member (n : Nat) | mailbox (n : Nat)
  deriving DecidableEq, Repr

/-- An injection waiting for the checked data (R71): the fault ID and the argument. -/
structure Injection where
  id : Nat
  arg : Nat
  deriving DecidableEq, Repr

/-- The fault collector's internal state: the sequence number of the next log entry (Table 2.4), entries held in the
Snuffer's buffer (R49), the class applied and the outputs driven at the latest capture of each ID (R51, R60), the IDs whose
detecting condition persists (R45), the AOCLK since the last Reset reaction (R38), the injection key window (R70), the
injections waiting (R71), the units isolated (R39) and the IDs captured before sealing whose class is still to be applied
(R18), the memory words that an injection left corrupted (R72), and the units that a pending fault concerns (Table 10.12,
FAULT). -/
structure Flt where
  seq : Nat
  buffer : List (List Word)
  applied : Store Nat
  outs : Store Word
  cond : List Nat
  rstAge : Nat
  keyOpen : Bool
  inj : List Injection
  isolated : List IsoUnit
  presealed : List Nat
  corrupt : List Nat
  faulty : List (Nat × IsoUnit)
  deriving DecidableEq, Repr

/-! ## The lockstep copies (spec/03) -/

/-- A copy-bus window (R76, R88): a join or a Rekindle, the copy rebuilt, the CCLK it has taken, whether phases 1 to 4 have
run, and whether a beat of its transfer was corrupted by injection (Table 2.6, RK). -/
structure Window where
  join : Bool
  copy : Nat
  len : Nat
  moved : Bool
  corrupt : Bool
  deriving DecidableEq, Repr

/-- The lockstep internals: the open window, the mode that a join leads to, the cluster cycles of the two most recent
Rekindles of each copy in AOCLK (R90), the ECLK cycle count, whether the signature scanners stand in the second half of the
scan list (R86), and the latest inputs stamped by the two admission gates with their slot (R27). -/
structure Lock where
  window : Option Window
  joinMode : Nat
  rkTimes : List (Nat × Nat)
  ecycle : Nat
  half : Bool
  admCluster : Option (AdmSource × Nat)
  admCe : Option (AdmSource × Nat)
  deriving DecidableEq, Repr

/-! ## The core pipeline (spec/04 to spec/07) -/

/-- The operations of Table 4.3 that wait in a reservation station; and a store to a Ring window, which waits in X for its
response (R113, R360) and takes no station: it is held beside them under the number 8. -/
inductive StKind where
  | div | mac | load | chissue | chwait | store
  deriving DecidableEq, Repr

/-- One occupied reservation station (R108): its number, operation, destination (0–31 a general register, 32 and 33 the
accumulators), the result once it is known, the interrupt level at issue, the tag or Ring request it waits for, a divide's
operands and kind (Table 4.6), the instruction's address, whether a younger instruction has retired (R125), whether it
makes a load shadow (R109), whether a micro-routine issued it for a later collect (Table 6.6), a load's size and sign
or CHWAIT's d, and for a routine's issue the routine's cycle in which the result is there (Table 4.3) and whether the
checkpoint in force was taken after it (R160). -/
structure Station where
  n : Nat
  kind : StKind
  dest : Nat
  result : Option (BitVec 64)
  level : Nat
  tag : Nat
  opA : Word
  opB : Word
  signed : Bool
  rem : Bool
  at' : Word
  younger : Bool
  shadow : Bool
  micro : Bool
  mode : Nat
  due : Nat
  kept : Bool
  deriving DecidableEq, Repr

/-- One store-buffer entry (R113): aligned word address, byte enables, data, whether the map dropped it (R222), the byte
address of the store that made it, the region set recorded at issue (R115) and the REASON of a refusal. -/
structure SbEntry where
  addr : Nat
  be : Nat
  data : Word
  dropped : Bool
  first : Nat
  set : Bool
  reason : Nat
  deriving DecidableEq, Repr

/-- One data cache line (R111): its 32-byte aligned address and its eight words. -/
structure DLine where
  addr : Nat
  words : List Word
  deriving DecidableEq, Repr

/-- One BTB entry (R102): index, tag, target and counter. -/
structure BtbEntry where
  idx : Nat
  tag : Nat
  target : Nat
  ctr : Nat
  deriving DecidableEq, Repr

/-- A checkpoint (R158) in the layout of Table 6.8. -/
structure Checkpoint where
  sms0 : Word
  sms1 : Word
  sel : Nat
  loop : Nat
  flags : Nat
  upc : Nat
  deriving DecidableEq, Repr

/-- A micro-routine in progress: the XOP's number and its rd and ra fields, micro-PC, micro-temporaries, loop counter,
micro-flags (Z N C V in bits 3 to 0), micro-stack, the previous word's load data, the checkpoint, the cycles in which its words
have occupied the sequencer (R157), how many of its cycles, the dispatch included, the cycle count has, and the cycle of its
latest word that committed the map (Table 6.9). -/
structure Micro where
  xop : Nat
  rd : Nat
  ra : Nat
  upc : Nat
  mt0 : Word
  mt1 : Word
  mt2 : Word
  loop : Nat
  flags : Nat
  stack : List Nat
  loadData : Option Word
  ck : Option Checkpoint
  words : Nat
  paid : Nat
  bar : Option Nat
  deriving DecidableEq, Repr

/-- The cluster's internals, one architectural copy for the copies in service: the address of the instruction in X, the
64-bit cycle count (R141), the reservation stations, the store buffer, caches, line buffers and BTB, WFI waiting (R140), issue stopped (R181), held in reset (R37), the CCLK of hold
left and the delay of the notice by it (R191), one instruction allowed by a debug step and the instruction that a resume lets
past its breakpoint (R95), the flash line that fetch entered last and the line requested ahead with the cycle count at which its
read ends (R100), the micro-routine in progress and the two micro-trap frames (R163), and the channel table that handle-valid reads (R199). -/
structure Core where
  pc : Word
  cycle : Nat
  stations : List Station
  sb : List SbEntry
  dcache : List DLine
  icache : List Nat
  lines : List Nat
  btb : List BtbEntry
  wfi : Bool
  stopped : Bool
  inReset : Bool
  hold : Nat
  noticeWait : Nat
  stepArmed : Bool
  bpPass : Option Word
  lastLine : Option Nat
  micro : Option Micro
  frame1 : Option Checkpoint
  frame2 : Option Checkpoint
  chans : Store Nat
  ahead : Option (Nat × Nat)
  deriving DecidableEq, Repr

/-- The control store's writable part (R146): patch RAM and customer window words by micro-address (a word not listed holds
the fill word), the scanner's position, and the words that an injection left inverted (R72). -/
structure Mc where
  words : Store (BitVec 144)
  scan : Nat
  flipped : List Nat
  deriving DecidableEq, Repr

/-! ## Memories (spec/09) -/

/-- A flash operation in progress (R234): the operation, the byte address and the data latched at the command, and whether
a warm reset has come since (R240). -/
structure FlashOp where
  op : Nat
  addr : Nat
  data : List Word
  orphan : Bool
  deriving DecidableEq, Repr

/-- The memory internals: the flash operation, the write-back entry of each bank (0–3 SRAM, 4 scratchpad; R244), the last
four completed write-backs (R245), the next row of each bank's scrub (R248), the AOCLK of the scrub monitor's timer (R253)
and the contests lost by background requests and by masters (R32, R249). -/
structure Memi where
  flash : Option FlashOp
  wb : Store (Option (Nat × Word))
  done : List Nat
  row : Store Nat
  detAge : Nat
  turn : Store Nat
  deriving DecidableEq, Repr
/-! ## The Channel Engine (spec/10) -/

/-- A CHISSUE on its way to the CE (R138, R281): its station, opcode, handle, flags and argument words. -/
structure LaneReq where
  st : Nat
  op : Nat
  handle : Nat
  flags : Nat
  args : List Word
  deriving DecidableEq, Repr

/-- Where an operation came from: a submission queue or the direct lane. -/
inductive CeSrc where
  | sq (q : Nat) | lane
  deriving DecidableEq, Repr

/-- An admitted result: status, data and timestamp (Table 10.3), and the slot it was admitted in (R275). -/
structure CeRes where
  status : Nat
  data : BitVec 64
  time : Word
  slot : Nat
  deriving DecidableEq, Repr

/-- An accepted operation (R273, R275), oldest first in the list: its tag and descriptor, whether it has started and waits at
its unit, its result once admitted, whether a direct-lane completion is held for a CHWAIT (R281), and for DESTROY the
operations cancelled. -/
structure CeOp where
  tag : Nat
  op : Nat
  handle : Nat
  flags : Nat
  tmo : Nat
  args : List Word
  src : CeSrc
  started : Bool
  atUnit : Bool
  result : Option CeRes
  held : Bool
  cancelled : Nat
  deriving DecidableEq, Repr

/-- A completion or event entry that waits for its full queue (R262, R280): the queue, word 0 without the phase, data, time. -/
structure QEntry where
  q : Nat
  w0 : Word
  data : BitVec 64
  time : Word
  deriving DecidableEq, Repr

/-- What a device on a port's bus does in DIM, which the port serves when it runs again (R344). -/
inductive PortEvent where
  | ibi (p addr : Nat) (data : List Byte)
  | hotJoin (p : Nat)
  | alert (p : Nat) (addr : Option Nat)
  | notify (p addr data : Nat)
  | write (p : Nat) (data : List Byte)
  | read (p : Nat) (c : Option Byte) (n : Nat)
  deriving DecidableEq, Repr

/-- What falls due for the CE in DIM, where its clock is gated, and takes effect after the wake (R288). -/
inductive CeInput where
  | timeout (tag : Nat)
  | expiry (ch : Nat)
  | event (ch code : Nat) (data : BitVec 64)
  | port (e : PortEvent)
  deriving DecidableEq, Repr

/-- The CE's internal state: accepted operations, direct-lane issues not yet admitted, completions that hold no tag and wait
for their CQ, the event buffer (R280), the SQ last served (R264), the full queues whose fault is raised (R262), each channel's
default timeout and bound unit as CREATE gave it, LOOP bytes (R271), MON_ARM enables, timers (periodic, expiries), the latest
Wick tick admitted and its ECLK (R266), the management proposal outstanding (R408), what fell due in DIM (R288), and the slot
of the latest results (R275). -/
structure Ce where
  ops : List CeOp
  lane : List LaneReq
  late : List QEntry
  events : List QEntry
  served : Nat
  full : List Nat
  chTmo : Store Nat
  chUnit : Store Nat
  loop : Store (BitVec 64)
  arm : Store Nat
  timers : Store (Option (Bool × Nat))
  tickW : Nat
  tickE : Nat
  hold : Option (Word × Word)
  waits : List CeInput
  slot : Nat
  deriving DecidableEq, Repr

/-! ## Monitor slices and converters (spec/11) -/

/-- The slices' and converters' internals: each slice's input at its comparator in units of 0.125 mV, the hold of each rate
slice (R293), the filtered changes latched for the next scan tick with their channel, code and data (R312), each slice's
MON_SAMPLE result captured at the latest tick, the queues of the two converters by tag (R306), and the units for which the
detecting conditions of 0x41 to 0x44 are present. -/
structure Mon where
  input : Store Nat
  hold : Store Nat
  latched : List (Nat × Nat × Nat)
  scan : Store Nat
  adc0 : List Nat
  adc1 : List Nat
  bad : List (Nat × Nat)
  refd : List Nat
  deriving DecidableEq, Repr

/-! ## Ports and partners (spec/12) -/

/-- The transaction in progress on a port: its operation's tag, the bytes of its write phase as PEC counts them, the bytes
still to come from the partner (with a leading count where `block`), those received on a UART, whether PEC is checked,
arbitration losses (R336), an injection that acts on it (kind of Table 2.6, method PT), and whether an in-band interrupt was
served at its header (R338), and the record's TXTMO as it started (R326, R334). -/
structure PortXfer where
  tag : Nat
  head : List Byte
  addr : Nat
  need : Nat
  block : Bool
  got : List Byte
  pec : Bool
  losses : Nat
  inj : Option Nat
  ibi : Bool
  tmo : Nat
  deriving DecidableEq, Repr

/-- The ports' internal state: the partner RAM (R325), four words a record; the transactions handed to the ports (port, tag),
oldest first; the transaction in progress on each; the bytes each sent last; the UART receive FIFOs; the command last written
to each target port; the target ports that drive SMBALERT_N low; each test lane's latest checked bits (true: wrong), its
generator and its checker (the bits that went before, R345); and the ports that have served an in-band interrupt at the header
before their next transaction (R338). -/
structure Ports where
  partners : Store (List Word)
  queue : List (Nat × Nat)
  cur : Store (Option PortXfer)
  sent : Store (List Byte)
  fifo : Store (List Byte)
  cmd : Store Byte
  alert : List Nat
  checks : Store (List Bool)
  gen : Store Nat
  chk : Store Nat
  served : List Nat
  deriving DecidableEq, Repr

/-! ## The Ring (spec/13) -/

/-- What a member has put on RING_OUT: a frame with its TYPE, the bytes of one forwarded closed by Stomp, a ring-wide snuff or a
yield, or such an ordered set with an invalid data code group. -/
inductive RingItem where
  | frame (typ : Nat) (f : RingFrame)
  | stomped (raw : List Byte)
  | snuff (id seq : Nat)
  | yield (id : Nat)
  | badSet (yield : Bool)
  deriving DecidableEq, Repr

/-- Who waits for a response: a cluster access in a reservation station, a RING_SEND by its tag, or the debug access. -/
inductive RingWho where
  | access (n : Nat)
  | op (tag : Nat)
  | debug
  deriving DecidableEq, Repr

/-- A request or SEND outstanding (R360): its SEQ, TYPE and frames, who waits, and whether its target answered BUSY. -/
structure RingReq where
  seq : Nat
  typ : Nat
  frames : List RingFrame
  who : RingWho
  busy : Bool
  deriving DecidableEq, Repr

/-- The Ring's internal state: what this member has sent, newest first; the next request SEQ; the eight outstanding entries and
the requests that wait for one (R360); the first SEND fragment of each member (R364); the last /X/ sequence acted on for each
originator (R367); its own next /X/ sequence and the sends of the one in progress (R366); whether its ENUM is out (R356); the
map that the latest BEAT brought back to the master (R358); whether a read of RING_GTMCNT holds global time (R369); the pair
partner and whether it is STANDBY (R373); whether a sync is due (R377); CE_CTL.RUN as mirrored, RESYNC in its own PAIR and
whether no MIRROR frame has come yet (R376, R379); the flush point (R378); MIRROR frames that wait
for the exit from DIM; the members lost at the master (R358); the BEAT that has not come back; whether the partner's ID is to
be found again after an enumeration (R373); and how far a sync has come at STANDBY (R377). -/
structure Ring where
  sent : List RingItem
  seq : Nat
  reqs : Store (Option RingReq)
  wait : List RingReq
  frag : Store (Option RingFrame)
  acted : Store (Option Nat)
  xseq : Nat
  xsends : Nat
  enumOut : Bool
  ret : Nat
  gtHold : Bool
  partner : Option Nat
  peerStandby : Bool
  syncing : Bool
  mrun : Bool
  resync : Bool
  fresh : Bool
  flush : Option Nat
  rx : List RingFrame
  lost : List Nat
  beat : Option RingFrame
  refind : Bool
  stage : Nat
  deriving DecidableEq, Repr

/-! ## Power, clocks and the Wick domain (spec/15) -/

/-- The internals of the power logic, the clocks and the Wick domain: the wake sources present, as PM_WAKESRC numbers them
(R420); whether an entry has run its steps before the commit point (R417); slice writes held since then (R418); the start that
is due (1 warm, 2 cold); whether PLLA and PLLB are relocking (R428, R429); the Wick prescaler and the Wick seconds since the
latest trim correction (R433, R438); the high half latched for each master (R434); a TRIM_IN edge that releases the counter
(R435); whether a trim measurement runs (R437); and the calendar conversion that runs (1 TODATE, 2 TOCNT) with the AOCLK it has
left (R439). -/
structure Pm where
  wake : Word
  phase : Bool
  held : List (Nat × Word)
  due : Nat
  relA : Bool
  relB : Bool
  pre : Nat
  sec : Nat
  hi : Store Word
  relGo : Bool
  meas : Bool
  cal : Option (Nat × Nat)
  deriving DecidableEq, Repr

/-! ## Image, keys and entropy (spec/16, spec/17) -/

/-- The one-time-programmable memory (Table 17.5): the bits of the DEVELOP, PRODUCTION and RETIRED groups, four each from bit
0; the two root key hashes and which are programmed (bits 0 and 1) and revoked; the hidden keys; the UID; the rollback
thermometer. -/
structure Otp where
  lc : Nat
  hash0 : List Byte
  hash1 : List Byte
  roots : Nat
  revoked : Nat
  patchKey : List Byte
  duk : List Byte
  uid : Nat
  thermo : Nat
  deriving DecidableEq, Repr

/-- An OTP command whose bits are being programmed (R474): its OP and the data latched. -/
structure OtpRun where
  op : Nat
  data : List Word
  deriving DecidableEq, Repr

/-- The KS block's internal state: the OTP, the command it programs, the rollback target being programmed (R453); the active
journal record (R477), empty where no record is valid; the sector that a key update writes and its new record (R479); the pass
of the patch stream that runs (1 VERIFY, 2 PROGRAM), its words, newest first, and the digest that VERIFY kept (R482); the unlock
challenge outstanding, when it was issued and how many were (R483); the functions that own GP pins (Table 16.6, R455: 1
HOST_IRQ_N, 2 PARKED, 3 a chip select, 4 PAIR_ACT); the partner records that the image carries (R458); and whether the RING
section has been applied (R493). -/
structure Ks where
  otp : Otp
  run : Option OtpRun
  target : Option Nat
  record : List Byte
  update : Option (Nat × List Byte)
  pass : Nat
  stream : List Word
  digest : List Byte
  chal : List Byte
  chalAt : Nat
  chalCnt : Nat
  pins : Store Nat
  sealedPartners : Store (List Word)
  ringSet : Bool
  deriving DecidableEq, Repr

/-- The entropy source and its DRBG (R486 to R490): whether the source runs, the DRBG's working state, key and counter
block (none before it is instantiated), the generate requests since the latest seed, the FIFO, whether a reseed waits for its
buffer, and the 384-bit buffer of conditioned entropy while it is full. -/
structure Rng where
  run : Bool
  drbg : List Byte × List Byte
  reqs : Nat
  fifo : List Word
  wait : Bool
  buf : Option (List Byte)
  deriving DecidableEq, Repr

/-! ## Pins, the TAP, the host port and the management port (spec/14, spec/18) -/

/-- The supplies of the two I/O banks (R499): present, and classed as 3.3 V. -/
structure Pins where
  vio1 : Bool
  vio2 : Bool
  hv1 : Bool
  hv2 : Bool
  deriving DecidableEq, Repr

/-- The instructions of Table 18.17. -/
inductive TapInstr where
  | extest | idcode | sample | clamp | highz | dbgacc | unlchal | unlresp | bypass
  deriving DecidableEq, Repr

/-- A debug access in progress (R517), and whether it waits for a Ring response. -/
structure DbgAcc where
  write : Bool
  addr : Word
  data : Word
  sent : Bool
  deriving DecidableEq, Repr

/-- The TAP (R513 to R518): the 5-bit instruction register, the boundary scan register as last updated, the latest capture of a
data register, whether EXTEST, CLAMP or HIGHZ was loaded where it spares the safe-state outputs (R516), the access in progress, the data of the last completed read and READY, and the 66-bit register of DBGACC (R517). -/
structure Tap where
  ir : BitVec 5
  bsr : BitVec 447
  cap : BitVec 520
  spare : Bool
  acc : Option DbgAcc
  data : Word
  ready : Bool
  dbg : BitVec 66
  deriving DecidableEq, Repr

/-- The host port: WERR of the STATUS byte (R389), the I3C read pointer (R392), and the bytes that the latest read returned. -/
structure HostPort where
  werr : Bool
  ptr : Option (Nat × Nat)
  out : List Byte
  deriving DecidableEq, Repr

/-- The management port: the bytes that the latest read command returned before its PEC, and whether a HOLD was discarded since
the last HOLDRES (R408). -/
structure MgmtPort where
  out : List Byte
  busy : Bool
  deriving DecidableEq, Repr


/-! ## The block -/

/-- The whole state of the block. -/
structure State where
  pending : List Instr
  regs : Store Word
  latch : Store Word
  mpu : Store Word
  csr : Store Word
  gpr : Store Word
  ac : Store (BitVec 64)
  mem : List Host.Cell
  syn : Store Nat
  aoclk : Nat
  freeCtr : Nat
  rdata : Word
  snf : Snf
  flt : Flt
  lock : Lock
  core : Core
  mc : Mc
  memi : Memi
  ce : Ce
  mon : Mon
  ports : Ports
  ring : Ring
  pm : Pm
  ks : Ks
  rng : Rng
  pins : Pins
  tap : Tap
  host : HostPort
  mgmt : MgmtPort
  deriving DecidableEq, Repr

/-- The reasons a command can stop the machine: none. Every command of the table has an effect in every state. -/
inductive Fault where
  deriving DecidableEq, Repr

/-- The reasons a command is refused. -/
inductive Refusal where
  /-- No meaning is written for the command; raised by the dispatch alone. Safe: nothing is claimed of it. -/
  | notModelled (mnemonic : String)
  deriving DecidableEq, Repr

/-- The watchdogs before the cores are released. -/
def Watchdog.init : Watchdog := ⟨0, 0, 6250, false⟩

/-- The Snuffer at reset: every output held since power-up (R17). -/
def Snf.init : Snf :=
  ⟨0x00FFFFFF, 0, [], 0, Watchdog.init, Watchdog.init, false, true, [], [], false, false, false, false⟩

/-- The fault collector at reset: nothing pending. -/
def Flt.init : Flt := ⟨0, [], [], [], [], 0, false, [], [], [], [], []⟩

/-- The lockstep internals at reset: no window. -/
def Lock.init : Lock := ⟨none, 0, [], 0, false, none, none⟩

/-- The cluster at the reset vector 0x0004_6000 with nothing in flight. -/
def Core.init : Core :=
  ⟨0x00046000, 0, [], [], [], [], [], [], false, false, false, 0, 0, false, none, none, none, none, none, [], none⟩

/-- The control store at reset: every writable word the fill word. -/
def Mc.init : Mc := ⟨[], 0, []⟩

/-- The memory internals at reset: no operation and no write-back. -/
def Memi.init : Memi := ⟨none, [], [], [], 0, []⟩

/-- The Channel Engine at reset: no operation and no channel. -/
def Ce.init : Ce := ⟨[], [], [], [], 0, [], [], [], [], [], [], 0, 0, none, [], 0⟩

/-- The ports at reset: no partner record, no transaction. -/
def Ports.init : Ports := ⟨[], [], [], [], [], [], [], [], [], [], []⟩

/-- The Ring at reset: nothing sent, nothing outstanding, no partner. -/
def Ring.init : Ring :=
  ⟨[], 0, [], [], [], [], 0, 0, false, 0, false, none, false, false, false, false, false, none, [], [], none, false, 0⟩

/-- The slices at reset: every slice off. -/
def Mon.init : Mon := ⟨[], [], [], [], [], [], [], []⟩

/-- The power logic at reset: no wake source; the cold start of a power-on is due (log entry 1). -/
def Pm.init : Pm := ⟨0, false, [], 2, false, false, 0, 0, [], false, false, none⟩

/-- The OTP as manufactured: nothing programmed (log entry 16). -/
def Otp.init : Otp := ⟨0, [], [], 0, 0, [], [], 0, 0⟩

/-- The KS block at reset: no record, no command. -/
def Ks.init : Ks := ⟨Otp.init, none, none, [], none, 0, [], [], [], 0, 0, [], [], false⟩

/-- The entropy source as it starts. -/
def Rng.init : Rng := ⟨true, ([], []), 0, [], false, none⟩

/-- The I/O banks at reset: both present, classed 3.3 V (log entry 19). -/
def Pins.init : Pins := ⟨true, true, true, true⟩

/-- The TAP at reset: IDCODE selected, no access made. -/
def Tap.init : Tap := ⟨1, 0, 0, false, none, 0, true, 0⟩

/-- The host port at reset. -/
def HostPort.init : HostPort := ⟨false, none, []⟩

/-- The management port at reset. -/
def MgmtPort.init : MgmtPort := ⟨[], false⟩

/-- The block right after reset: every register at its reset value (its unlisted value), the cluster held in reset until a
cold start releases it (Table 17.1; log entry 1), memory with nothing listed, no command waiting. -/
def State.reset : State where
  pending := []
  regs := []
  latch := []
  mpu := []
  csr := []
  gpr := []
  ac := []
  mem := []
  syn := []
  aoclk := 0
  freeCtr := 0
  rdata := 0
  snf := Snf.init
  flt := Flt.init
  lock := Lock.init
  core := { Core.init with inReset := true }
  mc := Mc.init
  memi := Memi.init
  ce := Ce.init
  mon := Mon.init
  ports := Ports.init
  ring := Ring.init
  pm := Pm.init
  ks := Ks.init
  rng := { Rng.init with run := false }
  pins := Pins.init
  tap := Tap.init
  host := HostPort.init
  mgmt := MgmtPort.init

end Sys2Proof.Machine
end

