-- ==== Sys2Proof/Machine/Ops.lean ====
section
/-! DEFINITION. The operations over registers: reset values, reading and writing a register or a field, clamping
(R7–R14), free values, and the predicates on modes that many meanings share. -/
namespace Sys2Proof.Machine

/-- The answer of a meaning: the next state. -/
abbrev Res := Host.Outcome State Fault Refusal

/-- The row of the register table that names an address (R9: none names no register). -/
def regRow (a : Nat) : Option RegD :=
  (pageRegs a).find? (fun r => decide (r.base ≤ a) && decide ((a - r.base) % r.stride = 0) &&
    decide ((a - r.base) / r.stride < r.count))

/-- FLT_CLSn at reset: the default classes of Table 2.3 for IDs 4n to 4n + 3. -/
def clsReset (n : Nat) : Word :=
  [0, 1, 2, 3].foldl (fun w k => match faultRow (4 * n + k) with
    | some r => w ||| BitVec.ofNat 32 (r.dflt * 2 ^ (8 * k))
    | none => w) 0

/-- A vector of Table 7.2 that is not reserved. -/
def vectorListed (n : Nat) : Bool :=
  (decide (1 ≤ n) && decide (n ≤ 13)) || (decide (32 ≤ n) && decide (n ≤ 57)) || (decide (64 ≤ n) && decide (n ≤ 119)) ||
  (decide (128 ≤ n) && decide (n ≤ 255))

/-- IC_VCFGn at reset: LVL 7 and EN 1 for the exceptions, level 8 for the notice, EN 1 for Notify (its LVL shows NLVL). -/
def vcfgReset (n : Nat) : Word :=
  if n == 32 then 0x108 else if n == 33 then 0x100
  else if decide (1 ≤ n) && decide (n ≤ 13) then 0x107 else 0

/-- The kind of the unit at a ledger index (Tables 10.10 and 10.11); none for a reserved index. -/
def ledgerKind (i : Nat) : Option Nat :=
  if i < 0x400 then some 0 else if i < 0x500 then some 1 else if i < 0x510 then some 2 else if i < 0x590 then some 3
  else if i < 0x593 then some 4
  else if i < 0x5A0 then none
  else if i < 0x5B8 then some 5
  else if i < 0x5C0 then none
  else if i < 0x600 then some 6
  else if i < 0x800 then some 7 else none

/-- A unit's ledger state at reset (R288; the states are the model's, log entry 14): ports and slices OPEN, copies A and B
OPEN and C OFF, outputs SNUFFED, the rest CLOSED. -/
def ledgerReset (i : Nat) : Word :=
  match ledgerKind i with
  | none => 0
  | some k =>
    let st := if k = 2 || k = 3 then 1 else if k = 4 then (if i = 0x592 then 5 else 1) else if k = 5 then 7 else 0
    BitVec.ofNat 32 (st + k * 2 ^ 24)

/-- A register's value at reset: the Reset column of its table. -/
def regReset (a : Nat) : Word :=
  if decide (0x40005100 ≤ a) && decide (a < 0x40005180) then clsReset ((a - 0x40005100) / 4)
  else if decide (0x40006000 ≤ a) && decide (a < 0x40006400) then vcfgReset ((a - 0x40006000) / 4)
  else if a == 0x40011004 then 0x10D else if a == 0x40011014 then 0xE
  else if a == 0x40012000 then 0x2003E0
  else if decide (0x40018000 ≤ a) && decide (a < 0x4001A000) then ledgerReset ((a - 0x40018000) / 4)
  else match regRow a with
    | some r => BitVec.ofNat 32 r.reset
    | none => 0

/-- A core-local register's value at reset (spec/07; HOLDCAP 255 where the image is silent). -/
def csrReset (n : Nat) : Word :=
  if n == 0x000 then 0xF0F else if n == 0x010 then 0x18000000 else if n == 0x012 then 0x18000000
  else if n == 0x013 then 0xFF else 0

/-! ## Registers -/

/-- The register at an address. -/
def State.rd (s : State) (a : Nat) : Word := Store.get regReset s.regs a

/-- The state with the register at an address holding `v`. -/
def State.wr (s : State) (a : Nat) (v : Word) : State := { s with regs := Store.set regReset s.regs a v }

/-- A field's value. -/
def State.get (s : State) (f : Fld) : Nat := fld (s.rd f.addr) f.lo f.len

/-- The state with a field holding the low bits of `v`. -/
def State.put (s : State) (f : Fld) (v : Nat) : State := s.wr f.addr (putFld (s.rd f.addr) f.lo f.len v)

/-- A field is not 0. -/
def State.is (s : State) (f : Fld) : Bool := s.get f != 0

/-- The state with a one-bit field set or cleared. -/
def State.flag (s : State) (f : Fld) (b : Bool) : State := s.put f (b2n b)

/-- The state with a counting field raised by `d`, saturating at all ones. -/
def State.bump (s : State) (f : Fld) (d : Nat) : State := s.put f (satAdd (s.get f) d (2 ^ f.len - 1))

/-- The structure latch of a register (R456): its sealed value. -/
def State.latched (s : State) (a : Nat) : Word := Store.get regReset s.latch a

/-- A core-local register as stored. -/
def State.csrRaw (s : State) (n : Nat) : Word := Store.get csrReset s.csr n

/-- The state with a core-local register stored. -/
def State.csrPut (s : State) (n : Nat) (v : Word) : State := { s with csr := Store.set csrReset s.csr n v }

/-- A general register; w0 reads 0 (R106). -/
def State.reg (s : State) (r : Nat) : Word := if r = 0 then 0 else Store.get (fun _ => 0) s.gpr r

/-- The state with a general register written; a write to w0 is discarded (R106). -/
def State.setReg (s : State) (r : Nat) (v : Word) : State :=
  if r = 0 then s else { s with gpr := Store.set (fun _ => 0) s.gpr r v }

/-- An accumulator. -/
def State.acc (s : State) (n : Nat) : BitVec 64 := Store.get (fun _ => 0) s.ac n

/-- The state with an accumulator written. -/
def State.setAcc (s : State) (n : Nat) (v : BitVec 64) : State := { s with ac := Store.set (fun _ => 0) s.ac n v }

/-- The next free value (log entry 2). -/
def State.freeVal (s : State) : Word := Config.free s.freeCtr

/-- The state after a free value has been taken. -/
def State.freed (s : State) : State := { s with freeCtr := s.freeCtr + 1 }

/-- A change of the cluster's internals. -/
def State.onCore (s : State) (f : Core → Core) : State := { s with core := f s.core }

/-! ## Modes -/

/-- The structure is sealed (R456). -/
def State.isSealed (s : State) : Bool := s.is KS_IMGSEL_SEALED

/-- The device is in LIMP (R67). -/
def State.limp (s : State) : Bool := s.is FLT_STAT_LIMP

/-- The power state as PM_STAT.STATE codes it: 5 LIT, 4 DIM, 3 EMBER, 2 SMOULDER, 1 WICK, 0 DARK. -/
def State.pstate (s : State) : Nat := s.get PM_STAT_STATE

/-- AOCLK runs: it is not lost and the device is above WICK. -/
def State.aoclkRuns (s : State) : Bool := !s.snf.clockLost && decide (2 ≤ s.pstate)

/-- The device is in LIT. -/
def State.lit (s : State) : Bool := s.pstate == 5

/-- The lifecycle is DEVELOP (KS_LC.STATE 1). -/
def State.develop (s : State) : Bool := s.get KS_LC_STATE == 1

/-- A debug unlock is active (R485). -/
def State.unlocked (s : State) : Bool := s.is KS_UNLSTAT_ACTIVE

/-- The lockstep mode: 0 SINGLE, 1 PAIR, 2 TRIO (Table 3.1). -/
def State.lmode (s : State) : Nat := s.get LNT_MODE_MODE

/-- The copies in service: bit 0 A, bit 1 B, bit 2 C. -/
def State.insvc (s : State) : Nat := s.get LNT_STAT_INSVC

/-- Copy `c` is in service. -/
def State.copyIn (s : State) (c : Nat) : Bool := s.insvc / 2 ^ c % 2 == 1

/-- The release latency L of Table 3.2: 0 in SINGLE, 5 in PAIR, 7 in TRIO; Copies A and C alone are 4 CCLK apart, and the
verdict comes 3 after the lagging one (R79, R91). -/
def State.releaseL (s : State) : Nat :=
  if s.lmode == 0 then 0 else if s.lmode == 1 then (if s.insvc == 5 then 7 else 5) else 7

/-! ## The Ring's links and the mirror -/

/-- The link test holds a Ring lane (R372). -/
def State.laneTest (s : State) (k : Nat) : Bool := s.is (TST_CTL_GEN k) || s.is (TST_CTL_CHK k)

/-- The links run: LIT and DIM, not in LIMP (R370), and PLLB gives the Ring clock (R428). -/
def State.linksOn (s : State) : Bool := decide (4 ≤ s.pstate) && !s.limp && !s.snf.only && s.is CLK_STAT_ECLKPLLB

/-- The mirror streams to a STANDBY (R375): this member is ACTIVE, its Ring service enabled and its partner STANDBY. -/
def State.mirrors (s : State) : Bool := s.get RING_PSTAT_ROLE == 1 && s.is RING_CTL_EN && s.ring.peerStandby

/-- A change of mirrored state leaves in a MIRROR frame of its own, numbered by SEQ (R376); a frame is lost while the
links do not run, their lane is under test or RING_OUT is not driven yet (R370, R372, R493). -/
def State.mirror (s : State) (cls addr : Nat) (data : List Word) : State :=
  if !s.mirrors then s
  else
    let q := s.get RING_MSEQ_SENT + 1
    let f : RingFrame := ⟨false, false, BitVec.ofNat 6 (s.ring.partner.getD 0), BitVec.ofNat 6 (s.get RING_STAT_ID),
      BitVec.ofNat 16 q, BitVec.ofNat 16 cls, BitVec.ofNat 32 addr, wordsBytes data⟩
    { s.put RING_MSEQ_SENT q with
      ring := { s.ring with sent := if s.linksOn && s.ks.ringSet && !s.laneTest 0x11 then .frame 7 f :: s.ring.sent else s.ring.sent } }

/-- A mirrored CE register has changed (class 3 of Table 13.7). -/
def State.mirrorReg (s : State) (a : Nat) : State := s.mirror 3 a [s.rd a]

/-! ## The state ledger -/

/-- The state of a ledger entry (Table 10.12). -/
def State.ledgerSt (s : State) (i : Nat) : Nat := fld (s.rd (CE_LEDGER i)) 0 4

/-- A ledger entry is under a management hold (R411). -/
def State.ledgerHeld (s : State) (i : Nat) : Bool := bitOf (s.rd (CE_LEDGER i)) 16

/-- The ledger entries that are mirrored (class 1 of Table 13.7). -/
def ledgerMirrored (i : Nat) : Bool := decide (i < 0x510) || (decide (0x600 ≤ i) && decide (i < 0x800))

/-- What an unlisted code unit holds: in flash the erased check bits, elsewhere no difference from the proper ones. -/
def synReset (a : Nat) : Nat := if a < 0x400000 then 0xFF else 0

/-- The stored entry of a unit: a flash quarter's stored check bits, elsewhere the syndrome. -/
def State.codeAt (s : State) (u : Nat) : Nat := Store.get synReset s.syn u

/-- The state with a unit's stored entry. -/
def State.putCode (s : State) (u x : Nat) : State := { s with syn := Store.set synReset s.syn u x }

/-- A ledger entry changed to `w`, with SEQ one higher (R285); the change is mirrored where Table 13.7 says so, and at a
STANDBY the mirrored entries are written only by the mirror (R379). -/
def State.ledgerPut (s : State) (i : Nat) (w : Word) : State :=
  if s.get RING_PSTAT_ROLE == 2 && ledgerMirrored i then s
  else
  let s := (s.wr (CE_LEDGER i) (putFld w 4 12 (fld (s.rd (CE_LEDGER i)) 4 12 + 1))).putCode (CE_LEDGER i) 0
  if ledgerMirrored i then s.mirror 1 i [s.rd (CE_LEDGER i)] else s

/-- A unit takes a ledger state; SEQ increments where that is a change (R285). -/
def State.ledger (s : State) (i st : Nat) : State :=
  if s.ledgerSt i = st then s else s.ledgerPut i (putFld (s.rd (CE_LEDGER i)) 0 4 st)

/-! ## The pins -/

/-- The host port has the I3C personality (R387): the HOSTSEL strap as sampled. -/
def State.hostI3c (s : State) : Bool := s.is SYS_STRAP_HOSTSEL

/-- The supply of the bank of safe-state output `n` is present (Table 18.4, R499). -/
def State.outBank (s : State) (n : Nat) : Bool := if n < 12 then s.pins.vio1 else s.pins.vio2

/-- The supply of the bank of general-purpose pin `n` is present (Table 18.4, R499). -/
def State.gpBank (s : State) (n : Nat) : Bool := if n < 20 then s.pins.vio1 else s.pins.vio2

/-- The five JTAG pins work: their bank is present and VMAIN is above its reset threshold (R497, Table 18.4). -/
def State.tapOn (s : State) : Bool := s.pins.vio1 && decide (2 ≤ s.pstate)

/-- The port answers (R406, R499): LIT, DIM or EMBER, LIMP included; not in the Snuffer-only hold, nor with its bank absent. -/
def State.mgmtOn (s : State) : Bool := s.pins.vio1 && decide (3 ≤ s.pstate) && !s.snf.only && s.pm.due != 2

/-- The code of a TAP instruction (Table 18.17). -/
def tapCode : TapInstr → BitVec 5
  | .extest => 0x00 | .idcode => 0x01 | .sample => 0x02 | .clamp => 0x04 | .highz => 0x05 | .dbgacc => 0x08
  | .unlchal => 0x10 | .unlresp => 0x11 | .bypass => 0x1F

/-- The instruction that a code selects: any other code acts as BYPASS (R513). -/
def tapDecode (c : BitVec 5) : TapInstr :=
  if c = 0x00 then .extest else if c = 0x01 then .idcode else if c = 0x02 then .sample else if c = 0x04 then .clamp
  else if c = 0x05 then .highz else if c = 0x08 then .dbgacc else if c = 0x10 then .unlchal else if c = 0x11 then .unlresp
  else .bypass

/-- The TAP instruction in force. -/
def State.tapInstr (s : State) : TapInstr := tapDecode s.tap.ir

/-- What the instruction register captures, and so shifts out while an instruction is loaded (R513). -/
def tapIrCapture : BitVec 5 := 0b00001

/-- A TAP instruction with its capture. -/
def State.tapSelect (s : State) (i : TapInstr) (cap : BitVec 520) : State := { s with tap := { s.tap with ir := tapCode i, cap := cap } }

/-! ## Clamping -/

/-- The nearest value of one Legal range to `v`; of two equally near, the lower (R12, R13). -/
def nearRange (v : Nat) (r : Nat × Nat × Nat) : Nat :=
  if v ≤ r.1 then r.1
  else if r.2.1 ≤ v then r.2.1
  else if r.2.2 = 0 then v
  else
    let q := (v - r.1) / r.2.2
    let m := (v - r.1) % r.2.2
    if 2 * m ≤ r.2.2 then r.1 + q * r.2.2 else r.1 + (q + 1) * r.2.2

/-- The distance between two numbers. -/
def dist (a b : Nat) : Nat := (a - b) + (b - a)

/-- The nearer of two candidates to `v`, the lower where they are equally near (R13). -/
def nearer (v a b : Nat) : Nat :=
  if dist v a < dist v b then a else if dist v b < dist v a then b else min a b

/-- The nearest legal value (R12); every value is legal where the Legal column does not narrow the field. -/
def clampLegal : List (Nat × Nat × Nat) → Nat → Nat
  | [], v => v
  | [r], v => nearRange v r
  | r :: t, v => nearer v (nearRange v r) (clampLegal t v)

/-- A value kept on the tight side of the sealed value (R14). -/
def tighten : Tight → Nat → Nat → Nat
  | .none, v, _ => v
  | .up, v, l => max v l
  | .down, v, l => min v l
  | .bits, v, l => v ||| l

/-- A write of a register counts one clamp at most, however many of its fields or actions were clamped (R12, R413). -/
def State.onceSince (s o : State) : State :=
  if o.get SYS_CLAMPCNT_COUNT + 1 < s.get SYS_CLAMPCNT_COUNT then s.put SYS_CLAMPCNT_COUNT (o.get SYS_CLAMPCNT_COUNT + 1) else s

/-- One field of a write: the register so far and whether a value was clamped. -/
def fieldWrite (sealedNow : Bool) (old lat v : Word) (p : Word × Bool) (f : FieldD) : Word × Bool :=
  let x := fld v f.lo f.len
  match f.acc with
  | .ro => p
  | .wo => p
  | .rc => p
  | .w1c => (putFld p.1 f.lo f.len (fld (old &&& ~~~ v) f.lo f.len), p.2)
  | .w1s => (putFld p.1 f.lo f.len (fld (old ||| v) f.lo f.len), p.2)
  | .rw => let c := clampLegal f.legal x; (putFld p.1 f.lo f.len c, p.2 || c != x)
  | .rws =>
    let c := clampLegal f.legal x
    let t := if sealedNow then tighten f.tight c (fld lat f.lo f.len) else c
    (putFld p.1 f.lo f.len t, p.2 || t != x)

/-- A clamp of the register at `a` is counted (R12). -/
def State.clamped (s : State) (a : Nat) : State := (s.bump SYS_CLAMPCNT_COUNT 1).wr SYS_CLAMPLAST (BitVec.ofNat 32 a)

/-- The state with a clamp counted where one was made. -/
def State.clampIf (s : State) (b : Bool) (a : Nat) : State := if b then s.clamped a else s

/-- A 32-bit write to a register by its table alone (R8, R11–R14): each field takes the written value, clamped to its Legal
column and then, after sealing, to the sealed value; the write counts one clamp however many fields were clamped (log
entry 5). -/
def State.tableWrite (s : State) (r : RegD) (a : Nat) (v : Word) : State :=
  let old := s.rd a
  let p := r.fields.foldl (fieldWrite (s.isSealed && r.img) old (s.latched a) v) (old, false)
  (s.wr a p.1).clampIf p.2 a

/-- A write by a master to a register with no meaning of its own: a register whose row names other masters ignores it, an
image-carried register is not written by firmware before sealing (R456). -/
def State.plainWrite (s : State) (m : Master) (a : Nat) (v : Word) : State :=
  match regRow a with
  | none => s
  | some r =>
    if !r.only.isEmpty && !r.only.contains m.id then s
    else if r.img && !s.isSealed && m != .lamp then s.clamped a
    else s.tableWrite r a v

/-- The RC fields of a register. -/
def rcMask (r : RegD) : Word :=
  r.fields.foldl (fun w f => if f.acc == .rc then w ||| fldMask f.lo f.len else w) 0

/-- The fields of a register that read 0: the WO fields (Table 0.5). -/
def woMask (r : RegD) : Word :=
  r.fields.foldl (fun w f => if f.acc == .wo then w ||| fldMask f.lo f.len else w) 0

/-- The RC fields of a register are cleared by a full-width read of any master but debug (Table 0.5, R7). -/
def State.readClear (s : State) (m : Master) (a : Nat) : State :=
  match regRow a with
  | none => s
  | some r => if m == .debug then s else s.wr a (s.rd a &&& ~~~ rcMask r)

/-- The state with the data of the latest register read. -/
def State.answer (s : State) (v : Word) : State := { s with rdata := v }

end Sys2Proof.Machine
end

