-- ==== Sys2Proof/Machine/Mem.lean ====
section
/-! DEFINITION. The memories as stored bytes and the difference between stored and proper check bits (R229, R230): what an
unlisted address reads as, reading and writing bytes and words, and the classes of a syndrome (Table 9.2). -/
namespace Sys2Proof.Machine

/-- What an unlisted byte reads as: erased flash all ones, SRAM and scratchpad zero (log entry 6). -/
def memReset (a : Nat) : Byte := if a < 0x400000 then 0xFF else 0

/-- The memory's canonical form (keys rising, no entry equal to what an unlisted byte reads as). -/
abbrev Memory.wf (m : List Host.Cell) : Bool := Store.wf memReset m

/-- A stored byte. -/
def State.byteAt (s : State) (a : Nat) : Byte := Store.get memReset s.mem a

/-- The state with one byte stored. -/
def State.putByte (s : State) (a : Nat) (b : Byte) : State := { s with mem := Store.set memReset s.mem a b }

/-- The state with bytes stored from an address upward. -/
def State.putBytes (s : State) (a : Nat) : List Byte → State
  | [] => s
  | b :: t => (s.putByte a b).putBytes (a + 1) t

/-- `n` stored bytes from an address upward. -/
def State.bytesAt (s : State) (a : Nat) : Nat → List Byte
  | 0 => []
  | n + 1 => s.byteAt a :: s.bytesAt (a + 1) n

/-- A stored 32-bit word, least significant byte first (R3). -/
def State.wordAt (s : State) (a : Nat) : Word := BitVec.ofNat 32 (bytesNat (s.bytesAt a 4))

/-- Stored words from an address upward. -/
def State.wordsAt (s : State) (a : Nat) : Nat → List Word
  | 0 => []
  | n + 1 => s.wordAt a :: s.wordsAt (a + 4) n

/-- The flash range. -/
def inFlash (a : Nat) : Bool := decide (a < 0x400000)

/-- The SRAM range. -/
def inSram (a : Nat) : Bool := decide (0x10000000 ≤ a) && decide (a < 0x100C0000)

/-- The scratchpad range. -/
def inScratch (a : Nat) : Bool := decide (0x18000000 ≤ a) && decide (a < 0x18010000)

/-- The peripheral range. -/
def inPeriph (a : Nat) : Bool := decide (0x40000000 ≤ a) && decide (a < 0x4009FFFF + 1)

/-- The Ring remote windows. -/
def inRingWin (a : Nat) : Bool := decide (0x60000000 ≤ a) && decide (a < 0xA0000000)

/-- The SRAM bank of an address: 0 to 3, or 4 for the scratchpad. -/
def bankOf (a : Nat) : Nat := if inScratch a then 4 else (a - 0x10000000) / 0x30000

/-- The values below 2^n with `w` bits set, in ascending order, from `k` on. -/
def weightFrom (w : Nat) : Nat → Nat → List Nat
  | 0, _ => []
  | n + 1, k => if popN 8 k = w then k :: weightFrom w n (k + 1) else weightFrom w n (k + 1)

/-- The values of a check width with `w` bits set, ascending. -/
def weightVals (width w : Nat) : List Nat := weightFrom w (2 ^ width) 0

/-- The column codes of the data bits (R229). -/
def dataCols (width : Nat) : List Nat :=
  if width = 7 then (weightVals 7 3).take 32 else weightVals 8 3 ++ (weightVals 8 5).take 8

/-- The column codes of the folded address bits (R229): the five-bit values not used by a data bit. -/
def addrCols (width bits : Nat) : List Nat :=
  if width = 7 then (weightVals 7 5).take bits else ((weightVals 8 5).drop 8).take bits

/-- The outcomes of Table 9.2. -/
inductive SynClass where
  | good | check | data (bit : Nat) | wrongAddr | bad
  deriving DecidableEq, Repr

/-- The place of a value in a list. -/
def placeOf (v : Nat) : List Nat → Nat → Option Nat
  | [], _ => none
  | x :: t, i => if x = v then some i else placeOf v t (i + 1)

/-- A syndrome classed by Table 9.2; `bits` address bits are folded. -/
def synClass (width bits x : Nat) : SynClass :=
  if x = 0 then .good
  else if popN 8 x = 1 then .check
  else match placeOf x (dataCols width) 0 with
    | some j => .data j
    | none => if (addrCols width bits).contains x then .wrongAddr else .bad

/-- The XOR of the columns of the bits that are 1. -/
def foldCols : List Nat → Nat → Nat
  | [], _ => 0
  | c :: t, v => (if v % 2 = 1 then c else 0) ^^^ foldCols t (v / 2)

/-- The 8 check bits that a flash quarter's data calls for at its address (R229). -/
def flashCheck (d a : Nat) : Nat := 255 - (foldCols (dataCols 8) d ^^^ foldCols (addrCols 8 17) (a / 32))

/-- The syndrome of a unit (R230): stored check bits against those of its data and address. -/
def State.synAt (s : State) (u : Nat) : Nat :=
  if inFlash u then flashCheck (bytesNat (s.bytesAt u 8)) u ^^^ s.codeAt u else s.codeAt u

/-- The zeros among the 288 stored bits of the flash line at `l` (R233). -/
def State.lineZeros (s : State) (l : Nat) : Nat :=
  288 - (popN 256 (bytesNat (s.bytesAt l 32)) +
    popN 8 (s.codeAt l) + popN 8 (s.codeAt (l + 8)) + popN 8 (s.codeAt (l + 16)) + popN 8 (s.codeAt (l + 24)))

/-- The outcome of reading a flash line (R230, R233): erased, or the worst of its quarters. -/
def State.lineClass (s : State) (l : Nat) : SynClass :=
  let z := s.lineZeros l
  if z = 0 then .good
  else if z ≤ 2 then .check
  else
    let q := [0, 8, 16, 24].map (fun k => synClass 8 17 (s.synAt (l + k)))
    if q.contains .bad then .bad
    else if q.contains .wrongAddr then .wrongAddr
    else if q.all (fun c => c == .good) then .good
    else .check

/-- The class of the unit that a read of an address decodes (Table 9.2): a line in flash, a word elsewhere. -/
def State.unitClass (s : State) (a : Nat) : SynClass :=
  if inFlash a then s.lineClass (a / 32 * 32)
  else if inSram a then synClass 7 18 (s.codeAt (a / 4 * 4))
  else synClass 7 14 (s.codeAt (a / 4 * 4))

/-- The word as a reader sees it after correction: an erased line reads as all ones (R233), a data column inverts its bit. -/
def State.goodWord (s : State) (a : Nat) : Word :=
  let w := s.wordAt a
  if inFlash a then
    (if s.lineZeros (a / 32 * 32) ≤ 2 then 0xFFFFFFFF
     else match synClass 8 17 (s.synAt (a / 8 * 8)) with
       | .data j => if a / 4 % 2 = j / 32 then w ^^^ bit (j % 32) else w
       | _ => w)
  else match s.unitClass a with
    | .data j => w ^^^ bit j
    | _ => w

/-- A full word stored with proper check bits (SRAM and scratchpad, R247). -/
def State.putWord (s : State) (a : Nat) (w : Word) : State := (s.putBytes a (wordBytes w)).putCode (a / 4 * 4) 0

/-- The words of a list stored from an address upward with proper check bits. -/
def putRun : List Word → State → Nat → State
  | [], s, _ => s
  | w :: t, s, a => putRun t (s.putWord a w) (a + 4)

/-- Words stored from an address upward with proper check bits. -/
def State.putWords (s : State) (a : Nat) (ws : List Word) : State := putRun ws s a

/-- A flash line stored with the check bits of R229. -/
def State.putLine (s : State) (l : Nat) (ws : List Word) : State :=
  let s := s.putBytes l (wordsBytes ws)
  [0, 8, 16, 24].foldl (fun s k => s.putCode (l + k) (flashCheck (bytesNat (s.bytesAt (l + k) 8)) (l + k))) s

/-! ## Writes -/

/-- The mirror window (R375): RING_MWBASE for MWSIZE × 4 KiB. -/
def State.inMirror (s : State) (a : Nat) : Bool :=
  decide ((s.rd RING_MWBASE).toNat ≤ a) && decide (a < (s.rd RING_MWBASE).toNat + 4096 * s.get RING_PCFG_MWSIZE)

/-- The check-bit difference that an EC injection stores (Table 2.6): one bit, two bits, the first address column. -/
def ecDiff (arg : Nat) : Nat := if arg = 1 then 1 else if arg = 2 then 3 else 0x1F

/-- The waiting EC injection for the word at `a`, if FLT_INJADDR names it. -/
def State.ecWaiting (s : State) (a : Nat) : Option Injection :=
  if (s.rd FLT_INJADDR).toNat / 4 * 4 = a then s.flt.inj.find? (fun i => decide (0x20 ≤ i.id) && decide (i.id ≤ 0x26))
  else none

/-- A full-word write to SRAM or the scratchpad (R243, R244): stored with proper check bits, or with those an injection
flips; a pending write-back of the word is cancelled. -/
def State.memStore (s : State) (a : Nat) (w : Word) : State :=
  let b := bankOf a
  let s := match Store.get (fun _ => none) s.memi.wb b with
    | some (a', _) => if a' = a then
        { s with memi := { s.memi with wb := Store.set (fun _ => none) s.memi.wb b none } } else s
    | none => s
  let s := { s.putWord a w with flt := { s.flt with corrupt := s.flt.corrupt.filter (fun x => x != a) } }
  let s := if inSram a && s.inMirror a then s.mirror 0 a [w] else s
  match s.ecWaiting a with
  | none => s
  | some i =>
    { s.putCode a (ecDiff i.arg) with
      flt := { s.flt with inj := s.flt.inj.erase i, corrupt := s.flt.corrupt ++ [a] } }

/-- The words of a list written from an address upward. -/
def storeRun : List Word → State → Nat → State
  | [], s, _ => s
  | w :: t, s, a => storeRun t (s.memStore a w) (a + 4)

/-- Words written from an address upward, one write each. -/
def State.memStores (s : State) (a : Nat) (ws : List Word) : State := storeRun ws s a

/-! ## End-to-end checks -/

/-- Some injection of the ID is waiting. -/
def State.injWaits (s : State) (id : Nat) : Bool := s.flt.inj.any (fun i => i.id == id)

/-- An injection of an ID that FLT_INJADDR aims at the word `a` is waiting. -/
def State.aimed (s : State) (id a : Nat) : Bool := (s.rd FLT_INJADDR).toNat / 4 * 4 == a && s.injWaits id

/-- The waiting injections of an ID are used up. -/
def State.injDone (s : State) (id : Nat) : State :=
  { s with flt := { s.flt with inj := s.flt.inj.filter (fun i => i.id != id) } }

/-- The target's code in MEM_E2EINFO. -/
def e2eTarget (a : Nat) : Nat :=
  if inFlash a then 0 else if inSram a then 1 else if inScratch a then 2 else if inPeriph a then 3 else 4

/-- The 7-bit code that goes with a data word over the interconnect (R246): that of R229 without the fold and the NOT. -/
def e2eCode (w : Word) : Nat := foldCols (dataCols 7) w.toNat

/-- APAR: the XOR of the address bits (R246). -/
def apar (a : Nat) : Bool := popN 32 a % 2 == 1

/-- The checks of a transfer (R246) on the code and APAR that came with it: none where both hold, else whether APAR failed. -/
def e2eCheck (a : Nat) (w : Word) (code : Nat) (par : Bool) : Option Bool :=
  if par != apar a then some true else if code != e2eCode w then some false else none

/-- The check that an IE injection makes fail: one code bit of the transfer comes inverted (Table 2.6). -/
def e2eInjected (a : Nat) (w : Word) : Option Bool := e2eCheck a w (e2eCode w ^^^ 1) (apar a)

/-- What a failed end-to-end check records (R246); it uses up the injection. The master finds it on read data, the target
otherwise. -/
def State.e2eNote (s : State) (m : Master) (a : Nat) (write : Bool) : State :=
  let par := e2eInjected a 0 == some true
  let info := m.id + e2eTarget a * 16 + b2n write * 256 + b2n par * 512 + b2n (!write && !par) * 1024
  ((s.injDone 0x27).wr MEM_E2EADDR (BitVec.ofNat 32 a)).wr MEM_E2EINFO (BitVec.ofNat 32 info)

end Sys2Proof.Machine
end

