-- ==== Sys2Proof/Machine/CeOps.lean ====
section
/-! DEFINITION. The Channel Engine's tables and operations as State holds them (spec/10): channels and handles, the partner
records behind channels, results, and cancelling. -/
namespace Sys2Proof.Machine

/-! ## Status codes (Table 10.7) -/

def stOk : Nat := 0
def stCancelled : Nat := 1
def stHeld : Nat := 2
def stIsolated : Nat := 3
def stStale : Nat := 4
def stTimeout : Nat := 5
def stNack : Nat := 6
def stPec : Nat := 7
def stProtocol : Nat := 8
def stRefused : Nat := 9
def stBadop : Nat := 0xA
def stBadarg : Nat := 0xB
def stBadsrc : Nat := 0xC
def stKind : Nat := 0xD
def stNochan : Nat := 0xE
def stUnavail : Nat := 0xF
def stCrcerr : Nat := 0x10
def stTagexh : Nat := 0x11
def stRingdown : Nat := 0x12

/-! ## Channels -/

/-- A change of the CE's internals. -/
def State.onCe (s : State) (f : Ce → Ce) : State := { s with ce := f s.ce }

/-- The handle of channel `i` as it stands (Table 10.5). -/
def State.handleOf (s : State) (i : Nat) : Nat := i + 1024 * s.get (CE_CHINFO_GEN i)

/-- A handle is current (R268). -/
def State.current (s : State) (h : Nat) : Bool :=
  h / 1024 % 64 != 0 && s.is (CE_CHINFO_OPEN (h % 1024)) && s.get (CE_CHINFO_GEN (h % 1024)) == h / 1024 % 64

/-- A channel's kind: 0 SLICE, 1 PARTNER, 2 TIMER, 3 RING, 4 LOOP. -/
def State.chKind (s : State) (i : Nat) : Nat := s.get (CE_CHINFO_KIND i)

/-- A channel's bound unit as CREATE gave it. -/
def State.chBound (s : State) (i : Nat) : Nat := Store.get (fun _ => 0) s.ce.chUnit i

/-- The channel table record of channel `i` as it is mirrored (log entry 70): CE_CHINFO, the default timeout, the bound unit. -/
def State.chanRecord (s : State) (i : Nat) : List Word :=
  [s.rd (CE_CHINFO i), BitVec.ofNat 32 (Store.get (fun _ => 0) s.ce.chTmo i), BitVec.ofNat 32 (s.chBound i)]

/-- The channels open among the first `n`. -/
def State.openCount (s : State) : Nat → Nat
  | 0 => 0
  | n + 1 => s.openCount n + s.get (CE_CHINFO_OPEN n)

/-- Word `k` of partner record `n` (Table 12.4). -/
def State.partnerWord (s : State) (n k : Nat) : Word := (Store.get (fun _ => [0, 0, 0, 0]) s.ports.partners n).getD k 0

/-- The port of a partner record. -/
def State.partnerPort (s : State) (n : Nat) : Nat := fld (s.partnerWord n 0) 0 4

/-- The opcode names a channel (Table 10.6). -/
def needsChannel (op : Nat) : Bool := decide (1 ≤ op) && decide (op ≤ 9)

/-- A channel kind supports an opcode (Table 10.6, R271). -/
def kindOk (op kind : Nat) : Bool :=
  if op = 1 || op = 2 then kind == 1 || kind == 4
  else if op = 3 then kind == 1
  else if op = 4 || op = 5 || op = 6 then kind == 0
  else if op = 8 then kind == 2
  else if op = 9 then kind == 3
  else true

/-- The channel an operation is on; none for one that names no channel. -/
def CeOp.chan (o : CeOp) : Option Nat := if needsChannel o.op then some (o.handle % 1024) else none

/-- Two operations are on one channel: they name the same handle. -/
def CeOp.sameChan (o e : CeOp) : Bool := o.chan.isSome && e.chan == o.chan && e.handle == o.handle

/-- Argument word `k` of an operation. -/
def CeOp.arg (o : CeOp) (k : Nat) : Word := o.args.getD k 0

/-! ## Results -/

/-- The timestamp of a result admitted now (R266): the Wick counter's low half at the latest tick and the ECLK since. -/
def State.ceTime (s : State) : Word :=
  BitVec.ofNat 32 (s.ce.tickW % 65536 + 65536 * min (s.lock.ecycle - s.ce.tickE) 0xFFFF)

/-- A result, admitted in slot `slot`, of an operation that has none. -/
def CeOp.finish (o : CeOp) (status : Nat) (data : BitVec 64) (time : Word) (slot : Nat) : CeOp :=
  if o.result.isSome then o else { o with started := true, atUnit := false, result := some ⟨status, data, time, slot⟩ }

/-- The operations that a test selects, still without a result, end with a status in one slot (log entry 132). -/
def State.ceEnd (s : State) (p : CeOp → Bool) (status : Nat) (data : BitVec 64) : State :=
  let t := s.ceTime
  s.onCe (fun c => { c with
    ops := c.ops.map (fun o => if p o then o.finish status data t (c.slot + 1) else o), slot := c.slot + 1 })

/-- The operation of a tag ends with a status. -/
def State.ceDone (s : State) (tag status : Nat) (data : BitVec 64) : State := s.ceEnd (fun o => o.tag == tag) status data

/-- The operation of a tag. -/
def State.ceFind (s : State) (tag : Nat) : Option CeOp := s.ce.ops.find? (fun o => o.tag == tag)

/-- A change of the operation of a tag. -/
def State.ceMap (s : State) (tag : Nat) (f : CeOp → CeOp) : State :=
  s.onCe (fun c => { c with ops := c.ops.map (fun o => if o.tag == tag then f o else o) })

/-- The operation of a tag has been delivered. -/
def State.ceDrop (s : State) (tag : Nat) : State := s.onCe (fun c => { c with ops := c.ops.filter (fun o => o.tag != tag) })

/-- A tag is held (R273). -/
def State.tagHeld (s : State) (tag : Nat) : Bool := s.ce.ops.any (fun o => o.tag == tag)

/-- An operation runs on a channel bound to a partner that a test selects. -/
def State.onPartner (s : State) (p : Nat → Bool) (o : CeOp) : Bool :=
  match o.chan with
  | some i => s.chKind i == 1 && p (s.chBound i)
  | none => false

/-! ## Queues -/

/-- The CQ paired with an SQ (R258, R262). -/
def State.pairOf (s : State) (q : Nat) : Nat := if q = 0 then 1 else s.get (CE_QCFG_PAIR q)

/-- A queue's depth (R258). -/
def State.qDepth (s : State) (q : Nat) : Nat := 2 ^ s.get (CE_QCFG_LOG2DEPTH q)

/-- CE_QPTRq.FULL follows HEAD and TAIL (R259); a disabled CQ or EQ counts as full (R261). The register is mirrored. -/
def State.qFullSync (s : State) (q : Nat) : State :=
  let f := (s.get (CE_QPTR_TAIL q) + 1) % s.qDepth q == s.get (CE_QPTR_HEAD q)
  (s.flag (CE_QPTR_FULL q) (f || (decide (2 ≤ s.get (CE_QCFG_TYPE q)) && !s.is (CE_QCFG_EN q)))).mirrorReg (CE_QPTR q)

/-- The queue is not empty. -/
def State.qPending (s : State) (q : Nat) : Bool := s.get (CE_QPTR_HEAD q) != s.get (CE_QPTR_TAIL q)

/-- Some enabled CQ or EQ among the first `n` queues with entries requests the vector 128 + VEC (R263). -/
def State.vecQueue (s : State) (vec : Nat) : Nat → Bool
  | 0 => false
  | n + 1 =>
    s.vecQueue vec n ||
    (n != 1 && decide (2 ≤ s.get (CE_QCFG_TYPE n)) && s.is (CE_QCFG_VEN n) && s.get (CE_QCFG_VEC n) == vec && s.qPending n)

/-- The IC vectors of queues (R263): queue 1 requests 38, the others 128 + VEC. -/
def State.ceVector (s : State) (n : Nat) : Bool :=
  if n = 38 then s.is (CE_QCFG_VEN 1) && s.qPending 1 else decide (128 ≤ n) && s.vecQueue (n - 128) 256

/-! ## Isolation -/

/-- A queue's operations complete with ISOLATED; a CQ takes every SQ paired with it (R39; spec/10, Edges). -/
def State.isoQueue (s : State) (q : Nat) : State :=
  let cq := s.get (CE_QCFG_TYPE q) == 2
  let hit (x : Nat) : Bool := x == q || (cq && s.pairOf x == q)
  let s := s.ceEnd (fun o => match o.src with
    | .sq x => hit x
    | .lane => false) stIsolated 0
  let s := s.onCe (fun c => { c with late := c.late.filter (fun e => !(cq && s.pairOf e.q == q)) })
  if cq then
    let sqs := (List.range 256).filter (fun x => x != q && s.get (CE_QCFG_TYPE x) == 1 && s.pairOf x == q &&
      !s.flt.isolated.contains (.queue x))
    let s := { s with flt := { s.flt with isolated := s.flt.isolated ++ sqs.map IsoUnit.queue } }
    (sqs.foldl (fun s x => s.ledger (0x400 + x) 3) s).ledger (0x400 + q) 3
  else s.ledger (0x400 + q) 3

/-- A channel's operations complete with ISOLATED (R39). -/
def State.isoChannel (s : State) (i : Nat) : State :=
  (s.ceEnd (fun o => o.chan == some i) stIsolated 0).ledger i 3

/-- Ledger entries of channels and queues that were not CLOSED (R288): they close with SEQ incremented and holds kept. -/
def ledgerClose (s : State) : List (Nat × Word) → State
  | [] => s
  | (a, _) :: t =>
    let s := ledgerClose s t
    if decide (CE_LEDGER 0 ≤ a) && decide (a < CE_LEDGER 0x500) then s.ledger ((a - CE_LEDGER 0) / 4) 0 else s

/-- The CE at its reset values (R288): no channel, no operation, queues off; operations in flight are dropped. -/
def State.ceReset (s : State) : State := ({ s with ce := Ce.init }) |> fun s => ledgerClose s s.regs

end Sys2Proof.Machine
end

