-- ==== Sys2Proof/Machine/Log.lean ====
section
/-! DEFINITION. The fault log (R47–R49), the Snuffer's outputs (R51, R56), and wake sources (R420). -/
namespace Sys2Proof.Machine

/-! ## The log -/

/-- PSTATE as Table 2.4 codes it: 0 LIT, 1 DIM, 2 EMBER, 3 SMOULDER. -/
def State.logPstate (s : State) : Nat := 5 - s.pstate

/-- Master 8 can write the scratchpad now (R49): in LIT or EMBER, not during a warm reset. -/
def State.logOpen (s : State) : Bool := (s.pstate == 5 || s.pstate == 3) && !s.core.inReset && !s.snf.only

/-- CHK of Table 2.4: the bitwise NOT of the XOR of the fifteen other bytes. -/
def logChk (w0 w1 w2 oset : Word) : Nat :=
  255 - ((wordsBytes [w0, w1, w2] ++ (wordBytes oset).take 3).foldl (fun c b => c ^^^ b.toNat) 0)

/-- What a log entry says beside the state at its capture (Table 2.4). -/
structure LogRec where
  kind : Nat
  src : Nat
  cls : Nat
  red : Bool
  esc : Bool
  detail : Word
  oset : Word
  deriving DecidableEq, Repr

/-- The four words of an entry (Table 2.4). -/
def State.logWords (s : State) (e : LogRec) : List Word :=
  let w0 := BitVec.ofNat 32 (e.kind * 2 ^ 28 + e.src % 256 * 2 ^ 20 + e.cls % 16 * 2 ^ 16 + s.logPstate % 8 * 2 ^ 13 +
    b2n e.red * 2 ^ 12 + b2n e.esc * 2 ^ 11 + s.insvc % 8 * 2 ^ 8 + s.flt.seq % 256)
  let w2 := s.rd WK_CNT_LO
  let o := e.oset &&& 0xFFFFFF
  [w0, e.detail, w2, BitVec.ofNat 32 (logChk w0 e.detail w2 o * 2 ^ 24) ||| o]

/-- The words of an entry written from an address upward; one whose transfer fails its check is not carried out (R246). -/
def logRun : List Word → State → Nat → State
  | [], s, _ => s
  | w :: t, s, a => logRun t (if s.aimed 0x27 a then s else s.memStore a w) (a + 4)

/-- The word of the entries written since `o` whose transfer failed its check (R246). -/
def State.logFailed (s o : State) : Option Nat :=
  let a := (s.rd FLT_INJADDR).toNat / 4 * 4
  let k := (a - 0x1800F000) / 16
  let n := (s.get FLT_LOGHEAD_HEAD + 256 - o.get FLT_LOGHEAD_HEAD) % 256
  if s.injWaits 0x27 && decide (0x1800F000 ≤ a) && decide (a < 0x18010000) &&
    decide ((k + 256 - o.get FLT_LOGHEAD_HEAD) % 256 < n) then some a else none

/-- LOG_ENTRY_WRITE: master 8 writes the entry at HEAD and advances HEAD (R47); the first-fault record takes the first entry
after FIRSTV was last clear, and LOGOVF is set where HEAD reaches TAIL (R48, log entry 7). -/
def State.logStore (s : State) (ws : List Word) : State :=
  let head := s.get FLT_LOGHEAD_HEAD
  let s := logRun ws s (0x1800F000 + 16 * head)
  let s := (s.put FLT_LOGHEAD_HEAD (head + 1)).bump FLT_LOGHEAD_COUNT 1
  let s := if s.is FLT_STAT_FIRSTV then s
    else (((s.wr (FLT_FIRST 0) (ws.getD 0 0)).wr (FLT_FIRST 1) (ws.getD 1 0)).wr (FLT_FIRST 2) (ws.getD 2 0)).wr
      (FLT_FIRST 3) (ws.getD 3 0) |>.flag FLT_STAT_FIRSTV true
  if s.get FLT_LOGHEAD_HEAD == s.get FLT_LOGTAIL_TAIL then s.flag FLT_STAT_LOGOVF true else s

/-- The entries held in the Snuffer's buffer, written in order (R49). -/
def State.logAll (s : State) : List (List Word) → State
  | [] => s
  | ws :: t => (s.logStore ws).logAll t

/-- LOG_BUFFER_FLUSH: the held entries are written as soon as master 8 can write again (R49). -/
def State.logFlush (s : State) : State :=
  if s.logOpen then { s.logAll s.flt.buffer with flt := { (s.logAll s.flt.buffer).flt with buffer := [] } } else s

/-- The four words of an entry are written, or held in the buffer of 8, or discarded and counted (R49). -/
def State.logPut (s : State) (ws : List Word) : State :=
  let s := { s with flt := { s.flt with seq := (s.flt.seq + 1) % 256 } }
  if s.logOpen && s.flt.buffer.isEmpty then s.logStore ws
  else if s.flt.buffer.length < 8 then { s with flt := { s.flt with buffer := s.flt.buffer ++ [ws] } }
  else s.bump FLT_LOST_COUNT 1

/-- An entry of the moment (R47). -/
def State.log (s : State) (e : LogRec) : State := s.logPut (s.logWords e)

/-! ## Outputs -/

/-- The outputs whose configuration in the structure latches has a given bit set, counted down from output `n`. -/
def State.ocfgMask (s : State) (f : Nat → Fld) : Nat → Word
  | 0 => 0
  | n + 1 => s.ocfgMask f n ||| (if s.is (f n) then bit n else 0)

/-- The outputs that the image marks as used. -/
def State.used (s : State) : Word := s.ocfgMask SNF_OCFG_USED 24

/-- The outputs held at their safe level (SNF_STAT.SNUFFED). -/
def State.snuffed (s : State) : Word := s.rd SNF_STAT &&& 0xFFFFFF

/-- FAULT_N is driven low while any used output is held at its safe level, and through a start (R56); in the Snuffer-only
hold it is low (R69). -/
def State.faultN (s : State) : Bool :=
  (s.used &&& s.snuffed) != 0 || s.snf.startLow || s.snf.only

/-- SNF_STAT.FAULTN shows FAULT_N. -/
def State.faultNSync (s : State) : State := s.flag SNF_STAT_FAULTN s.faultN

/-- The ledger shows state `st` for the outputs of a mask below `n` (R283, Table 10.10). -/
def State.ledgerOuts (s : State) (m : Word) (st : Nat) : Nat → State
  | 0 => s
  | n + 1 => let s := s.ledgerOuts m st n; if bitOf m n then s.ledger (0x5A0 + n) st else s

/-- The outputs whose operating level is not their safe level; an open-drain output's safe level is released (R51, R52). -/
def State.levelDiffers (s : State) : Word := s.rd SNF_OPLVL ^^^ (s.ocfgMask SNF_OCFG_SAFE 24 ||| s.ocfgMask SNF_OCFG_OD 24)

/-- The commanded levels of the outputs of a mask have changed (R54). -/
def State.levelMoved (s : State) (m : Word) : State :=
  { s with snf := { s.snf with levelAge := s.snf.levelAge.filter (fun p => !bitOf m p.1) } }

/-- The used outputs of a mask take their safe level; a hold-off that was running is abandoned (spec/02, Edges). -/
def State.snuff (s : State) (m : Word) : State :=
  let m := m &&& s.used
  let s := s.levelMoved (m &&& ~~~ s.snuffed &&& s.levelDiffers)
  let s := s.wr SNF_STAT (s.rd SNF_STAT ||| m)
  let s := { s with snf := { s.snf with holding := s.snf.holding &&& ~~~ m } }
  (s.ledgerOuts m 7 24).faultNSync

/-- The outputs of a mask that a snuff drives anew: used, not yet snuffed, or counting no hold-off (R25). -/
def State.newly (s : State) (m : Word) : Word := m &&& s.used &&& ~~~ s.snuffed

/-! ## Wake sources -/

/-- A wake source is present, as PM_WAKESRC numbers it (R420): below LIT it waits for the exit, and during an entry before
its commit point for the abort (R418). -/
def State.wakeBit (s : State) (k : Nat) : State :=
  if s.lit && !s.pm.phase then s else { s with pm := { s.pm with wake := s.pm.wake ||| bit k } }

/-- The power state whose wake sources count: the target of an entry under way (R418), else the present one (R420). -/
def State.wakeState (s : State) : Nat := if s.pm.phase then s.get PM_REQ_TARGET else s.pstate

/-- An event that is wake source `k` in the power states of a list (Table 15.4). -/
def State.wakeIn (s : State) (l : List Nat) (k : Nat) : State := if l.contains s.wakeState then s.wakeBit k else s

/-- A fault of an applied class of Notify or above is a wake source (R419). -/
def State.wakeNote (s : State) : State := s.wakeBit 5

end Sys2Proof.Machine
end

