-- ==== Sys2Proof/Machine/Matrix.lean ====
section
/-! DEFINITION. Slices, the slice graph and the routes of the reaction matrix (spec/11, R289–R304, R312–R316): comparators,
side outputs, groups, and what a side that becomes 1 does. -/
namespace Sys2Proof.Machine

/-- The slice is in the watch set (R313). -/
def State.watched (s : State) (n : Nat) : Bool := bitOf (s.rd (MON_WSET (n / 32))) (n % 32)

/-- The device is in SMOULDER and the slice is outside the watch set (R315). -/
def State.unwatched (s : State) (n : Nat) : Bool := s.pstate == 2 && !s.watched n

/-- The slice is in use and powered (R317). -/
def State.sliceLive (s : State) (n : Nat) : Bool := s.is (MON_CFG_EN n) && s.is (MON_STAT_LIVE n)

/-- The slice runs in digital mode. -/
def State.digital (s : State) (n : Nat) : Bool := s.get (MON_CFG_MODE n) == 1

/-- The upper output of a slice in the matrix (R292, R300, R304): 1 while isolated, else its filtered output. -/
def State.sideU (s : State) (n : Nat) : Bool := s.is (MON_STAT_ISO n) || (s.sliceLive n && s.is (MON_STAT_UF n))

/-- The lower output of a slice in the matrix; in digital mode the inverse of the filtered level (R292, R300). -/
def State.sideL (s : State) (n : Nat) : Bool :=
  s.is (MON_STAT_ISO n) ||
  (s.sliceLive n && (if s.digital n then !s.is (MON_STAT_UF n) else s.is (MON_STAT_LF n)))

/-- The enabled slices, over the listed registers. -/
def State.enabledSlices (s : State) : List Nat :=
  (s.regs.filter (fun p => decide (MON_CFG 0 ≤ p.1) && decide (p.1 < 0x40022000) && (p.1 - MON_CFG 0) % 64 == 0)).map
    (fun p => (p.1 - MON_CFG 0) / 64) |>.filter (fun n => s.is (MON_CFG_EN n))

/-! ## Groups -/

/-- The member slices of a group (R299). -/
def State.members (s : State) (g : Nat) : List Nat :=
  let k := s.get (MON_GRPC_KIND g)
  let m0 := s.get (MON_GRPC_M0 g)
  if k = 0 then []
  else if k = 1 then [m0, s.get (MON_GRPC_M1 g), s.get (MON_GRPC_M2 g)]
  else (List.range (s.get (MON_GRPC_M1 g) % 8 + 1)).map (fun i => m0 + i)

/-- The inputs of a voter on one side: a member outside the watch set counts as 1 in SMOULDER (R315). -/
def State.voterIn (s : State) (g : Nat) (upper : Bool) : List Bool :=
  (s.members g).map (fun n => if s.unwatched n && !s.is (MON_STAT_ISO n) then true else if upper then s.sideU n else s.sideL n)

/-- At least two of a voter's inputs are 1. -/
def twoOf (l : List Bool) : Bool := decide (2 ≤ (l.filter id).length)

/-- R301 is suspended: a member lies outside the watch set in SMOULDER (R315). -/
def State.suspended (s : State) (g : Nat) : Bool := s.get (MON_GRPC_KIND g) == 1 && (s.members g).any s.unwatched

/-- A voter's inputs on one side are not all equal (R301). -/
def State.disagree (s : State) (g : Nat) (upper : Bool) : Bool :=
  s.get (MON_GRPC_KIND g) == 1 && !s.suspended g &&
  (match s.voterIn g upper with
   | [a, b, c] => !(a == b && b == c)
   | _ => false)

/-- The members of a max or min group that count (R315). -/
def State.liveMembers (s : State) (g : Nat) : List Nat :=
  (s.members g).filter (fun n => !s.unwatched n || s.is (MON_STAT_ISO n))

/-- The upper output of a group (R300). -/
def State.groupU (s : State) (g : Nat) : Bool :=
  let k := s.get (MON_GRPC_KIND g)
  let l := s.liveMembers g
  if k = 1 then twoOf (s.voterIn g true)
  else if k = 2 then l.any s.sideU
  else if k = 3 then !l.isEmpty && l.all s.sideU else false

/-- The lower output of a group (R300). -/
def State.groupL (s : State) (g : Nat) : Bool :=
  let k := s.get (MON_GRPC_KIND g)
  let l := s.liveMembers g
  if k = 1 then twoOf (s.voterIn g false)
  else if k = 2 then !l.isEmpty && l.all s.sideL
  else if k = 3 then l.any s.sideL else false

/-- The groups among the first `n` that a slice belongs to. -/
def State.groupsOf (s : State) (x : Nat) : Nat → List Nat
  | 0 => []
  | n + 1 => s.groupsOf x n ++ (if (s.members n).contains x then [n] else [])

/-- MON_GRPSg as it reads: the group's outputs, a voter's disagreement, and the suspension of R301. -/
def State.grpsView (s : State) (g : Nat) : Word :=
  BitVec.ofNat 32 (b2n (s.groupL g) + b2n (s.groupU g) * 2 + b2n (s.disagree g true || s.disagree g false) * 4 +
    b2n (s.suspended g) * 8)

/-- The detecting condition of an ID appears or goes (R45). -/
def State.condition (s : State) (id : Nat) (b : Bool) : State :=
  let c := s.flt.cond.filter (fun x => x != id)
  { s with flt := { s.flt with cond := if b then c ++ [id] else c } }

/-- A unit's detecting condition of one of 0x41 to 0x44 appears or goes. -/
def State.monBad (s : State) (id unit : Nat) (b : Bool) : State :=
  let l := s.mon.bad.filter (fun p => p != (id, unit))
  let l := if b then l ++ [(id, unit)] else l
  ({ s with mon := { s.mon with bad := l } }).condition id (l.any (fun p => p.1 == id))

/-- The voters of a slice that agree again end their condition of 0x41. -/
def State.voterSync (s : State) (n : Nat) : State :=
  (s.groupsOf n 32).foldl (fun s g => if s.disagree g true || s.disagree g false then s else s.monBad 0x41 g false) s

/-! ## Routes -/

/-- The matrix runs: AOCLK runs and the Snuffer is supplied. -/
def State.matrixOn (s : State) : Bool := decide (2 ≤ s.pstate) && !s.snf.clockLost

/-- A side whose output has become 1 with a route set snuffs it and writes a log entry of kind 1 (R302). -/
def State.routeFire (s : State) (src detail : Nat) (route : Word) : State :=
  let m := route &&& 0xFFFFFF
  if m = 0 then s
  else
    let fresh := s.newly m
    (s.snuff m).log ⟨1, src, 0, fresh == 0, false, BitVec.ofNat 32 detail, fresh⟩

/-- A side that becomes 1 in EMBER or SMOULDER wakes the device where the slices concerned have WAKE (R316). -/
def State.sideWake (s : State) (l : List Nat) : State :=
  if l.all (fun n => s.is (MON_CFG_WAKE n)) then s.wakeIn [3, 2] 6 else s

/-- One side: its routes and its wake act where it was 0 in `o` and is 1 now. -/
def State.sideRise (s : State) (was now : Bool) (src detail : Nat) (route : Word) (l : List Nat) : State :=
  if now && !was then (s.routeFire src detail route).sideWake l else s

/-- The sides of the groups in a list. -/
def State.groupRise (s : State) (o : State) : List Nat → State
  | [] => s
  | g :: t =>
    let s := s.sideRise (o.groupL g) (s.groupL g) (0x80 + g) g (s.rd (MON_GRPRL g)) (s.members g)
    let s := s.sideRise (o.groupU g) (s.groupU g) (0x80 + g) (g + 256) (s.rd (MON_GRPRU g)) (s.members g)
    s.groupRise o t

/-- MON_VIOLk follows a slice. -/
def State.violSync (s : State) (n : Nat) : State :=
  let a := MON_VIOL (n / 32)
  let v := s.is (MON_STAT_ISO n) || (s.sliceLive n && (s.is (MON_STAT_UF n) || s.is (MON_STAT_LF n)))
  s.wr a (if v then s.rd a ||| bit (n % 32) else s.rd a &&& ~~~ bit (n % 32))

/-- The two sides of a slice. -/
def State.sidesRise (s o : State) (n : Nat) : State :=
  (s.sideRise (o.sideL n) (s.sideL n) n n (s.rd (MON_RTEL n)) [n]).sideRise (o.sideU n) (s.sideU n) n (n + 256) (s.rd (MON_RTEU n)) [n]

/-- A change of slice `n` carried through the matrix (R299–R302): its own sides, then the groups it belongs to. -/
def State.matrix (s : State) (n : Nat) (f : State → State) : State :=
  let o := s
  let s := (f s).violSync n
  if s.matrixOn then (s.sidesRise o n).groupRise o (s.groupsOf n 32) else s

/-- The register at `a` is the route set of a side that is 1. -/
def State.routeOn (s : State) (a : Nat) : Bool :=
  let n := (a - 0x40020000) / 64
  let o := a % 64
  if a < 0x40020000 || 0x40022000 ≤ a then false
  else if o = 0x10 then s.sideU n else if o = 0x14 then s.sideL n
  else if o = 0x38 && n < 32 then s.groupU n else if o = 0x3C && n < 32 then s.groupL n else false

/-- The outputs with a slice or group side at 1 routed to them (R51), over the listed registers. -/
def State.routesOf (s : State) : List (Nat × Word) → Word
  | [] => 0
  | (a, v) :: t => (if s.routeOn a then v &&& 0xFFFFFF else 0) ||| s.routesOf t

/-- The outputs with a side at 1 routed to them (R51). -/
def State.sliceOuts (s : State) : Word := if s.matrixOn then s.routesOf s.regs else 0

/-! ## Comparators -/

/-- A comparator with hysteresis: on above `hi`, off below `lo`, else as before. -/
def hyst (v hi lo : Nat) (was : Bool) : Bool := if hi < v then true else if v < lo then false else was

/-- The raw upper output (R291–R293) for input `x` and, in rate mode, hold `h`, in units of 0.125 mV; a release threshold stays
in the codes 0 to 1,023, and in rate mode on its side of the hold (log entry 113). -/
def State.rawU (s : State) (n x h : Nat) : Bool :=
  let u := s.get (MON_THR_UPPER n)
  let y := s.get (MON_FILT_HYST n)
  let was := s.is (MON_STAT_UR n)
  if s.get (MON_CFG_MODE n) = 2 then hyst x (h + 16 * u) (min (h + 16 * (u - y)) (16 * 1023)) was
  else hyst x (16 * u) (16 * (u - y)) was

/-- The raw lower output; in digital mode the slice has none. -/
def State.rawL (s : State) (n x h : Nat) : Bool :=
  let l := s.get (MON_THR_LOWER n)
  let y := s.get (MON_FILT_HYST n)
  let was := s.is (MON_STAT_LR n)
  if s.get (MON_CFG_MODE n) = 2 then
    (if x + 16 * l < h then true else if min (h - 16 * (l - y)) (16 * 1023) < x then false else was)
  else if s.digital n then false
  else if x < 16 * l then true else if 16 * min (l + y) 1023 < x then false else was

/-- MON_STATn.CNT: a raw output differs from its filtered one (R294). -/
def State.cntSync (s : State) (n : Nat) : State :=
  s.flag (MON_STAT_CNT n) (s.get (MON_STAT_LR n) != s.get (MON_STAT_LF n) || s.get (MON_STAT_UR n) != s.get (MON_STAT_UF n))

/-- The raw outputs of a live slice follow its input, thresholds and hold. -/
def State.compare (s : State) (n : Nat) : State :=
  if !s.sliceLive n then s
  else
    let x := Store.get (fun _ => 0) s.mon.input n
    let h := Store.get (fun _ => 0) s.mon.hold n
    let u := s.rawU n x h
    let l := s.rawL n x h
    ((s.flag (MON_STAT_UR n) u).flag (MON_STAT_LR n) l).cntSync n

/-! ## Isolation -/

/-- A slice is isolated: both sides forced to 1 (R304). -/
def State.isoSlice (s : State) (n id : Nat) : State :=
  ((s.matrix n (fun s => (s.put (MON_STAT_ISO n) 1).put (MON_STAT_ISOID n) id)).voterSync n).ledger (0x510 + n) 3

/-- A converter's queue: the conversions handed to it that have not ended (R306). -/
def State.adcQ (s : State) (c : Nat) : List Nat :=
  (if c = 0 then s.mon.adc0 else s.mon.adc1).filter (fun t => match s.ceFind t with
    | some o => o.op == 6 && o.atUnit && o.result.isNone
    | none => false)

/-- The state with a converter's queue, and ADC_STAT.QLEN. -/
def State.adcPut (s : State) (c : Nat) (l : List Nat) : State :=
  ({ s with mon := if c = 0 then { s.mon with adc0 := l } else { s.mon with adc1 := l } }).put (ADC_STAT_QLEN c) l.length

/-- A converter is isolated: the conversions queued on it end with ISOLATED (R307). -/
def State.isoConverter (s : State) (c : Nat) : State :=
  let q := s.adcQ c
  ((s.ceEnd (fun o => q.contains o.tag) stIsolated 0).adcPut c []).put (ADC_STAT_ISO c) 1

end Sys2Proof.Machine
end

