-- ==== Sys2Proof/Machine/Partners.lean ====
section
/-! DEFINITION. The partner records (R324, R325), the ports' queues, and the isolation of ports and partners (R343). -/
namespace Sys2Proof.Machine

/-- A change of the ports' internals. -/
def State.onPorts (s : State) (f : Ports → Ports) : State := { s with ports := f s.ports }

/-! ## The code of the partner RAM -/

/-- Where the check-bit difference of word `k` of record `n` is kept: the partner RAM has no address of its own (log entry 111). -/
def partnerKey (n k : Nat) : Nat := 0x3F000000 + 16 * n + 4 * k

/-- The outcome of reading word `k` of a record (R327): [13:2] of 16 × index + 4 × word are folded. -/
def State.partnerClass (s : State) (n k : Nat) : SynClass := synClass 7 12 (s.codeAt (partnerKey n k))

/-! ## Records -/

/-- The words of partner record `n`. -/
def State.partner (s : State) (n : Nat) : List Word := Store.get (fun _ => [0, 0, 0, 0]) s.ports.partners n

/-- A field of word 0 of a record. -/
def State.pField (s : State) (n lo len : Nat) : Nat := fld (s.partnerWord n 0) lo len

/-- The record is VALID. -/
def State.pValid (s : State) (n : Nat) : Bool := s.pField n 4 1 == 1

/-- The record's ADDR. -/
def State.pAddr (s : State) (n : Nat) : Nat := s.pField n 8 7

/-- The record's partner is isolated. -/
def State.pIso (s : State) (n : Nat) : Bool := s.pField n 31 1 == 1

/-- The records that are VALID among the listed ones. -/
def validCount : Store (List Word) → Nat
  | [] => 0
  | (_, ws) :: t => fld (ws.getD 0 0) 4 1 + validCount t

/-- PORT_PVALID counts the VALID records. -/
def State.pvalidSync (s : State) : State := s.put PORT_PVALID_COUNT (validCount s.ports.partners)

/-- A partner group's ledger entry (R343): OPEN, ISOLATED or CLOSED. -/
def State.partnerGroup (s : State) (g : Nat) : State :=
  let v := (List.range 8).filter (fun k => s.pValid (8 * g + k))
  s.ledger (0x600 + g) (if v.isEmpty then 0 else if v.all (fun k => s.pIso (8 * g + k)) then 3 else 1)

/-- A record is stored. -/
def State.putPartner (s : State) (n : Nat) (ws : List Word) : State :=
  let s := s.onPorts (fun p => { p with partners := Store.set (fun _ => [0, 0, 0, 0]) p.partners n ws })
  let s := [0, 1, 2, 3].foldl (fun s k => s.putCode (partnerKey n k) 0) s
  (s.pvalidSync).partnerGroup (n / 8)

/-- The record's ISO bit. -/
def State.putIso (s : State) (n : Nat) (b : Bool) : State :=
  match s.partner n with
  | w :: t => s.putPartner n (putFld w 31 1 (b2n b) :: t)
  | [] => s

/-- The first listed VALID record that a test selects. -/
def findPartner (f : Nat → Word → Bool) : Store (List Word) → Option Nat
  | [] => none
  | (n, ws) :: t => if fld (ws.getD 0 0) 4 1 == 1 && f n (ws.getD 0 0) then some n else findPartner f t

/-- The VALID record of a port with an address. -/
def State.byAddr (s : State) (p a : Nat) : Option Nat :=
  findPartner (fun _ w => fld w 0 4 == p && fld w 8 7 == a) s.ports.partners

/-- The SELF record of a port. -/
def State.selfOf (s : State) (p : Nat) : Option Nat :=
  findPartner (fun _ w => fld w 0 4 == p && fld w 7 1 == 1) s.ports.partners

/-! ## Queues -/

/-- An operation that a port has been handed and not ended. -/
def State.atPort (s : State) (tag : Nat) : Bool :=
  match s.ceFind tag with
  | some o => o.atUnit && o.result.isNone && decide (1 ≤ o.op) && decide (o.op ≤ 3)
  | none => false

/-- The transaction in progress on a port; one whose operation has ended otherwise is over (spec/12, Edges). -/
def State.portCur (s : State) (p : Nat) : Option PortXfer :=
  match Store.get (fun _ => none) s.ports.cur p with
  | some x => if s.atPort x.tag then some x else none
  | none => none

/-- The state with the transaction in progress on a port. -/
def State.putCur (s : State) (p : Nat) (x : Option PortXfer) : State :=
  s.onPorts (fun q => { q with cur := Store.set (fun _ => none) q.cur p x })

/-- PORT_STATn.BUSY. -/
def State.portBusy (s : State) (p : Nat) : Bool := (s.portCur p).isSome

/-- The operations that wait at a port, oldest first. -/
def State.portQueue (s : State) (p : Nat) : List CeOp :=
  (s.ports.queue.filter (fun e => e.1 == p && s.atPort e.2)).filterMap (fun e => s.ceFind e.2)

/-- An operation is handed to its port (R333). -/
def State.handPort (s : State) (p tag : Nat) : State :=
  let s := s.onPorts (fun q => { q with
    queue := q.queue.filter (fun e => e.2 != tag) ++ [(p, tag)]
    cur := q.cur.filter (fun e => match e.2 with
      | some x => x.tag != tag
      | none => false) })
  s.ceMap tag (fun o => { o with atUnit := true })

/-! ## Isolation -/

/-- A port is isolated (R39, R343). -/
def State.isoPort (s : State) (p id : Nat) : State :=
  let s := s.ceEnd (s.onPartner (fun n => s.partnerPort n == p)) stIsolated 0
  (((s.put (PORT_STAT_ISO p) 1).put (PORT_STAT_ISOID p) id).putCur p none).ledger (0x500 + p) 3

/-- A partner is isolated (R343). -/
def State.isoPartner (s : State) (n : Nat) : State :=
  (s.ceEnd (s.onPartner (fun k => k == n)) stIsolated 0).putIso n true

/-- The port unit at its reset values inside, the partner RAM kept (R327). -/
def State.portsReset (s : State) : State := s.onPorts (fun p => { Ports.init with partners := p.partners })

end Sys2Proof.Machine
end

