-- ==== Sys2Proof/Machine/PmBase.lean ====
section
/-! DEFINITION. Leaving a power state (R419, R422), as every Reset or Limp class needs it. -/
namespace Sys2Proof.Machine

/-- The target is SMOULDER or WICK: the steps that R417 marks deep. -/
def State.deep (s : State) : Bool := decide (s.get PM_REQ_TARGET ≤ 2)

/-- A change of the power logic's internals. -/
def State.onPm (s : State) (f : Pm → Pm) : State := { s with pm := f s.pm }

/-- A watchdog as it restarts: count 0 with the limits in force (R66). -/
def wdFresh (w : Watchdog) (o c : Nat) : Watchdog := ⟨0, o, c, w.served⟩

/-- Both watchdogs restart from count 0 (R66). -/
def State.wdRestart (s : State) : State :=
  let s := { s with snf := { s.snf with
    wwd := wdFresh s.snf.wwd (s.get SNF_WWDCFG_OPEN) (s.get SNF_WWDCFG_CLOSE)
    qaw := wdFresh s.snf.qaw (s.get SNF_QAWCFG_OPEN) (s.get SNF_QAWCFG_CLOSE) } }
  (s.wr SNF_WWDCNT 0).wr SNF_QAWCNT 0

/-- A relock in progress ends with a start of its PLL. -/
def State.relockOver (s : State) (p : Nat) : State :=
  if p = 0 then (s.put CLK_STAT_RELOCK 0).onPm (fun q => { q with relA := false })
  else (s.put CLK_CTL_PLLBRST 0).onPm (fun q => { q with relB := false })

/-- The clocks of LIT: both PLLs locked and in use (R422, R425), PLLA at MULT. -/
def State.clocksUp (s : State) : State :=
  let s := (s.relockOver 0).relockOver 1
  ((((s.put CLK_STAT_MULT (s.get CLK_PLLA_MULT)).put CLK_STAT_CCLKPLLA 1).put CLK_STAT_ECLKPLLB 1).put CLK_STAT_PLLALOCK 1).put CLK_STAT_PLLBLOCK 1

/-- The ledger entries of the Ring's members in a state (Table 10.12). -/
def State.membersShow (s : State) (st : Nat) : State := (List.range 64).foldl (fun s m => s.ledger (0x5C0 + m) st) s

/-- Registers of whole pages return to their reset values, those of the image included. -/
def State.pagesReset (s : State) (gone : Nat → Bool) : State :=
  let l := s.latch.filter (fun p => gone (p.1 / 4096))
  { s with regs := l.foldl (fun r p => Store.set regReset r p.1 p.2) (s.regs.filter (fun p => !gone (p.1 / 4096))) }

/-- What every exit to LIT records (R422): the state left, the sources present, the AOCLK cycles (a free value, log entry 2),
and PM_IRQ.DONE. Below DIM the PLLs lock again and the watchdogs restart. -/
def State.exitRegs (s : State) (result : Nat) : State :=
  let from' := s.pstate
  let s := (((s.put PM_STAT_LAST from').put PM_STAT_STATE 5).put PM_STAT_RESULT result).wr PM_WAKESRC
    (s.rd PM_WAKESRC ||| s.pm.wake)
  let s := (s.freed.put PM_EXITCYC_V s.freeVal.toNat).put PM_IRQ_DONE 1
  let s := s.onPm (fun p => { p with wake := 0, phase := false })
  if from' ≤ 3 then (s.clocksUp.wdRestart).membersShow 0 else s

/-- An entry before its commit point ends in LIT (R418, R419). -/
def State.entryAbort (s : State) (result : Nat) : State :=
  let s := ((s.put PM_REQ_ARMED 0).put PM_STAT_RESULT result).put PM_IRQ_DONE 1
  s.onPm (fun p => { p with wake := 0, phase := false })

/-- A Reset or Limp that falls due below LIT, or during an entry, is carried out in LIT (R419). -/
def State.leaveForReset (s : State) : State :=
  if s.pm.phase then s.entryAbort 5
  else if 2 ≤ s.pstate && s.pstate ≤ 4 then s.exitRegs 1
  else s

end Sys2Proof.Machine
end

