-- ==== Sys2Proof/Machine/RingBase.lean ====
section
/-! DEFINITION. The Ring link as every reaction needs it (spec/13): what a member sends, the ring-wide snuff, the roles of
pair mode and the isolation of members. -/
namespace Sys2Proof.Machine

/-- A change of the Ring's internals. -/
def State.onRing (s : State) (f : Ring → Ring) : State := { s with ring := f s.ring }

/-- This member's ID. -/
def State.ringId (s : State) : Nat := s.get RING_STAT_ID

/-- The number of members. -/
def State.ringN (s : State) : Nat := s.get RING_STAT_N

/-- Heartbeats of member `m` are suppressed by an injection (Table 2.6, RL). -/
def State.suppressed (s : State) (m : Nat) : Bool := s.flt.inj.any (fun i => i.id == 0x55 && i.arg % 64 == m)

/-- The link is suppressed by an injection (Table 2.6, RL). -/
def State.linkHeld (s : State) : Bool := s.flt.inj.any (fun i => i.id == 0x54)

/-- The receiver runs. -/
def State.ringUp (s : State) : Bool := s.linksOn && !s.laneTest 0x12

/-- Frames can come in. -/
def State.ringIn (s : State) : Bool := s.ringUp && !s.linkHeld

/-- An item is put on RING_OUT, which is undriven until the RING section is applied (R493); a lane under test carries none
(R372). -/
def State.ringOut (s : State) (x : RingItem) : State :=
  if s.linksOn && s.ks.ringSet && !s.laneTest 0x11 then s.onRing (fun r => { r with sent := x :: r.sent }) else s

/-- A member originates frames other than RESP (R371); one that takes no part in the ring does not (R356). -/
def State.ringEn (s : State) : Bool := s.is RING_CTL_EN && !s.is RING_STAT_OVER

/-- A frame of this member: while EN is 0 it originates none but RESP (R371). -/
def State.ringSend (s : State) (typ : Nat) (f : RingFrame) : State :=
  if typ == 4 || s.ringEn then s.ringOut (.frame typ f) else s

/-- The SRC field of this member's frames. -/
def State.ringSrc (s : State) : BitVec 6 := BitVec.ofNat 6 s.ringId

/-- The upstream member's ID. -/
def State.upstream (s : State) : Nat := if s.ringId = 0 then s.ringN - 1 else s.ringId - 1

/-! ## Frames as bytes -/

/-- The header of a frame: bytes 0 to 11 of Table 13.2. -/
def frameHeader (typ : Nat) (f : RingFrame) : List Byte :=
  natBytes 4 (typ + b2n f.bc * 16 + b2n f.more * 32 + f.dst.toNat * 2 ^ 8 + f.src.toNat * 2 ^ 16 + f.payload.length * 2 ^ 24) ++
  natBytes 4 (f.seq.toNat + f.arg.toNat * 2 ^ 16) ++ natBytes 4 f.addr.toNat

/-- A frame as it is sent (R352): header, payload and the CRC over both. -/
def frameBytes (typ : Nat) (f : RingFrame) : List Byte :=
  let b := frameHeader typ f ++ f.payload
  b ++ natBytes 4 (crc32 b)

/-- LEN of a TYPE is inside Table 13.3. -/
def ringLenOk (typ len : Nat) : Bool :=
  if typ = 0 then len == 18 else if typ = 1 then len == 9 else if typ = 2 then len == 4 else if typ = 3 then len == 0
  else if typ = 4 then len == 0 || len == 4
  else if typ = 5 then decide (1 ≤ len) && decide (len ≤ 56)
  else if typ = 6 then len == 4
  else typ == 7 && decide (4 ≤ len) && decide (len ≤ 56) && len % 4 == 0

/-- The bytes of a frame are good (R352, R354): its length is 16 + LEN, TYPE and LEN are in Table 13.3, and its CRC matches. -/
def rawGood (raw : List Byte) : Bool :=
  let n := raw.length - 4
  decide (16 ≤ raw.length) && decide (raw.length ≤ 72) &&
  ringLenOk ((raw.getD 0 0).toNat % 16) (raw.getD 3 0).toNat && raw.length == 16 + (raw.getD 3 0).toNat &&
  bytesNat (raw.drop n) == crc32 (raw.take n)

/-- SRC in the header of a frame's bytes; none where it has no such byte. -/
def rawSrc (raw : List Byte) : Option Nat := raw[2]? |>.map (fun b => b.toNat % 64)

/-! ## Ring-wide snuff -/

/-- A ring-wide snuff is originated (R366): the first /X/ with the next sequence value; repeats follow. -/
def State.ringSnuffOut (s : State) : State :=
  if !s.linksOn || s.is RING_STAT_OVER then s
  else
    let q := s.ring.xseq
    let s := s.ringOut (.snuff s.ringId q)
    ((s.onRing (fun r => { r with xseq := (q + 1) % 4, xsends := 1 })).put RING_SNF_OWNSEQ (q + 1)).put RING_SNF_OWNRET 0

/-! ## Roles of pair mode -/

/-- The role of pair mode: 0 NONE, 1 ACTIVE, 2 STANDBY. -/
def State.role (s : State) : Nat := s.get RING_PSTAT_ROLE

/-- A role is taken, with the reason of RING_PSTAT (R382). -/
def State.takeRole (s : State) (r why : Nat) : State :=
  ((s.put RING_PSTAT_ROLE r).put RING_PSTAT_REASON why).put RING_PIRQ_ROLE 1

/-- Entry to STANDBY (R380): every operation in flight completes with CANCELLED, the CE stops, SYNCED clears. -/
def State.toStandby (s : State) (why : Nat) : State :=
  let run := s.is CE_CTL_RUN
  let s := s.ceEnd (fun _ => true) stCancelled 0
  let s := ((s.put CE_CTL_RUN 0).put RING_PSTAT_SYNCED 0).takeRole 2 why
  s.onRing (fun r => { r with mrun := run, fresh := true, resync := false, syncing := false, rx := [], stage := 0 })

/-- A yield (R381): PAIR_ACT falls, /Y/ is sent and the member enters STANDBY. -/
def State.yieldNow (s : State) (why : Nat) : State :=
  if s.role = 1 then (if s.is RING_STAT_OVER then s else s.ringOut (.yield s.ringId)).toStandby why else s

/-- A reaction of class Snuff or above makes an ACTIVE member yield (R381). -/
def State.yieldActive (s : State) : State := s.yieldNow 5

/-- PAIR_ACT (R385): high only while the member is ACTIVE, undriven in WICK and DARK. -/
def State.pairAct (s : State) : Option Bool := if s.pstate ≤ 1 then none else some (s.role == 1)

/-- The member becomes ACTIVE: PAIR_ACT is high. -/
def State.toActive (s : State) (why : Nat) : State := s.takeRole 1 why

/-! ## Isolation -/

/-- The field of member `m` in a 64-bit map of two registers. -/
def memberBit (f : Nat → Nat) (m : Nat) : Fld := ⟨f (m / 32), m % 32, 1⟩

/-- An operation runs on a RING channel bound to member `m`. -/
def State.onMember (s : State) (m : Nat) (o : CeOp) : Bool :=
  match o.chan with
  | some i => s.chKind i == 3 && s.chBound i % 64 == m
  | none => false

/-- A member is isolated, at the master (R39, R359). -/
def State.isoMember (s : State) (m : Nat) : State :=
  ((s.ceEnd (s.onMember m) stIsolated 0).put (memberBit RING_ISO m) 1).ledger (0x5C0 + m) 3

/-- What a warm reset leaves of the Ring's internals (R370): the link layer's own; the registers but RING_STAT return to
their reset values, and pair mode starts again. -/
def State.ringReset (s : State) : State :=
  s.onRing (fun r => { Ring.init with
    sent := r.sent, acted := r.acted, xseq := r.xseq, xsends := r.xsends, ret := r.ret, enumOut := r.enumOut, beat := r.beat })

end Sys2Proof.Machine
end

