-- ==== Sys2Proof/Machine/Hooks.lean ====
section
/-! DEFINITION. What a reaction does inside units whose own chapters define it. -/
namespace Sys2Proof.Machine

/-- A mailbox channel is isolated: the operations from its SQ complete with ISOLATED (R39, R399). -/
def State.isoMailbox (s : State) (c : Nat) : State :=
  (s.ceEnd (fun o => o.src == .sq (s.get (HOST_MBCFG_SQ c))) stIsolated 0).put (HOST_MBIRQ_ISO c) 1

/-- What stopping a unit by fault `id` does inside it (R39). -/
def State.isolateFx (s : State) (u : IsoUnit) (id : Nat) : State :=
  match u with
  | .queue q => s.isoQueue q
  | .channel i => s.isoChannel i
  | .slice n => s.isoSlice n id
  | .converter c => s.isoConverter c
  | .port p => s.isoPort p id
  | .partner n => s.isoPartner n
  | .member m => s.isoMember m
  | .mailbox c => s.isoMailbox c

/-- The entropy source starts again (R466, R486, R490): its state is lost and the start-up test runs. -/
def State.rngReset (s : State) : State :=
  { (s.wr RNG_STAT 0).put RNG_STAT_SEEDING 1 with rng := Rng.init }

/-- The entropy source and the DRBG lose their state in SMOULDER and below (R490). -/
def State.rngLost (s : State) : State := { s.wr RNG_STAT 0 with rng := { Rng.init with run := false } }

/-- The slices at a reset of the MON block: nothing latched, filters at 0, their conditions gone; those powered in `o` stay
powered and compare with the thresholds loaded, and a side that is 1 now and was 0 acts. Out of SMOULDER (`deep`) the powered
slices keep their status and the conditions with it (R317). The conditions of 0x43 and 0x44 stay (R309, R310). -/
def State.monReset (s o : State) (deep : Bool) : State :=
  let bad := if deep then s.mon.bad else s.mon.bad.filter (fun p => p.1 == 0x43 || p.1 == 0x44)
  let s := { s with mon := { s.mon with latched := [], scan := [], adc0 := [], adc1 := [], bad := bad, refd := [] } }
  let s := [0x41, 0x42, 0x43, 0x44].foldl (fun s id => s.condition id (bad.any (fun p => p.1 == id))) s
  let live := s.enabledSlices.filter (fun n => o.is (MON_STAT_LIVE n))
  let s := live.foldl (fun s n =>
    (if deep then s.wr (MON_STAT n) (o.rd (MON_STAT n)) else s.put (MON_STAT_LIVE n) 1).compare n) s
  let s := live.foldl (fun s n => s.violSync n) s
  let s := s.condition 0x40 (live.any (fun n => s.is (MON_CFG_FLT n) && (s.is (MON_STAT_UF n) || s.is (MON_STAT_LF n))))
  (live.foldl (fun s n => s.sidesRise o n) s).groupRise o (List.range 32)

/-- The partner records that the image carries are loaded again (R458); ISO, BCR and DCR stay. -/
def State.partnersReload (s : State) : Store (List Word) → State
  | [] => s
  | (n, ws) :: t =>
    let old := s.partner n
    let w0 := putFld (ws.getD 0 0) 31 1 (fld (old.getD 0 0) 31 1)
    let w3 := putFld (ws.getD 3 0) 16 16 (fld (old.getD 3 0) 16 16)
    (s.putPartner n [w0, ws.getD 1 0, ws.getD 2 0, w3]).partnersReload t

/-- A unit whose isolation a reset does not end: a partner (its record is kept), and a slice that SMOULDER has kept. -/
def State.isoKept (s : State) : IsoUnit → Bool
  | .partner _ => true
  | .slice n => s.is (MON_STAT_ISO n)
  | _ => false

/-- The ledger entries of ports, slices and members left by a reset: isolated, faulty or off ones are in service again,
members closed. -/
def State.ledgerRestart (s : State) : List (Nat × Word) → State
  | [] => s
  | (a, _) :: t =>
    let i := (a - 0x40018000) / 4
    let st := s.ledgerSt i
    let s := if decide (0x40018000 ≤ a) && decide (a < 0x4001A000) && decide (0x500 ≤ i) && decide (i < 0x600) &&
        !(decide (0x590 ≤ i) && decide (i < 0x5C0)) && !s.flt.isolated.contains (.slice (i - 0x510)) && (st == 3 || st == 4 || st == 5) then
        s.ledger i (if decide (0x5C0 ≤ i) then 0 else 1)
      else s
    s.ledgerRestart t

/-- The units held in reset in LIMP (R68), inside: the CE, the ports, the Ring and the converters. -/
def State.limpUnits (s : State) : State :=
  let s := { s with mon := { s.mon with adc0 := [], adc1 := [], refd := [] } }
  ((s.ceReset).portsReset).ringReset

/-- The blocks named in R37 at their reset values, inside; `o` is the state before the reset. FLC_STAT stays busy while an
operation runs (R240, R480). -/
def State.resetUnits (s o : State) (deep : Bool) : State :=
  let s := ((((s.ceReset).monReset o deep).portsReset.partnersReload s.ks.sealedPartners).ringReset).rngReset
  let s := { s with flt := { s.flt with isolated := s.flt.isolated.filter s.isoKept }, host := HostPort.init, mgmt := MgmtPort.init }
  let s := s.ledgerRestart s.regs
  if o.is FLC_STAT_BUSY then (s.put FLC_STAT_BUSY 1).put FLC_STAT_BANK (o.get FLC_STAT_BANK) else s

end Sys2Proof.Machine
end

