-- ==== Sys2Proof/Machine/Fault.lean ====
section
/-! DEFINITION. The capture of a fault with every action of its reaction class (R34–R46, R67, R68, R84, R90). -/
namespace Sys2Proof.Machine

/-! ## Causes -/

/-- Outputs with a pending fault whose applied class is Snuff or above, or a Limp, folded over the captured IDs. -/
def faultOuts (pend : Nat → Bool) (applied : Store Nat) : Store Word → Word
  | [] => 0
  | (id, m) :: t =>
    (if pend id && decide (5 ≤ Store.get (fun _ => 0) applied id) then m else 0) ||| faultOuts pend applied t

/-- The pending field of an ID (FLT_PENDn bit b is ID 32n + b). -/
def pendFld (id : Nat) : Fld := ⟨FLT_PEND (id / 32), id % 32, 1⟩

/-- The ID is pending. -/
def State.pend (s : State) (id : Nat) : Bool := s.is (pendFld id)

/-- SNF_REQ: outputs with a cause of R51 other than the power-up state and the software request: a fault reaction whose
fault is pending, a slice output routed to it, LIMP (log entry 8). -/
def State.activeCauses (s : State) : Word :=
  (faultOuts s.pend s.flt.applied s.flt.outs ||| s.sliceOuts ||| (if s.limp then 0xFFFFFF else 0)) &&& 0xFFFFFF

/-! ## Copies -/

/-- The lead copy: the copy in service with the smallest stagger. -/
def leadOf (svc : Nat) : Nat := if svc % 2 = 1 then 0 else if svc / 2 % 2 = 1 then 1 else 2

/-- The copy in service that a self-test takes after copy `k`. -/
def nextCopy (svc k : Nat) : Nat :=
  if svc / 2 ^ ((k + 1) % 3) % 2 = 1 then (k + 1) % 3
  else if svc / 2 ^ ((k + 2) % 3) % 2 = 1 then (k + 2) % 3
  else k

/-- The copies in service are `svc`; the self-test's next copy is one of them (R92), and a copy that is not is ISOLATED where
retired, idle (CLOSED) where it is Copy C of PAIR with CPOWER 0 (R74), and OFF elsewhere. -/
def State.serve (s : State) (svc : Nat) : State :=
  let s := (s.put LNT_STAT_INSVC svc).put LNT_STAT_LEAD (leadOf svc)
  let k := s.get LNT_STSTAT_KC
  let s := if svc / 2 ^ k % 2 = 1 then s else s.put LNT_STSTAT_KC (nextCopy svc k)
  let st (c : Nat) : Nat :=
    if s.get LNT_STAT_RETIRED / 2 ^ c % 2 = 1 then 6 else if svc / 2 ^ c % 2 = 1 then 1
    else if c = 2 && s.lmode == 1 && !s.is LNT_MODE_CPOWER then 0 else 5
  ((s.ledger 0x590 (st 0)).ledger 0x591 (st 1)).ledger 0x592 (st 2)

/-- The copies that are healthy: not retired. -/
def State.healthy (s : State) : Nat := 7 - s.get LNT_STAT_RETIRED

/-- The copies in service in a mode (Table 3.1): TRIO the three, PAIR the first two healthy, SINGLE the first. -/
def svcOf (healthy mode : Nat) : Nat :=
  if mode = 2 then healthy
  else if mode = 1 then
    (if healthy % 4 = 3 then 3 else healthy)
  else 2 ^ leadOf healthy

/-! ## Capture -/

/-- A fault request: the ID, the detail word, the unit the source names, and whether it is injected (R72) or a precise
exception (R44). -/
structure FaultReq where
  id : Nat
  detail : Word
  unit : Option Nat
  injected : Bool
  precise : Bool
  deriving DecidableEq, Repr

/-- The class field of an ID in FLT_CLSn. -/
def clsFld (id : Nat) : Fld := ⟨FLT_CLS (id / 4), 8 * (id % 4), 3⟩

/-- The RING bit of an ID in FLT_CLSn. -/
def ringFld (id : Nat) : Fld := ⟨FLT_CLS (id / 4), 8 * (id % 4) + 3, 1⟩

/-- The unit that Isolate stops, for the sources other than copies. -/
def isoUnitOf : IsoKind → Nat → Option IsoUnit
  | .slice, n => some (.slice n)
  | .converter, n => some (.converter n)
  | .port, n => some (.port n)
  | .partner, n => some (.partner n)
  | .queue, n => some (.queue n)
  | .channel, n => some (.channel n)
  | .member, n => some (.member n)
  | .mailbox, n => some (.mailbox n)
  | .copy, _ => none
  | .none, _ => none

/-- A unit is isolated by a fault (R39). -/
def State.isolate (s : State) (u : IsoUnit) (id : Nat) : State :=
  if s.flt.isolated.contains u then s
  else ({ s with flt := { s.flt with isolated := s.flt.isolated ++ [u] } }).isolateFx u id

/-- A register keeps its value through a warm reset (R37): the SNF, FLT, WK and KS blocks and rows marked kept. -/
def warmKeep (a : Nat) : Bool :=
  let p := a / 4096
  p == 0x40004 || p == 0x40005 || p == 0x4000C || p == 0x4000A ||
  (match regRow a with
   | some r => r.keep
   | none => false)

/-- The sealed values outside SNF and FLT are loaded into their registers (R458). -/
def reloadLatches (regs : Store Word) : Store Word → Store Word
  | [] => regs
  | (a, v) :: t =>
    let p := a / 4096
    reloadLatches (if p == 0x40004 || p == 0x40005 || decide (a < 0x40000000) then regs else Store.set regReset regs a v) t

/-- The mode that the latches give, PAIR where a copy is retired and TRIO was given (R37, R90). -/
def State.modeFix (s : State) : State :=
  if s.get LNT_STAT_RETIRED != 0 && s.lmode == 2 then s.put LNT_MODE_MODE 1 else s

/-- The cluster starts again at the reset vector with nothing in flight; the cycle count stays until the start ends. -/
def State.coreReset (s : State) (held : Bool) : State :=
  { s with
    core := { Core.init with cycle := s.core.cycle, inReset := held }
    csr := Store.set csrReset [] 0x013 (Store.get csrReset s.latch 0x013)
    gpr := []
    ac := [] }

/-- A flash operation whose result a warm reset has lost (R240). -/
def FlashOp.orphaned (o : FlashOp) : FlashOp := { o with orphan := true }

/-- What the power registers show after a warm reset (R37, R419, R422): RESULT and PM_IRQ.DONE of the entry that it abandoned or of the
exit that it made, and the cycles of that exit; otherwise their reset values. `went` says which of the two there was. -/
def State.exitShown (s o : State) (went : Bool × Bool) : State :=
  if went.1 then (s.put PM_STAT_RESULT (o.get PM_STAT_RESULT)).put PM_IRQ_DONE 1
  else if went.2 then ((s.put PM_STAT_RESULT (o.get PM_STAT_RESULT)).wr PM_EXITCYC (o.rd PM_EXITCYC)).put PM_IRQ_DONE 1
  else s.put PM_STAT_RESULT 0

/-- WARM_RESET: the cluster is held in reset and the named blocks return to their reset values (R37, R214, R240); out of
SMOULDER it is the exit's own (R419). A Reset
while one is in progress starts no second one. -/
def State.warmReset (s : State) : State :=
  if s.core.inReset then s
  else
    let went := (s.pm.phase, decide (2 ≤ s.pstate) && decide (s.pstate ≤ 4))
    let deep := s.pstate == 2
    let s := s.leaveForReset
    let o := s
    let keep := s.regs.filter (fun p => warmKeep p.1)
    let s := { s with regs := reloadLatches keep s.latch, mpu := s.latch.filter (fun p => p.1 / 4096 == 0x40007) }
    let s := ((s.modeFix.coreReset true).resetUnits o deep).exitShown o went
    let s := { s with
      lock := { s.lock with window := none }
      memi := { Memi.init with flash := s.memi.flash.map FlashOp.orphaned } }
    let s := s.onPm (fun p => { p with due := if deep then 1 else p.due, held := if went.1 then [] else p.held })
    (s.put LNT_STAT_RKACT 0).put LNT_STAT_JOINACT 0

/-- The blocks held in reset in LIMP (R68): the CE, the ports, the Ring and the converters. -/
def limpHeld (a : Nat) : Bool :=
  let p := a / 4096
  (decide (0x40010 ≤ p) && decide (p < 0x40020) && p != 0x40018 && p != 0x40019) || (decide (0x40030 ≤ p) && decide (p < 0x40034)) || p == 0x40040 ||
  p == 0x40060

/-- LIMP_ENTRY: all outputs are snuffed, LIMP is shown, the CE, ports, Ring and ADC are held in reset, and the first healthy
copy starts at the reset vector in SINGLE (R68); the map stands at its reset values (spec/08, Edges). Out of SMOULDER the exit's
warm start comes first, and the copy starts as it ends (R419). -/
def State.enterLimp (s : State) : State :=
  let deep := s.pstate == 2
  let s := (if deep then s.warmReset else s.leaveForReset).snuff 0xFFFFFF
  let s := (s.flag SNF_STAT_LIMP true).flag FLT_STAT_LIMP true
  let regs := s.regs.filter (fun p => !(limpHeld p.1 || p.1 / 4096 == 0x40007))
  let maps := s.latch.filter (fun p => p.1 / 4096 == 0x40007)
  let s := { s with regs := reloadLatches regs maps, mpu := maps }
  let s := (s.coreReset deep).limpUnits
  let s := { s with lock := { s.lock with window := none } }
  let s := ((s.put LNT_STAT_RKACT 0).put LNT_STAT_JOINACT 0).put LNT_MODE_MODE 0
  s.serve (svcOf s.healthy 0)

/-- The outputs of a class Snuff or above (R34, R43): the source's set, every used output where the set is zero or the class
is Limp. -/
def State.classOuts (s : State) (id cls : Nat) : Word :=
  let o := s.rd (FLT_OSET id) &&& 0xFFFFFF
  if cls = 7 || o = 0 then s.used else o &&& s.used

/-- The class carried out: R36 turns Rekindle outside TRIO into Reset, R38 the Reset that would take RSTCNT from 3 to 4 into
Limp. -/
def State.appliedClass (s : State) (cls : Nat) : Nat :=
  let c := if cls = 3 && s.lmode != 2 then 6 else cls
  if c = 6 && s.get FLT_STAT_RSTCNT == 3 && !s.limp then 7 else c

/-- A Reset reaction: counted, its second begins (R38), and the warm reset (R37). -/
def State.resetReaction (s : State) : State :=
  { (s.bump FLT_STAT_RSTCNT 1).warmReset with flt := { (s.bump FLT_STAT_RSTCNT 1).warmReset.flt with rstAge := 0 } }

/-- Copy `c` is powered off and marked retired; the cluster goes on in PAIR on the other two (R39, R90). -/
def State.removeCopy (s : State) (c : Nat) : State :=
  let s := s.put LNT_STAT_RETIRED (s.get LNT_STAT_RETIRED ||| 2 ^ c)
  let s := s.serve (s.insvc &&& (7 - 2 ^ c))
  if s.lmode == 2 then s.put LNT_MODE_MODE 1 else s

/-- Isolate (R39): the copy or the unit that the source names is stopped, by every class from Isolate up (R34). -/
def State.isolateStep (s : State) (q : FaultReq) (row : FaultRow) : State :=
  match q.unit with
  | some n =>
    if row.iso == .copy then s.removeCopy n
    else match isoUnitOf row.iso n with
      | some u => s.isolate u q.id
      | none => s
  | none => s

/-- The actions of a class beyond the pending bit and the log entry (Table 2.1), in the cycle of the capture. -/
def State.classActions (s : State) (q : FaultReq) (row : FaultRow) (cls : Nat) : State :=
  let mask := s.classOuts q.id cls
  let s := if 2 ≤ cls && cls ≤ 5 && !q.precise then s.flag FLT_STAT_NINT true else s
  let s := if 4 ≤ cls then s.isolateStep q row else s
  let s := if 5 ≤ cls then
      { s.snuff mask with flt := { (s.snuff mask).flt with outs := Store.set (fun _ => 0) s.flt.outs q.id mask } }
    else s
  let s := if cls = 5 then s.flag FLT_STAT_SNOTICE true else s
  let s := if 5 ≤ cls then s.yieldActive else s
  let s := if 5 ≤ cls && s.is (ringFld q.id) then s.ringSnuffOut else s
  let s := if 2 ≤ cls then s.wakeNote else s
  let s := if cls = 6 then s.resetReaction else s
  if cls = 7 then s.enterLimp else s

/-- The ledger entry of a unit (Table 10.10). -/
def unitLedger : IsoUnit → Option Nat
  | .slice n => some (0x510 + n)
  | .port n => some (0x500 + n)
  | .queue n => some (0x400 + n)
  | .channel n => some n
  | .member n => some (0x5C0 + n)
  | .converter _ => none
  | .partner _ => none
  | .mailbox _ => none

/-- A slice, port or Ring member in service with a fault pending shows FAULT in the ledger (Table 10.12). -/
def State.noteFaulty (s : State) (id : Nat) (u : Option IsoUnit) : State :=
  match u with
  | some u =>
    (match u with
     | .slice n => if s.ledgerSt (0x510 + n) = 1 then s.ledger (0x510 + n) 4 else s
     | .port n => if s.ledgerSt (0x500 + n) = 1 then s.ledger (0x500 + n) 4 else s
     | .member n => if s.ledgerSt (0x5C0 + n) = 1 then s.ledger (0x5C0 + n) 4 else s
     | _ => s) |> fun s => { s with flt := { s.flt with faulty := (id, u) :: s.flt.faulty.filter (fun p => p != (id, u)) } }
  | none => s

/-- The units whose faults are no longer pending show OPEN again. -/
def State.faultyDrop (s : State) : List (Nat × IsoUnit) → State
  | [] => s
  | (id, u) :: t =>
    let s := s.faultyDrop t
    if s.pend id then s
    else
      let s := { s with flt := { s.flt with faulty := s.flt.faulty.filter (fun p => p != (id, u)) } }
      if s.flt.faulty.any (fun p => p.2 == u) then s
      else match unitLedger u with
        | some i => if s.ledgerSt i = 4 then s.ledger i 1 else s
        | none => s

/-- FAULT_CAPTURE: the collector captures a request in one AOCLK cycle (R45): the pending bit, the class's actions, the log
entry. Before sealing the class is applied at the seal (R18); in LIMP only a Reset changes anything beyond the log (R68), and it counts (R38). A
repeat of a pending ID writes no entry (R46); the entry shows power state, copies and time as they stood at the capture
(Table 2.4). -/
def State.capture (s : State) (q : FaultReq) : State :=
  match faultRow q.id with
  | none => s
  | some row =>
    let again := s.pend q.id
    let cls0 := s.get (clsFld q.id)
    let early := !s.isSealed && !s.limp
    let cls := if early then cls0 else s.appliedClass cls0
    let mask := if 5 ≤ cls && !early && !s.limp then s.classOuts q.id cls else 0
    let fresh := s.newly mask
    let entry : LogRec :=
      ⟨if q.injected then 5 else 0, q.id, cls, decide (5 ≤ cls) && !early && fresh == 0, cls != cls0, q.detail, fresh⟩
    let words := s.logWords entry
    let s := (s.put (pendFld q.id) 1).put FLT_STAT_LASTID q.id
    let s := if early then { s with flt := { s.flt with presealed := s.flt.presealed ++ [q.id] } }
      else { s with flt := { s.flt with applied := Store.set (fun _ => 0) s.flt.applied q.id cls } }
    let s := if early then s
      else if s.limp then
        (let s := if 2 ≤ cls then s.wakeNote else s
         if cls = 6 then s.resetReaction else s)
      else s.classActions q row cls
    let s := s.noteFaulty q.id (q.unit.bind (isoUnitOf row.iso))
    if again then s.bump FLT_REPEAT_COUNT 1 else s.logPut words

/-- The fault request of a failed end-to-end check (R246). -/
def e2eReq (a : Nat) : FaultReq := ⟨0x27, BitVec.ofNat 32 a, none, true, false⟩

/-- A log entry written since `o` of which a word's transfer failed its check: fault 0x27 (R246). -/
def State.logCheck (s o : State) : State :=
  match s.logFailed o with
  | some a => (s.e2eNote .snufLog a true).capture (e2eReq a)
  | none => s

/-! ## Retirement and the copy reactions -/

/-- Fault 0x06 tells of the retirement of copy `c` (R90). -/
def State.retireFault (s : State) (c : Nat) : State :=
  s.capture ⟨0x06, BitVec.ofNat 32 (2 ^ c), none, false, false⟩

/-- RETIREMENT: the copy is powered off and marked retired, fault 0x06 is raised and the cluster goes on in PAIR (R90). -/
def State.retire (s : State) (c : Nat) : State := (s.removeCopy c).retireFault c

/-- A third need within 1 s of the earlier of the copy's two most recent Rekindles (R90). -/
def State.thirdNeed (s : State) (c : Nat) : Bool :=
  match (s.lock.rkTimes.filter (fun p => p.1 == c)).map (fun p => p.2) with
  | [t, _] => decide (s.aoclk < t + 16000000)
  | _ => false

/-- A Rekindle window opens for the outvoted copy in the cycle after the verdict (spec/03, Rekindle). LNT_STAT.INSVC keeps showing
the copy while it is rebuilt (DESIGN CHOICE, log entry 123). -/
def State.openRekindle (s : State) (c : Nat) : State :=
  { s with lock := { s.lock with window := some ⟨false, c, 0, false, false⟩ } }.put LNT_STAT_RKACT 1

/-- The reaction to 0x01, 0x03 or 0x05 that concerns the copy named (R84, R88, R90): class Rekindle opens a window, or
retires the copy at its third need; a class from Isolate up has removed it in the capture, and 0x06 tells of it. -/
def State.copyReaction (s : State) (c cls : Nat) : State :=
  if 4 ≤ cls then s.retireFault c
  else if cls = 3 then
    (if s.lock.window.isSome then s else if s.thirdNeed c then s.retire c else s.openRekindle c)
  else s

/-- A fault is raised: its capture, and for the sources that isolate a copy the copy's own reaction. The collector runs on
AOCLK, so without it nothing is captured. -/
def State.raise (s : State) (q : FaultReq) : State :=
  if !s.aoclkRuns then s
  else
  let cls := s.appliedClass (s.get (clsFld q.id))
  let acts := s.isSealed && !s.limp
  let s := (s.capture q).logCheck s
  if (q.id == 0x01 || q.id == 0x03 || q.id == 0x05) && acts then
    (match q.unit with
     | some c => s.copyReaction c cls
     | none => s)
  else s

/-- A fault with a detail word that names no unit to isolate. -/
def State.fault (s : State) (id : Nat) (detail : Nat) : State := s.raise ⟨id, BitVec.ofNat 32 detail, none, false, false⟩

/-- A fault with a detail word and the unit to isolate. -/
def State.faultOn (s : State) (id detail unit : Nat) : State :=
  s.raise ⟨id, BitVec.ofNat 32 detail, some unit, false, false⟩

/-- A fault that is a precise exception (R44): NINT is not set. -/
def State.faultPrecise (s : State) (id detail : Nat) : State :=
  s.raise ⟨id, BitVec.ofNat 32 detail, none, false, true⟩

/-- An injection is waiting for an ID with an argument. -/
def State.injected (s : State) (id arg : Nat) : Bool := s.flt.inj.contains ⟨id, arg⟩

/-- The state after a waiting injection has been used. -/
def State.injUsed (s : State) (id arg : Nat) : State :=
  { s with flt := { s.flt with inj := s.flt.inj.erase ⟨id, arg⟩ } }

end Sys2Proof.Machine
end

