-- ==== Sys2Proof/Machine/Map.lean ====
section
/-! DEFINITION. Which accesses reach their target: the memory map and powered blocks (R10, R21, R28, R239), the protection
map (R205–R213, R226), and the memory targets with their codes (R229–R247). -/
namespace Sys2Proof.Machine

/-- The kind of an access, as MPU_FINFO.KIND codes it. -/
inductive AccKind where
  | read | write | fetch
  deriving DecidableEq, Repr

/-- The code of a kind (MPU_FINFO.KIND). -/
def AccKind.code : AccKind → Nat
  | .read => 0 | .write => 1 | .fetch => 2

/-- The flash bank of an address is busy with an operation (R239), or bank 1 with a key update (R480). -/
def State.flashBusy (s : State) (a : Nat) : Bool :=
  (match s.memi.flash with
   | some o => o.addr / 0x200000 == a / 0x200000
   | none => false) || (s.ks.update.isSome && decide (0x200000 ≤ a))

/-- A peripheral block of the map (Table 1.4) by its page. -/
def pageMapped (p : Nat) : Bool :=
  (decide (0x40000 ≤ p) && decide (p ≤ 0x4000E)) || (decide (0x40010 ≤ p) && decide (p ≤ 0x4001F)) ||
  p == 0x40020 || p == 0x40021 || (decide (0x40030 ≤ p) && decide (p ≤ 0x40033)) || p == 0x40040 || p == 0x40050 ||
  p == 0x40051 || p == 0x40060 || p == 0x40070 || p == 0x40080 || p == 0x40090

/-- The block on a page is off or retained in a power state (Table 1.2): the interconnect is off below EMBER (R49, log entry
96), and the Lanterns, the Ring and the converters serve no access below DIM. Which pages are the retained core cluster of EMBER
Table 1.2 does not say: the LNT page is refused there, and IC, GT, MPU, MC and DBG stay reachable (DESIGN CHOICE, log entry
96). -/
def pageOff (pst p : Nat) : Bool :=
  decide (pst < 3) || ((p == 0x40003 || p == 0x40040 || p == 0x40060) && decide (pst < 4))

/-- The access reaches no block: outside Table 1.4, or to a block off, retained, or served to other masters only (R10, R21,
R239), or to SRAM in a LIMP that a failed clear has led to (R256). -/
def State.unreachable (s : State) (m : Master) (a : Nat) : Bool :=
  let pst := s.pstate
  if inFlash a then pst != 5 || s.flashBusy a
  else if inSram a || inScratch a then
    !(pst == 5 || (pst == 3 && (m == .ce || m == .mover || m == .mgmt || m == .snufLog))) ||
    (inSram a && s.limp && s.is MEM_STAT_CLRFAIL) || (inSram a && s.core.inReset && s.pm.due == 1 && m != .lamp)
  else if inPeriph a then !pageMapped (a / 4096) || pageOff pst (a / 4096)
  else !inRingWin a

/-! ## The protection map -/

/-- The committed value of a map register (R216). -/
def State.mapReg (s : State) (a : Nat) : Word := Store.get regReset s.mpu a

/-- A region with these register values matches an access of master `m` at `a` (R205, R206). -/
def regionMatch (base attr : Word) (m a : Nat) : Bool :=
  let size := fld attr 0 6
  let b := base.toNat / 2 ^ size * 2 ^ size
  bitOf base 0 && decide (8 ≤ size) && bitOf attr (16 + m) && decide (b ≤ a) && decide (a < b + 2 ^ size) &&
  bitOf attr (8 + (a - b) / 2 ^ (size - 3))

/-- The permissions of matching regions `k` below `n` from register index `i`: whether any matches, and whether all of them
grant the permission bit (R207). -/
def State.regionsGrant (s : State) (m a perm : Nat) (i : Nat) : Nat → Bool × Bool
  | 0 => (false, true)
  | n + 1 =>
    let r := s.regionsGrant m a perm i n
    let base := s.mapReg (MPU_BASE (i + n))
    if regionMatch base (s.mapReg (MPU_ATTR (i + n))) m a then (true, r.2 && bitOf base perm) else r

/-- The active region set of the cluster: true for B. -/
def State.pset (s : State) : Bool := bitOf (s.csrRaw 0x000) 29

/-- The default map of Table 8.2 for a trusted master. -/
def defaultMap (k : AccKind) (a : Nat) : Bool :=
  match k with
  | .read => inFlash a || inSram a || inScratch a || inPeriph a || inRingWin a
  | .write => inSram a || inScratch a || inPeriph a || inRingWin a
  | .fetch => inFlash a || inSram a || inScratch a

/-- MPU_CTL.MODE is STRICT in the committed values. -/
def State.strict (s : State) : Bool := bitOf (s.mapReg MPU_CTL) 0

/-- The permission bit of a kind in a base register. -/
def AccKind.perm : AccKind → Nat
  | .read => 2 | .write => 3 | .fetch => 4

/-- The map's answer (R207, R208, R212): none grants, else the REASON of the refusal. A write to flash is refused (R134). -/
def State.mapCheck (s : State) (m : Master) (k : AccKind) (a : Nat) : Option Nat :=
  if m == .lamp then none
  else if k == .write && inFlash a then some 2
  else
    let r := if m == .cluster then s.regionsGrant 0 a k.perm (if s.pset then 16 else 0) 16
      else s.regionsGrant m.id a k.perm 0 32
    if r.1 then (if r.2 then none else some 2)
    else if m == .debug && !s.strict && (s.develop || s.unlocked) && defaultMap k a then none
    else some 1

/-- Completions of the operations that the entry to STANDBY cancelled are still to be written (R380). -/
def State.closing (s : State) : Bool := s.ce.ops.any (fun o => o.result.isSome && !o.held)

/-- A write by a local master to the mirror window of a STANDBY (R379); the completions of step 1 of R380 are written (log entry
134). -/
def State.mirrorLocked (s : State) (m : Master) (k : AccKind) (a : Nat) : Bool :=
  s.get RING_PSTAT_ROLE == 2 && k == .write && inSram a && s.inMirror a && !(m == .ce && s.closing)

/-- The access is refused whatever the map says (R10, R225, R379). -/
def State.barred (s : State) (m : Master) (k : AccKind) (a : Nat) : Bool := s.unreachable m a || s.mirrorLocked m k a

/-- The refusal of an access: none where it is granted, else its REASON (R225 before the map). -/
def State.refusal (s : State) (m : Master) (k : AccKind) (a : Nat) : Option Nat :=
  if s.barred m k a then some 3 else s.mapCheck m k a

/-- A write of master `m` to the register at `a` is ignored: its row names no register, other masters, or an image-carried one
before sealing (R9, R456). -/
def State.writeIgnored (s : State) (m : Master) (a : Nat) : Bool :=
  match regRow a with
  | none => true
  | some r => (!r.only.isEmpty && !r.only.contains m.id) || (r.img && !s.isSealed && m != .lamp)

/-- The effect `f` of a write to the register at `a`, where its row admits the master: a row that names no register or other
masters ignores the write (R9), and an image-carried one that firmware writes before sealing counts it too (R456). -/
def State.rowWrite (s : State) (m : Master) (a : Nat) (f : State → State) : State :=
  match regRow a with
  | none => s
  | some r =>
    if !r.only.isEmpty && !r.only.contains m.id then s
    else if r.img && !s.isSealed && m != .lamp then s.clamped a
    else f s

/-- A write reaches the register at `a`: its block is not off (R21) and no Snuffer-only hold is in force (R69). -/
def State.reaches (s : State) (a : Nat) : Bool := !s.snf.only && !pageOff s.pstate (a / 4096)

/-- A write of the register at `a` by a command that names no master: it does nothing where it reaches no block. -/
def State.ownCommand (s : State) (a : Nat) (f : State → State) : State :=
  if s.reaches a then f s else s

/-- A refusal is recorded (R226). -/
def State.recordRefusal (s : State) (m : Master) (k : AccKind) (a : Nat) (buf : Bool) (set : Bool) (reason : Nat) : State :=
  let info := m.id + k.code * 16 + b2n buf * 64 + b2n (m == .cluster && set) * 128 + reason * 256
  ((s.wr MPU_FADDR (BitVec.ofNat 32 a)).wr MPU_FINFO (BitVec.ofNat 32 info)).bump MPU_FCNT_COUNT 1

/-- A refused transfer of a master other than the cluster raises 0x28 at the collector (R224). -/
def State.refuseOther (s : State) (m : Master) (k : AccKind) (a reason : Nat) : State :=
  (s.recordRefusal m k a false false reason).fault 0x28 a

/-! ## Memory targets -/

/-- ECC_CORRECTION, the record (R232, R242, R245): counts, last address and syndrome, the repeat entries. -/
def State.noteRepeat (s : State) (a : Nat) : State :=
  if !s.memi.done.contains a then s
  else
    let put (s : State) (k : Nat) : State := s.wr (MEM_RPT k) (BitVec.ofNat 32 (a + 1))
    let s := if !bitOf (s.rd (MEM_RPT 0)) 0 then put s 0
      else if !bitOf (s.rd (MEM_RPT 1)) 0 then put s 1
      else if !bitOf (s.rd (MEM_RPT 2)) 0 then put s 2
      else if !bitOf (s.rd (MEM_RPT 3)) 0 then put s 3
      else s.flag MEM_STAT_RPTOVF true
    s.flag MEM_STAT_RPT true

/-- The corrected word is offered to its bank's write-back entry (R244). -/
def State.offerWb (s : State) (a : Nat) (w : Word) : State :=
  match Store.get (fun _ => none) s.memi.wb (bankOf a) with
  | none => { s with memi := { s.memi with wb := Store.set (fun _ => none) s.memi.wb (bankOf a) (some (a, w)) } }
  | some _ => s.bump MEM_WBLOST_COUNT 1

/-- An injection corrupted the word, or in flash its line, and nothing has rewritten it since (R72). -/
def State.corruptAt (s : State) (a : Nat) : Bool :=
  if inFlash a then s.flt.corrupt.any (fun x => x / 32 == a / 32) else s.flt.corrupt.contains (a / 4 * 4)

/-- The outcome of one memory word read: the state, the data, and the fault ID of an error response. -/
structure MemOut where
  st : State
  data : Word
  err : Option Nat
  deriving DecidableEq, Repr

/-- The place of the first byte that byte enables select. -/
def beLow (be : Nat) : Nat := if be % 2 = 1 then 0 else if be / 2 % 2 = 1 then 1 else if be / 4 % 2 = 1 then 2 else if be / 8 % 2 = 1 then 3 else 0

/-- A read of the aligned word at `a` by a memory target (R230, R232, R242–R245, R251) for an access at byte address `d`:
correction is recorded and raises 0x20, 0x23 or 0x25; an uncorrectable or wrong-address word raises its fault and answers an
error. DETAIL is the byte address of the access (Table 2.5). -/
def State.memReadAt (s : State) (a d : Nat) (scrub precise : Bool) : MemOut :=
  let cls := s.unitClass a
  let w := s.goodWord a
  let inj := s.corruptAt a
  let req (id : Nat) : FaultReq := ⟨id, BitVec.ofNat 32 d, none, inj, precise⟩
  let flash := inFlash a
  match cls with
  | .good => ⟨s, w, none⟩
  | .wrongAddr =>
    let id := if flash then 0x26 else if inSram a then 0x22 else 0x24
    let s := if flash then s.wr FLC_UEADDR (BitVec.ofNat 32 (a / 32 * 32))
      else (s.wr MEM_UEADDR (BitVec.ofNat 32 a)).wr MEM_UESYN (BitVec.ofNat 32 (s.codeAt a + b2n scrub * 256 + 512))
    ⟨s.raise (req id), 0, some id⟩
  | .bad =>
    let id := if flash then 0x26 else if inSram a then 0x21 else 0x24
    let s := if flash then s.wr FLC_UEADDR (BitVec.ofNat 32 (a / 32 * 32))
      else (s.wr MEM_UEADDR (BitVec.ofNat 32 a)).wr MEM_UESYN (BitVec.ofNat 32 (s.codeAt a + b2n scrub * 256))
    ⟨s.raise (req id), 0, some id⟩
  | _ =>
    let id := if flash then 0x25 else if inSram a then 0x20 else 0x23
    let s := if flash then
        (s.bump (if a < 0x200000 then FLC_CECNT_B0 else FLC_CECNT_B1) 1).wr FLC_CEADDR (BitVec.ofNat 32 (a / 32 * 32))
      else
        let s := (s.bump (if inSram a then MEM_CECNT_SRAM else MEM_CECNT_SP) 1).wr MEM_CEADDR (BitVec.ofNat 32 a)
        let s := s.wr MEM_CESYN (BitVec.ofNat 32 (s.codeAt a + b2n scrub * 256))
        (s.noteRepeat a).offerWb a w
    ⟨s.raise { req id with precise := false }, w, none⟩

/-- A read of the whole aligned word at `a`. -/
def State.memRead (s : State) (a : Nat) (scrub precise : Bool) : MemOut := s.memReadAt a a scrub precise

/-- A read of a ledger word (R229, R284): a correctable error raises 0x20 and is corrected in place, an uncorrectable one 0x21
and a wrong-address one 0x22; the spec states no value for a word that cannot be corrected, and the read takes a free one (log
entry 2). -/
def State.ledgerRead (s : State) (a : Nat) : State × Word :=
  match synClass 7 11 (s.codeAt a) with
  | .good => (s, s.rd a)
  | .check => ((s.putCode a 0).fault 0x20 a, s.rd a)
  | .data j => (((s.wr a (s.rd a ^^^ bit j)).putCode a 0).fault 0x20 a, s.rd a ^^^ bit j)
  | .wrongAddr => (s.freed.fault 0x22 a, s.freeVal)
  | .bad => (s.freed.fault 0x21 a, s.freeVal)

/-- Whether a ledger entry is under a hold, as a restart reads it (R284, R411). -/
def State.heldAt (s : State) (i : Nat) : State × Bool :=
  let r := s.ledgerRead (CE_LEDGER i)
  (r.1, bitOf r.2 16)

/-- The CE reads an entry, with the check of its code (R284), and gives its unit a ledger state. -/
def State.ledgerSet (s : State) (i st : Nat) : State :=
  if s.codeAt (CE_LEDGER i) = 0 then s.ledger i st
  else
    let r := s.ledgerRead (CE_LEDGER i)
    (r.1.wr (CE_LEDGER i) r.2).ledger i st

/-- The bytes of a word that byte enables select. -/
def beMask (be : Nat) : Word :=
  (if be % 2 = 1 then 0xFF else 0) ||| (if be / 2 % 2 = 1 then 0xFF00 else 0) |||
  (if be / 4 % 2 = 1 then 0xFF0000 else 0) ||| (if be / 8 % 2 = 1 then 0xFF000000 else 0)

/-- A write with byte enables to SRAM or the scratchpad (R241, R243): less than a full word reads, corrects, merges and
writes; a word that cannot be read keeps its error and answers an error response. -/
def State.memWrite (s : State) (a be : Nat) (w : Word) : MemOut :=
  if be % 16 = 15 then ⟨s.memStore a w, 0, none⟩
  else
    let r := s.memReadAt a (a + beLow be) false false
    match r.err with
    | some id => ⟨r.st, 0, some id⟩
    | none => ⟨r.st.memStore a ((r.data &&& ~~~ beMask be) ||| (w &&& beMask be)), 0, none⟩

end Sys2Proof.Machine
end

