-- ==== Sys2Proof/Machine/Ic.lean ====
section
/-! DEFINITION. The interrupt controller: each vector's request and level, eligibility at a boundary and the choice among
eligible vectors (R182, R187–R189). -/
namespace Sys2Proof.Machine

/-- A status register has a bit that its enable register lets request. -/
def State.irqOn (s : State) (irq en : Nat) : Bool := (s.rd irq &&& s.rd en) != 0

/-- The source's status bit drives vector `n` (Table 7.2). -/
def State.vecSource (s : State) (n : Nat) : Bool :=
  if n == 32 then s.is FLT_STAT_SNOTICE
  else if n == 33 then s.is FLT_STAT_NINT
  else if n == 38 then s.ceVector 38
  else if n == 39 then s.irqOn CE_IRQ CE_IRQEN
  else if decide (40 ≤ n) && decide (n ≤ 47) then
    (fld (s.rd (HOST_MBIRQ (n - 40))) 0 3 &&& fld (s.rd (HOST_MBIRQ (n - 40))) 8 3) != 0
  else if n == 48 then s.irqOn MGMT_IRQ MGMT_IRQEN
  else if n == 49 then s.irqOn RING_IRQ RING_IRQEN
  else if n == 50 then s.irqOn RING_PIRQ RING_PIRQEN
  else if n == 51 then s.irqOn WK_IRQ WK_IRQEN
  else if n == 52 then s.irqOn PM_IRQ PM_IRQEN
  else if n == 53 then s.irqOn CLK_IRQ CLK_IRQEN
  else if n == 54 then s.is FLC_STAT_DONE
  else if n == 55 then s.irqOn RNG_IRQ RNG_IRQEN
  else if n == 56 then (s.get ADC_IRQ_V0 &&& s.get ADC_IRQEN_V0) != 0
  else if n == 57 then (s.get ADC_IRQ_V1 &&& s.get ADC_IRQEN_V1) != 0
  else if decide (64 ≤ n) && decide (n ≤ 79) then s.irqOn (PORT_IRQ (n - 64)) (PORT_IRQEN (n - 64))
  else if decide (80 ≤ n) && decide (n ≤ 111) then bitOf (s.rd GP_IRQ0) (n - 80)
  else if decide (112 ≤ n) && decide (n ≤ 119) then bitOf (s.rd GP_IRQ1) (n - 112)
  else if decide (128 ≤ n) && decide (n ≤ 255) then s.ceVector n
  else false

/-- The request of vector `n` (R187): its source, or its software request. -/
def State.vecReq (s : State) (n : Nat) : Bool := s.vecSource n || (decide (34 ≤ n) && vectorListed n && s.is (IC_VCFG_SW n))

/-- The level of vector `n`: 8 for the notice, FLT_CFG.NLVL for Notify, else IC_VCFGn.LVL (Table 7.2). -/
def State.vecLevel (s : State) (n : Nat) : Nat :=
  if n == 32 then 8 else if n == 33 then s.get FLT_CFG_NLVL else s.get (IC_VCFG_LVL n)

/-- A field of STATUS. -/
def State.status (s : State) (lo len : Nat) : Nat := fld (s.csrRaw 0x000) lo len

/-- The state with a field of STATUS. -/
def State.putStatus (s : State) (lo len v : Nat) : State := s.csrPut 0x000 (putFld (s.csrRaw 0x000) lo len v)

/-- The current level (R183); 15 is the base level. -/
def State.level (s : State) : Nat := s.status 0 4

/-- A level as compared: the base level is below level 0 (R183). -/
def levelRank (l : Nat) : Nat := if l = 15 then 0 else l + 1

/-- VBASE.EN (R181). -/
def State.vbaseEn (s : State) : Bool := bitOf (s.csrRaw 0x010) 0

/-- A load shadow is in force (R109): a load from a Ring window has not returned, or one that missed the data cache on flash
has not been written. -/
def State.inShadow (s : State) : Bool :=
  s.core.stations.any (fun t => t.shadow && (t.result.isNone || inFlash t.opA.toNat))

/-- The cluster's clock runs and its copies may act: LIT, not in reset, not stopped (R181), no copy-bus window (R33), no
Snuffer-only hold (R69). -/
def State.running (s : State) : Bool :=
  s.lit && !s.core.inReset && !s.core.stopped && s.lock.window.isNone && !s.snf.only

/-- The source of vector `n` runs in power state `p` (Table 1.2): the Snuffer, management, the Wick and power logic and the GP pins
in DIM and EMBER; the Ring, the clocks, the flash controller and the entropy source in DIM only; the CE and the ports in EMBER
only; a software request, the host path and the converters in neither (log entry 129). -/
def vecRuns (p n : Nat) : Bool :=
  p == 5 || ((p == 4 || p == 3) && (n == 32 || n == 33 || n == 48 || n == 51 || n == 52 || (decide (80 ≤ n) && decide (n ≤ 119)))) ||
  (p == 4 && (n == 49 || n == 50 || n == 53 || n == 54 || n == 55)) ||
  (p == 3 && (n == 38 || n == 39 || (decide (64 ≤ n) && decide (n ≤ 79)) || decide (128 ≤ n)))

/-- Sampling is open at the boundary (R121): no load shadow, no debug halt but for a step that takes interrupts (R95), no
hold (R191), and no entry to a power state under way, which a request aborts or does not (R418; log entry 129). -/
def State.samplingOpen (s : State) : Bool :=
  s.running && !s.inShadow && !s.pm.phase && s.core.hold == 0 &&
  (!s.is DBG_STAT_HALTED || (s.core.stepArmed && !s.is DBG_CTL_STEPMASK))

/-- Vector `n` would be taken now, sampling being open (R188). -/
def State.eligible (s : State) (n : Nat) : Bool :=
  let l := s.vecLevel n
  decide (32 ≤ n) && vectorListed n && s.vecReq n && s.is (IC_VCFG_EN n) && s.vbaseEn && decide (levelRank s.level < l + 1) &&
  (l == 8 || s.status 8 4 == 15 || decide (s.status 8 4 < l))

/-- The eligible maskable vector of highest level, the lowest number among equals, over vectors 33 to 33 + n − 1 (R189). -/
def State.bestVec (s : State) : Nat → Option Nat
  | 0 => none
  | n + 1 =>
    let v := 33 + n
    match s.bestVec n with
    | none => if s.eligible v then some v else none
    | some b => if s.eligible v && decide (s.vecLevel b < s.vecLevel v) then some v else some b

/-- The interrupt chosen at an open boundary (R189): the notice first. -/
def State.chosen (s : State) : Option Nat := if s.eligible 32 then some 32 else s.bestVec 223

/-- IACK (R187): the vector is recorded and its software request cleared. -/
def State.iack (s : State) (n : Nat) : State :=
  let s := (s.put IC_STAT_LAST n).bump IC_STAT_COUNT 1
  if 34 ≤ n then s.put (IC_VCFG_SW n) 0 else s

/-- IC_VCFGn as it reads: REQ computed, LVL of vector 33 the Notify level, reserved vectors 0. -/
def State.vcfgView (s : State) (n : Nat) : Word :=
  if !vectorListed n then 0
  else
    let w := putFld (s.rd (IC_VCFG n)) 16 1 (b2n (s.vecReq n))
    if n == 33 then putFld w 0 4 (s.get FLT_CFG_NLVL) else w

/-- Bits `b` below `n` of IC_PENDk: REQ and EN of vector 32k + b. -/
def State.pendView (s : State) (k : Nat) : Nat → Word
  | 0 => 0
  | n + 1 =>
    s.pendView k n |||
    (if vectorListed (32 * k + n) && s.vecReq (32 * k + n) && s.is (IC_VCFG_EN (32 * k + n)) then bit n else 0)

/-- The effect of IC_VCFG_SW (R187): a software request stands until its IACK. -/
def State.vecSoft (s : State) (n : Nat) : State :=
  (if decide (34 ≤ n) && vectorListed n then s.put (IC_VCFG_SW n) 1 else s)

/-- IC_VCFG_SW (R187). -/
def execIcVcfgSw (n : BitVec 8) (s : State) : Res := .next (s.ownCommand (IC_VCFG n.toNat) (fun s => s.vecSoft n.toNat))

end Sys2Proof.Machine
end

