-- ==== Sys2Proof/Machine/Pipe.lean ====
section
/-! DEFINITION. The core pipeline (spec/04) and the entry to handlers (spec/07): time, the store buffer, the reservation
stations, fetch, caches as far as they hold data, taking an exception or interrupt, and the frame in which one instruction
runs, and the transfers of every master that a register command stands for. -/
namespace Sys2Proof.Machine

/-! ## Time -/

/-- The pipeline is in deterministic mode (MODE.DET, R118). -/
def State.det (s : State) : Bool := bitOf (s.csrRaw 0x001) 0

/-- A hold that ends: STATUS.HOLD clears, and IC_HOLDMAX takes the longest delay of the notice (R191). -/
def State.holdEnd (s : State) : State :=
  let s := if s.get ⟨IC_HOLDMAX, 0, 8⟩ < s.core.noticeWait then s.put ⟨IC_HOLDMAX, 0, 8⟩ (min s.core.noticeWait 255) else s
  (s.onCore (fun c => { c with hold := 0, noticeWait := 0 })).putStatus 12 1 0

/-- `k` CCLK pass: the cycle count runs (R141) and a hold in force runs down (R191). -/
def State.advance (s : State) (k : Nat) : State :=
  let h := s.core.hold
  let w := if h != 0 && s.is FLT_STAT_SNOTICE then s.core.noticeWait + min k h else s.core.noticeWait
  let s := s.onCore (fun c => { c with cycle := c.cycle + k, hold := h - k, noticeWait := w })
  if h != 0 && decide (h ≤ k) then s.holdEnd else s

/-- An instruction's time: its Table 5.6 count in deterministic mode (R142), a free number of CCLK up to it in throughput
mode (R144, log entry 9). -/
def State.spend (s : State) (n : Nat) : State :=
  if s.det then s.advance n else s.freed.advance (s.freeVal.toNat % (n + 1))

/-- A wait in X of a length that the spec bounds but does not state: a free number of CCLK up to `n` (log entry 91). -/
def State.waitUpTo (s : State) (n : Nat) : State := s.freed.advance (s.freeVal.toNat % (n + 1))

/-- The fetch of the next instruction and an access to the memory word at `a` fall on one bank (R103; log entry 92). -/
def State.fetchBank (s : State) (a : Nat) : Bool :=
  let n := (s.core.pc + 4).toNat
  (inSram a || inScratch a) && (inSram n || inScratch n) && bankOf a == bankOf n

/-! ## The store buffer -/

/-- A failed end-to-end check (R246): recorded, and fault 0x27 raised. -/
def State.e2eFail (s : State) (m : Master) (a : Nat) (write : Bool) : State := (s.e2eNote m a write).raise (e2eReq a)

/-- A word that the hardware writes for the cluster (a frame, a shadow stack entry): one whose transfer fails its check is not
written (R246). -/
def State.hwStore (s : State) (a : Nat) (w : Word) : State :=
  if s.aimed 0x27 a then s.e2eFail .cluster a true else s.memStore a w

/-- Words that the hardware writes from an address upward. -/
def hwStoreRun : List Word → State → Nat → State
  | [], s, _ => s
  | w :: t, s, a => hwStoreRun t (s.hwStore a w) (a + 4)

/-- STORE_BUFFER_COMMIT (R113, R115, R222): the oldest entry leaves the buffer: a dropped one raises 0x29, a granted one is
written, and an error response raises 0x16. A commit on the bank of a fetch delays it by up to 1 CCLK (R103). -/
def State.sbCommit (s : State) : State :=
  match s.core.sb with
  | [] => s
  | e :: t =>
    let s := s.onCore (fun c => { c with sb := t })
    let s := if !e.dropped && s.running && s.fetchBank e.addr then s.waitUpTo 1 else s
    if e.dropped then
      (s.recordRefusal .cluster .write e.first true e.set e.reason).fault 0x29 e.first
    else if s.aimed 0x16 e.addr then
      (s.injDone 0x16).raise ⟨0x16, BitVec.ofNat 32 e.first, none, true, false⟩
    else if s.aimed 0x27 e.addr then (s.e2eFail .cluster e.addr true).fault 0x16 e.first
    else
      let r := s.memWrite e.addr e.be e.data
      match r.err with
      | none => r.st
      | some _ => r.st.fault 0x16 e.first

/-- The `n` oldest entries leave the buffer. -/
def State.sbCommits (s : State) : Nat → State
  | 0 => s
  | n + 1 => s.sbCommit.sbCommits n

/-- Every entry leaves the buffer (SYNC, R116). -/
def State.sbDrain (s : State) : State := s.sbCommits s.core.sb.length

/-- X waits until the `n` oldest entries have committed: at most L + n CCLK (Table 5.6). -/
def State.sbWait (s : State) (n : Nat) : State := if n = 0 then s else (s.sbCommits n).waitUpTo (s.releaseL + n)

/-- X waits until the buffer is empty (R116). -/
def State.sbSync (s : State) : State := s.sbWait s.core.sb.length

/-- How many entries must leave before no entry of the word `a` stands in the buffer. -/
def sbUntil (a : Nat) : List SbEntry → Nat
  | [] => 0
  | e :: t => let n := sbUntil a t; if n = 0 then (if e.addr = a then 1 else 0) else n + 1

/-- The last granted entry of a word. -/
def sbLast (a : Nat) : List SbEntry → Option SbEntry
  | [] => none
  | e :: t => match sbLast a t with
    | some x => some x
    | none => if e.addr = a && !e.dropped then some e else none

/-- A store merged into the last granted entry of its word, past any dropped one; none where there is no such entry. The entry
keeps the address of the store that made it for DETAIL (log entry 93). -/
def sbMerge (x : SbEntry) : List SbEntry → Option (List SbEntry)
  | [] => none
  | e :: t => match sbMerge x t with
    | some t' => some (e :: t')
    | none =>
      if e.addr = x.addr && !e.dropped then
        some ({ e with be := e.be ||| x.be, data := (e.data &&& ~~~ beMask x.be) ||| (x.data &&& beMask x.be) } :: t)
      else none

/-- A store enters the buffer (R113, R222): it merges into its word's entry where both are granted, else takes a new one; on
a full buffer X waits until the oldest entry has committed. -/
def State.sbPut (s : State) (x : SbEntry) : State :=
  match (if x.dropped then none else sbMerge x s.core.sb) with
  | some sb => s.onCore (fun c => { c with sb := sb })
  | none =>
    let s := if 8 ≤ s.core.sb.length then s.sbWait 1 else s
    s.onCore (fun c => { c with sb := c.sb ++ [x] })

/-- The granted entries of a word cover the byte enables `be`, and no dropped entry covers the word (R114, R223). -/
def State.sbCovers (s : State) (a be : Nat) : Option Word :=
  match sbLast a s.core.sb with
  | some e => if !s.core.sb.any (fun y => y.addr == a && y.dropped) && (e.be &&& be) == be then some e.data else none
  | none => none

/-! ## The data cache -/

/-- The set of a line. -/
def dset (l : Nat) : Nat := l / 32 % 128

/-- The cached line at `l`. -/
def State.dfind (s : State) (l : Nat) : Option DLine := s.core.dcache.find? (fun x => x.addr == l)

/-- A line becomes the most recent of its set; the set keeps two (R111). -/
def State.dtouch (s : State) (x : DLine) : State :=
  let others := s.core.dcache.filter (fun y => y.addr != x.addr)
  let mine := others.filter (fun y => dset y.addr == dset x.addr)
  let rest := others.filter (fun y => dset y.addr != dset x.addr)
  s.onCore (fun c => { c with dcache := x :: mine.take 1 ++ rest })

/-- The data cache loses the lines of a range (R112). -/
def State.dinval (s : State) (lo hi : Nat) : State :=
  s.onCore (fun c => { c with dcache := c.dcache.filter (fun y => decide (y.addr + 32 ≤ lo) || decide (hi ≤ y.addr)) })

/-- A word of a cached line replaced. -/
def DLine.setWord (x : DLine) (a : Nat) (w : Word) : DLine := { x with words := x.words.set ((a - x.addr) / 4) w }

/-- A store that hits updates the line (R111). -/
def State.dstore (s : State) (a be : Nat) (w : Word) : State :=
  match s.dfind (a / 32 * 32) with
  | none => s
  | some x =>
    let old := x.words.getD ((a - x.addr) / 4) 0
    s.dtouch (x.setWord a ((old &&& ~~~ beMask be) ||| (w &&& beMask be)))

/-- A word with the granted buffered stores to its address laid over it, oldest first. -/
def sbOver (a : Nat) (w : Word) : List SbEntry → Word
  | [] => w
  | e :: t => sbOver a (if e.addr = a && !e.dropped then (w &&& ~~~ beMask e.be) ||| (e.data &&& beMask e.be) else w) t

/-- The eight words of a line as a fill brings them in: the memory's words under the stores still buffered (log entry 94). -/
def State.lineWords (s : State) (l : Nat) : List Word :=
  [0, 4, 8, 12, 16, 20, 24, 28].map (fun k => sbOver (l + k) (s.goodWord (l + k)) s.core.sb)

/-- The words of the line at `l` other than `a` are read for a fill, each with its outcome (R230, R242, R243, R246): whether none
is an error. A flash line is one read, which the word at `a` has made. -/
def State.fillReads (s : State) (l a : Nat) : List Nat → State × Bool
  | [] => (s, true)
  | k :: t =>
    if inFlash l || l + k = a then s.fillReads l a t
    else
      let r := s.memReadAt (l + k) (l + k) false false
      let hit := r.err.isNone && r.st.aimed 0x27 (l + k)
      let x := (if hit then r.st.e2eFail .cluster (l + k) false else r.st).fillReads l a t
      (x.1, x.2 && r.err.isNone && !hit)

/-- The fill of the line that holds `a`: a line with a word in error is not cached (log entry 94). -/
def State.lineFill (s : State) (l a : Nat) : State :=
  let x := s.fillReads l a [0, 4, 8, 12, 16, 20, 24, 28]
  if x.2 then x.1.dtouch ⟨l, x.1.lineWords l⟩ else x.1

/-- One aligned word for the cluster from flash, SRAM or scratchpad: from the store buffer where an entry covers it, from
the data cache in throughput mode, else from the memory, which fills the line (R111, R114, R223); the outcome of the memory
comes before the end-to-end check (R230, R246). -/
def State.loadWord (s : State) (a be : Nat) : MemOut :=
  match s.sbCovers a be with
  | some w => ⟨s, w, none⟩
  | none =>
    let s := s.sbWait (sbUntil a s.core.sb)
    let l := a / 32 * 32
    let cached := !s.det && !inScratch a
    match (if cached then s.dfind l else none) with
    | some x => ⟨s.dtouch x, x.words.getD ((a - l) / 4) 0, none⟩
    | none =>
      let r := s.memReadAt a (a + beLow be) false true
      match r.err with
      | some _ => r
      | none =>
        if r.st.aimed 0x27 a then ⟨r.st.e2eFail .cluster a false, 0, none⟩
        else if cached then { r with st := r.st.lineFill l a } else r

/-- The memory word at `a` is read from its bank where the next fetch falls too (R103): no entry of the buffer and no line of
the data cache gives it. -/
def State.conflict (s : State) (a be : Nat) : Nat :=
  b2n (s.fetchBank a && (s.sbCovers a be).isNone && (s.det || inScratch a || (s.dfind (a / 32 * 32)).isNone))

/-! ## Reservation stations -/

/-- The lowest station that is free. -/
def freeStation (l : List Station) : Nat → Nat → Option Nat
  | 0, _ => none
  | k + 1, n => if l.any (fun t => t.n == n) then freeStation l k (n + 1) else some n

/-- The station that an issue would take (R108). -/
def State.stationFree (s : State) : Option Nat := freeStation s.core.stations 8 0

/-- An operation enters its station. -/
def State.addStation (s : State) (t : Station) : State := s.onCore (fun c => { c with stations := c.stations ++ [t] })

/-- A station's operation is gone. -/
def State.dropStation (s : State) (n : Nat) : State :=
  s.onCore (fun c => { c with stations := c.stations.filter (fun t => t.n != n) })

/-- A result is written to its destination: a general register, or an accumulator through both ports (R107). -/
def State.writeDest (s : State) (d : Nat) (v : BitVec 64) : State :=
  if d < 32 then s.setReg d (v.setWidth 32) else s.setAcc (d - 32) v

/-- A CHWAIT with d = 1 writes its data to ac1 and its status to rd (R139): the station keeps the data in `opA` and `opB`; a
status of 0xFFFE brings none. -/
def State.landOne (s : State) (t : Station) (v : BitVec 64) : State :=
  let s := if t.kind == .chwait && t.mode == 1 && decide (v.toNat % 65536 < 0xFFFE) then s.setAcc 1 (t.opB ++ t.opA) else s
  (s.writeDest t.dest v).dropStation t.n

/-- The known results of the stations in a list that a test selects are written (R106, R107). -/
def State.landList (s : State) (p : Station → Bool) : List Station → State
  | [] => s
  | t :: r =>
    match t.result with
    | some v => if p t && !t.micro then (s.landOne t v).landList p r else s.landList p r
    | none => s.landList p r

/-- The known results of the stations that a test selects are written. -/
def State.land (s : State) (p : Station → Bool) : State := s.landList p s.core.stations

/-- The most CCLK that X can wait for a station's result (Table 4.3): a divide 18, a MAC 3, and the 65,536 of R110 where the
time is not fixed. -/
def stWait (t : Station) : Nat :=
  match t.kind with
  | .div => 18
  | .mac => 3
  | .load => if inFlash t.opA.toNat && t.shadow then 8 else 65536
  | _ => 65536

/-- X waits for the known results of the stations that a test selects, and they are written: a free number of CCLK up to the
longest of Table 4.3 (log entry 91). -/
def State.landAfter (s : State) (p : Station → Bool) : State :=
  match s.core.stations.filter (fun t => p t && t.result.isSome && !t.micro) with
  | [] => s
  | ts => (s.waitUpTo (ts.foldl (fun k t => max k (stWait t)) 0)).land p

/-- With every station busy X waits for the known results (R108). -/
def State.makeRoom (s : State) : State := if s.stationFree.isNone then s.landAfter (fun _ => true) else s

/-- One divider: a divide that is not written yet is waited for (Table 4.3). -/
def State.divWait (s : State) : State := s.landAfter (fun t => t.kind == .div)

/-- A station's destination is among the registers needed, w0 never; CHWAIT with d = 1 also holds ac1 (33). -/
def needs (l : List Nat) (t : Station) : Bool :=
  (t.dest != 0 && l.contains t.dest) || (t.kind == .chwait && t.mode == 1 && l.contains 33)

/-- No register needed waits on a result still unknown (R106). -/
def State.ready (s : State) (l : List Nat) : Bool :=
  s.core.stations.all (fun t => !needs l t || t.result.isSome)

/-- The stations whose results X waits for before an instruction that names the registers `l` (R106, R109, Table 4.4). -/
def State.awaited (s : State) (l : List Nat) (t : Station) : Bool :=
  t.result.isSome && !t.micro && (needs l t || t.shadow || (s.det && t.kind != .chissue))

/-- X waits for the results it needs: a free number of CCLK up to the longest of Table 4.3 (log entry 91). -/
def State.landWait (s : State) (l : List Nat) : State :=
  match s.core.stations.filter (s.awaited l) with
  | [] => s
  | ts => s.waitUpTo (ts.foldl (fun k t => max k (stWait t)) 0)

/-- TAGSTAT (spec/04). -/
def State.tagstat (s : State) : Word :=
  let l := s.core.stations.filter (fun t => t.kind != .store)
  let b := l.foldl (fun w t => w ||| bit t.n ||| (if t.kind == .chwait then bit (8 + t.n) else 0)) 0
  let old := match l with
    | t :: _ => t.n
    | [] => 0
  b ||| BitVec.ofNat 32 (old * 65536 + b2n s.inShadow * 2 ^ 19 +
    b2n (s.core.stations.any (fun t => t.kind == .div)) * 2 ^ 20 + min s.core.sb.length 8 * 2 ^ 21)

/-! ## Fetch -/

/-- A line becomes the most recent of its set in the instruction cache, which keeps four lines a set (R101). -/
def icFill (ic : List Nat) (x : Nat) : List Nat :=
  let same := ic.filter (fun y => dset y == dset x && y != x)
  x :: (same.take 3 ++ ic.filter (fun y => dset y != dset x))

/-- A line becomes the most recent of the four line buffers (one in deterministic mode); a buffer replaced fills the
instruction cache (R99–R101). -/
def State.lineIn (s : State) (l : Nat) : State :=
  let keep := (s.core.lines.filter (fun x => x != l)).take (if s.det then 0 else 3)
  let out := (s.core.lines.filter (fun x => x != l)).drop (if s.det then 0 else 3)
  let fill := if s.det then [] else out
  s.onCore (fun c => { c with lines := l :: keep, icache := fill.foldl icFill s.core.icache })

/-- A flash line is in a line buffer, or in throughput mode in the instruction cache. -/
def State.lineHeld (s : State) (l : Nat) : Bool := s.core.lines.contains l || (!s.det && s.core.icache.contains l)

/-- A held line becomes the most recent where it is held (R100, R101). -/
def State.lineUse (s : State) (l : Nat) : State :=
  s.onCore (fun c => if c.lines.contains l then { c with lines := l :: c.lines.filter (fun x => x != l) }
    else { c with icache := icFill c.icache l })

/-- A flash line is read for a line buffer (R230, R246); whether it is kept. -/
def State.lineRead (s : State) (l : Nat) : State × Bool :=
  let r := s.memRead l false false
  if r.err.isSome then (r.st, false)
  else match [0, 4, 8, 12, 16, 20, 24, 28].find? (fun k => r.st.aimed 0x27 (l + k)) with
    | some k => (r.st.e2eFail .cluster (l + k) false, false)
    | none => (r.st, true)

/-- Fetch has entered the flash line `l`: in throughput mode the next sequential line is requested into a line buffer where it
is not held (R100). The read is checked as any other (R230); a line in error is not kept, and the map is asked at the words
themselves (spec/05, Edges). -/
def State.fetchAhead (s : State) (l : Nat) : State :=
  let n := l + 32
  let t := s.onCore (fun c => { c with lastLine := some l })
  if s.det || s.core.lastLine == some l || !inFlash n || s.lineHeld n || s.unreachable .cluster n then t
  else
    let r := t.lineRead n
    if r.2 then ((r.1.lineIn n).lineUse l).onCore (fun c => { c with ahead := some (n, c.cycle + 6) }) else r.1

/-- The CCLK that fetch adds before the instruction at `a` in deterministic mode (R143): 6 for a flash line not buffered. -/
def State.fetchCost (s : State) (a : Nat) : Nat := if inFlash a && !s.core.lines.contains (a / 32 * 32) then 6 else 0

/-- The CCLK that it adds in throughput mode (Table 4.1): 6 for a flash line neither buffered nor cached, the rest of its read for
one requested ahead, none for another. -/
def State.fetchExtra (s : State) (a : Nat) : Nat :=
  if !inFlash a then 0
  else if !s.lineHeld (a / 32 * 32) then 6
  else match s.core.ahead with
    | some (l, t) => if l = a / 32 * 32 then min (t - s.core.cycle) 6 else 0
    | none => 0

/-- The CCLK that fetch adds before the instruction at `a`, or the most of them. -/
def State.fetchAdds (s : State) (a : Nat) : Nat := if s.det then s.fetchCost a else s.fetchExtra a

/-- What fetch found for the instruction in X: it may run, its word was replaced by 0 at a failed end-to-end check (R246), or
the precise exception its fetch takes (Table 8.3, R243). -/
inductive FetchOut where
  | ok (s : State)
  | zero (s : State)
  | bad (s : State) (id sub addr : Nat) (raised : Bool)
  deriving DecidableEq

/-- The words that fetch has read from a memory reach X, or the read's fault is the instruction's. -/
def FetchOut.ofRead (a : Nat) (r : MemOut) (k : State → State) : FetchOut :=
  match r.err with
  | some id => .bad r.st id 0 a true
  | none => if r.st.aimed 0x27 (a / 4 * 4) then .zero (r.st.e2eFail .cluster (a / 4 * 4) false) else .ok (k r.st)

/-- The instruction word at the pc is fetched (R99): refused by the map or the memory map with 0x28 SUB 2, unreadable with
the memory's own fault. -/
def State.fetch (s : State) : FetchOut :=
  let a := s.core.pc.toNat
  let l := a / 32 * 32
  let why := if inFlash a || inSram a || inScratch a then s.refusal .cluster .fetch a else some 3
  match why with
  | some r => .bad (s.recordRefusal .cluster .fetch a false s.pset r) 0x28 2 a false
  | none =>
    if inFlash a then
      (if s.lineHeld l then .ok ((s.lineUse l).fetchAhead l)
       else .ofRead a (s.memRead a false true) (fun t => (t.lineIn l).fetchAhead l))
    else .ofRead a (s.memRead a false true) (fun t => t.onCore (fun c => { c with lastLine := none }))

/-- Caches, line buffers and BTB are invalidated (R117, R120). -/
def State.fetchInval (s : State) : State := s.onCore (fun c => { c with icache := [], lines := [], btb := [], lastLine := none, ahead := none })

/-! ## Entering a handler -/

/-- The vector of an exception's fault (Table 7.2). -/
def excVector (id : Nat) : Option Nat :=
  if id == 0x10 then some 1 else if id == 0x11 then some 2 else if id == 0x12 then some 3 else if id == 0x13 then some 4
  else if id == 0x14 then some 5 else if id == 0x17 then some 6 else if id == 0x18 then some 7 else if id == 0x1A then some 8
  else if id == 0x28 then some 9 else if id == 0x21 then some 10 else if id == 0x22 then some 11
  else if id == 0x24 then some 12 else if id == 0x26 then some 13 else none

/-- The level an exception enters at (R184): its vector's level where that exceeds the current level, else the next one, or 8
from 7 and 8. -/
def excLevel (c v : Nat) : Nat :=
  if levelRank c < v + 1 then v else if c = 7 || c = 8 then 8 else c + 1

/-- The CSR number of a save-set word (R145). -/
def saveCsr (level k : Nat) : Nat := 0x100 + 8 * level + k

/-- SMS2 of a checkpoint (Table 6.8). -/
def Checkpoint.sms2 (c : Checkpoint) : Word :=
  BitVec.ofNat 32 (2 ^ 30 + c.sel % 8 * 2 ^ 25 + c.loop % 256 * 2 ^ 17 + c.flags % 16 * 2 ^ 13 + c.upc % 8192)

/-- SMS0 to SMS2 of the entry: the original routine's checkpoint (R159, R164), a divide record (Table 4.6), or nothing. -/
def State.entrySms (s : State) : Word × Word × Word :=
  match (match s.core.frame1 with
    | some c => some c
    | none => match s.core.micro with
      | some m => m.ck
      | none => none) with
  | some c => (c.sms0, c.sms1, c.sms2)
  | none =>
    match s.core.stations.find? (fun t => t.kind == .div && !t.micro && t.younger) with
    | some t => (t.opA, t.opB,
        BitVec.ofNat 32 (2 ^ 31 + t.dest % 32 + b2n t.signed * 32 + b2n t.rem * 64))
    | none => (0, 0, 0)

/-- The precise point's address: that of a divide with no younger instruction retired, which runs again (R125), else the
pc, which is the XOP's while its routine runs (R159). -/
def State.precisePc (s : State) : Word :=
  if s.core.micro.isSome then s.core.pc else match s.core.stations.find? (fun t => t.kind == .div && !t.micro && !t.younger) with
  | some t => t.at'
  | none => s.core.pc

/-- A micro-routine in progress, or its micro-trap frame, has a checkpoint to resume from (R158, R164). -/
def State.resumable (s : State) : Bool :=
  s.core.frame1.isSome || (match s.core.micro with
    | some m => m.ck.isSome
    | none => false)

/-- The divide in progress, a store that waits in X and the stations of an abandoned micro-routine are gone (R123, R125); a routine
that resumes later keeps the stations it issued before its checkpoint (R160), each with the cycle count at which its result is
there. -/
def State.abandon (s : State) : State :=
  let keep := s.resumable
  let l := s.level
  let words := (s.core.micro.map (fun m => m.words)).getD 0
  s.onCore (fun c => { c with
    stations := (c.stations.filter (fun t => if t.micro then t.level != l || (keep && t.kept) else t.kind != .div && t.kind != .store)).map
      (fun t => if t.micro && t.level == l then { t with due := c.cycle + (t.due - words) } else t)
    micro := none, frame1 := none, frame2 := none })

/-- A word that hardware reads on its own account, without the map (R209); one that cannot be read answers none. -/
def State.hwRead (s : State) (a : Nat) : State × Option Word :=
  if s.unreachable .cluster a then (s, none)
  else
    let r := s.memRead a false false
    if r.err.isSome then (r.st, none)
    else if r.st.aimed 0x27 a then (r.st.e2eFail .cluster a false, some 0)
    else (r.st, some r.data)

/-- Words read upward on hardware's own account; none where one cannot be read. -/
def State.hwReads (s : State) (a : Nat) : Nat → State × Option (List Word)
  | 0 => (s, some [])
  | n + 1 =>
    let r := s.hwRead a
    let t := r.1.hwReads (a + 4) n
    (t.1, match r.2, t.2 with
      | some w, some ws => some (w :: ws)
      | _, _ => none)

/-- Up to eight words of one 32-byte line read upward on hardware's own account: from flash in one line read (R200, R230). -/
def State.hwLine (s : State) (a n : Nat) : State × Option (List Word) :=
  if !inFlash a then s.hwReads a n
  else
    let r := s.hwRead a
    (r.1, match r.2 with
      | some w => some (w :: (List.range (n - 1)).map (fun k => s.goodWord (a + 4 * (k + 1))))
      | none => none)

/-- The first line of a handler in flash is fetched inside the slot (R122); one that fetch would be refused or finds in error
is left to the fetch of its instruction. -/
def State.handlerLine (s : State) (h : Nat) : State :=
  if !inFlash h || (s.refusal .cluster .fetch h).isSome || s.lineClass (h / 32 * 32) == .bad ||
    s.lineClass (h / 32 * 32) == .wrongAddr then s
  else
    let r := s.lineRead (h / 32 * 32)
    if r.2 then r.1.lineIn (h / 32 * 32) else r.1

/-- The handler's stack pointer by SSEL (Table 7.1). -/
def State.ssel (s : State) (w1 : Word) (base : Bool) : State :=
  let sel := fld w1 4 2
  if sel = 1 || (sel = 2 && base) then s.setReg 29 (BitVec.ofNat 32 (0x18000000 + 4 * fld w1 16 14)) else s

/-- The entry of vector `v` at `level` through the 14 CCLK slot (R122, R185, R186, R191): the save set is written, STATUS
takes the level and the entry's mask, the handler table entry gives address, stack and hold. A table entry that cannot be
read stops issue (spec/07, Edges). -/
def State.enter (s : State) (v level fid sub : Nat) (addr : Option Nat) : State :=
  let old := s.csrRaw 0x000
  let base := s.level == 15
  let nest := fid != 0 && level == 8 && s.level == 8
  let sms := s.entrySms
  let spc := s.precisePc
  let cause := BitVec.ofNat 32 (v + fid * 256 + sub * 65536 + b2n nest * 2 ^ 20 + b2n addr.isSome * 2 ^ 21)
  let s := (((s.csrPut (saveCsr level 0) spc).csrPut (saveCsr level 1) old).csrPut (saveCsr level 2) cause).csrPut
    (saveCsr level 3) (s.reg 29)
  let s := ((s.csrPut (saveCsr level 4) sms.1).csrPut (saveCsr level 5) sms.2.1).csrPut (saveCsr level 6) sms.2.2
  let s := (s.abandon.iack v).putStatus 0 4 level
  let s := match addr with
    | some a => s.wr (IC_XADDR level) (BitVec.ofNat 32 a)
    | none => s
  let t := (s.csrRaw 0x010).toNat / 2048 * 2048 + 8 * v
  let r := s.hwReads t 2
  let s := (r.1.advance 14).onCore (fun c => { c with wfi := false, bpPass := none })
  match r.2 with
  | some [w0, w1] =>
    let m := fld w1 0 4
    let s := if m = 15 then s else s.putStatus 8 4 (min m 7)
    let s := s.ssel w1 base
    let h := min (fld w1 8 8) (fld (s.csrRaw 0x013) 0 8)
    let s := (s.onCore (fun c => { c with
      pc := w0 &&& 0xFFFFFFFC, hold := h, noticeWait := 0 })).putStatus 12 1 (b2n (h != 0))
    s.handlerLine (w0 &&& 0xFFFFFFFC).toNat
  | _ => s.onCore (fun c => { c with stopped := true })

/-- A reset or a LIMP entry has come between `s` and `t`. -/
def State.cut (s t : State) : Bool := t.core.inReset || (t.limp && !s.limp)

/-- A reset or a LIMP entry during an instruction leaves nothing of it in the cluster (R37, R68); `t` is the state after it. -/
def State.settle (s t : State) : State :=
  if t.core.inReset then t.coreReset true else if t.limp && !s.limp then t.coreReset false else t

/-- The snuff notice would be taken at the boundary. -/
def State.noticeDue (s : State) : Bool := s.samplingOpen && s.eligible 32

/-- Taking a precise exception (R181, R184, R190): the fault is captured; the snuff notice goes first where it is eligible
at the boundary; with VBASE.EN 0 issue stops; a warm reset that the fault's class brought leaves nothing to enter. The
boundary stands after the cycle in which the instruction in X was found faulty (log entry 9). `raised`
says that the memory target has raised the fault already, and whether the notice was due before it did: a fault's own notice
does not go before its exception (R189). -/
def State.takeException (s : State) (id sub detail : Nat) (addr : Option Nat) (raised : Option Bool) : State :=
  let notice := raised.getD s.noticeDue
  let t := if raised.isSome then s else s.faultPrecise id detail
  if s.cut t then t
  else s.settle (
    if !t.vbaseEn then t.onCore (fun c => { c with stopped := true })
    else if notice then (t.advance 1).enter 32 8 0 0 none
    else match excVector id with
      | some v => (t.advance 1).enter v (excLevel t.level (t.vecLevel v)) id sub addr
      | none => t)

/-! ## The frame of one instruction -/

/-- Debug has the copies halted and no step is under way. -/
def State.haltHolds (s : State) : Bool := s.is DBG_STAT_HALTED && !s.core.stepArmed

/-- X can take the next instruction: the cluster runs, no debug halt, no WFI waiting, no micro-routine and no store to a Ring
window in X, no load in a shadow unanswered, and in deterministic mode no station operation but CHISSUE awaited (Table 4.4). -/
def State.canIssue (s : State) : Bool :=
  s.running && !s.haltHolds && !s.core.wfi && s.core.micro.isNone &&
  s.core.stations.all (fun t => t.result.isSome || !(t.shadow || t.kind == .store || (s.det && t.kind != .chissue)))

/-- An instruction that X cannot take yet waits one CCLK (R106, R108, R109, R140; log entry 91); nothing waits in X while the
copies do not run, or behind a micro-routine. -/
def State.stall (s : State) : State := if s.running && !s.haltHolds && s.core.micro.isNone then s.advance 1 else s

/-- Every copy halts before the instruction in X with a cause (R95). -/
def State.halt (s : State) (cause : Nat) : State :=
  ((s.put DBG_STAT_HALTED 1).put DBG_STAT_CAUSE cause).put DBG_CTL_HALTREQ 0

/-- An enabled breakpoint names the address. -/
def State.bpHit (s : State) (a : Word) : Bool :=
  [0, 1, 2, 3].any (fun n => s.is (DBG_BP_EN n) && s.get (DBG_BP_ADDR n) == a.toNat / 4)

/-- The instruction in X stops at a breakpoint (R95), but not where a step or the resume from a halt at it lets it run (log
entry 95). -/
def State.bpStops (s : State) : Bool :=
  !s.core.stepArmed && s.core.bpPass != some s.core.pc && s.bpHit s.core.pc

/-- A debug step ends: every copy halts again (R95). A routine that holds in the sequencer has not ended its instruction. -/
def State.stepEnd (s : State) : State :=
  if !s.core.stepArmed || s.core.micro.isSome then s
  else (((s.onCore (fun c => { c with stepArmed := false })).put DBG_STAT_HALTED 1).put DBG_STAT_CAUSE 3).put DBG_CTL_STEP 0

/-- An instruction has retired past the divides in progress (R125) and past the breakpoint that a resume let it pass. -/
def State.passDivides (s : State) : State :=
  s.onCore (fun c => { c with stations := c.stations.map (fun t => { t with younger := true }), bpPass := none })

/-- The instruction retires and the next one follows in sequence after `n` CCLK and any line crossing (R143). -/
def State.retireSeq (s : State) (n : Nat) : State :=
  let nxt := s.core.pc + 4
  ((s.spend (n + s.fetchAdds nxt.toNat)).passDivides).onCore (fun c => { c with pc := nxt })

/-- An instruction of no fixed count retires: the CCLK it takes are a free value (Table 5.6). -/
def State.retireOpen (s : State) : State :=
  let nxt := s.core.pc + 4
  ((s.freed.advance (s.freeVal.toNat % 65536)).passDivides).onCore (fun c => { c with pc := nxt })

/-- The instruction retires and transfers to `t` after `n` CCLK; in deterministic mode a transfer empties the line buffer
(R143). -/
def State.retireTo (s : State) (n : Nat) (t : Word) : State :=
  let s := if s.det then s.onCore (fun c => { c with lines := [] }) else s
  ((s.spend (n + s.fetchAdds t.toNat)).passDivides).onCore (fun c => { c with pc := t })

/-- In throughput mode the instruction is followed by the one at `t` after exactly `n` CCLK and what the read of its flash line
adds (R102). -/
def State.retireAt (s : State) (n : Nat) (t : Word) : State :=
  ((s.advance (n + s.fetchExtra t.toNat)).passDivides).onCore (fun c => { c with pc := t })

/-- The exception of an access that the instruction has made since `s`: none where the fault it raised brought a reset or
LIMP (R37, R68). -/
def State.excSince (t s : State) (id sub addr : Nat) (raised : Bool) : State :=
  if s.cut t then t else t.takeException id sub addr (some addr) (if raised then some s.noticeDue else none)

/-- An exception of the instruction in X that carries no access address: DETAIL is its pc (Table 2.5). -/
def State.trap (s : State) (id sub : Nat) : State := s.takeException id sub s.core.pc.toNat none none

/-- One instruction in X (R95, R104–R106, R114): where X cannot take it, or a register it needs waits on an unknown result,
it waits; a breakpoint at it halts the copies; otherwise the known results it waits for are written, the fetch is judged, and
the instruction runs. The word 0 that a failed end-to-end check delivers is ADD w0, w0, w0 (Table 5.4). -/
def State.instr (s : State) (l : List Nat) (body : State → State) : State :=
  if !s.canIssue || !s.ready l then s.stall
  else if s.bpStops then s.halt 1
  else
    let s := s.landWait l
    let s := if s.det then s.land (fun _ => true) else s.land (fun t => needs l t || t.shadow)
    match s.fetch with
    | .bad t id sub a raised => (s.settle (t.excSince s id sub a raised)).stepEnd
    | .zero t => (s.settle (if s.cut t then t else t.retireSeq 1)).stepEnd
    | .ok f => (s.settle (if s.cut f then f else body f)).stepEnd

/-! ## Transfers that a register command stands for -/

/-- A master that can issue a transfer now (R29–R31, R69, R209): the cluster while it runs an instruction, the CE and the mover
in LIT and EMBER, the host in LIT, the management port from EMBER up, the Ring while its links run, debug while the TAP works,
the Lamplighter while the cores are held in reset; the Snuffer writes log entries only. -/
def State.issues (s : State) (m : Master) : Bool :=
  !s.snf.only && (match m with
    | .cluster => s.running && !s.haltHolds && !s.core.wfi
    | .ce | .mover => (s.pstate == 5 || s.pstate == 3) && !s.core.inReset && !s.limp
    | .host => s.lit
    | .mgmt => decide (3 ≤ s.pstate)
    | .ring => s.linksOn
    | .debug => s.tapOn
    | .lamp => s.core.inReset
    | .snufLog => false)

/-- An address that no range of Table 1.4 holds. -/
def nowhere (a : Nat) : Bool := !(inFlash a || inSram a || inScratch a || inPeriph a || inRingWin a)

/-- A transfer of a master to a peripheral register (R7, R10, R134, R221, R224, R246): carried out, or refused; a read whose
data is disturbed has had its effect and answers 0. A register
command reaches no memory and no Ring window. -/
def State.regAccess (s : State) (m : Master) (write : Bool) (a : Nat) (sz : Size) (f : State → State) : State :=
  let k : AccKind := if write then .write else .read
  if !s.issues m || !(inPeriph a || nowhere a) then s
  else match (if crosses a sz.bytes then some 3 else s.refusal m k a) with
    | some r =>
      if m == .cluster then (s.recordRefusal m k a false s.pset r).takeException 0x28 (b2n write) a (some a) none
      else s.refuseOther m k a r
    | none => if s.aimed 0x27 (a / 4 * 4) then (if write then s else (f s).answer 0).e2eFail m (a / 4 * 4) write else f s

/-- A write of the register at `a`, a full word, by a command of its own. -/
def State.regCommand (s : State) (m : Master) (a : Nat) (f : State → State) : State :=
  s.regAccess m true a .word (fun s => s.rowWrite m a f)

/-- A master's write of the register at `a` is carried out: the master issues it, nothing refuses or disturbs it, and the
register's row admits it. -/
def State.admits (s : State) (m : Master) (a : Nat) : Bool :=
  s.issues m && inPeriph a && a % 4 == 0 && s.refusal m .write a == none && !s.aimed 0x27 a && !s.writeIgnored m a

end Sys2Proof.Machine
end

