-- ==== Sys2Proof/Machine/Alu.lean ====
section
/-! DEFINITION. The arithmetic instructions (spec/05, R131–R133): the operations on words, and one meaning per
instruction. -/
namespace Sys2Proof.Machine

/-! ## Operations on words -/

/-- 1 for true, 0 for false, as a word. -/
def boolWord (b : Bool) : Word := if b then 1 else 0

/-- The shift amount in the low five bits (R131). -/
def shAmt (w : Word) : Nat := w.toNat % 32

/-- Signed less than. -/
def sltB (a b : Word) : Bool := a.slt b

/-- Unsigned less than. -/
def ultB (a b : Word) : Bool := a.ult b

/-- The high word of the signed 64-bit product (R132). -/
def mulHigh (a b : Word) : Word := (a.signExtend 64 * b.signExtend 64).extractLsb' 32 32

/-- The high word of the unsigned 64-bit product (R132). -/
def mulHighU (a b : Word) : Word := (a.setWidth 64 * b.setWidth 64).extractLsb' 32 32

/-- The result of a divide (R133): quotient or remainder, signed or unsigned, with the two fixed cases. -/
def divide (signed rem : Bool) (a b : Word) : Word :=
  if b = 0 then (if rem then a else 0xFFFFFFFF)
  else if signed then
    (if a = 0x80000000 && b = 0xFFFFFFFF then (if rem then 0 else 0x80000000)
     else if rem then a.srem b else a.sdiv b)
  else if rem then a.umod b else a.udiv b

/-- The accumulator after adding a product (R132). -/
def macSum (signed : Bool) (acc : BitVec 64) (a b : Word) : BitVec 64 :=
  acc + (if signed then a.signExtend 64 * b.signExtend 64 else a.setWidth 64 * b.setWidth 64)

/-! ## The shapes of an instruction -/

/-- An instruction that writes a function of two registers to a third. -/
def State.alu3 (s : State) (n : Nat) (rd ra rb : Reg) (f : Word → Word → Word) : State :=
  s.instr [rd.toNat, ra.toNat, rb.toNat] (fun s =>
    (s.setReg rd.toNat (f (s.reg ra.toNat) (s.reg rb.toNat))).retireSeq n)

/-- An instruction that writes a function of one register to another. -/
def State.alu2 (s : State) (rd ra : Reg) (f : Word → Word) : State :=
  s.instr [rd.toNat, ra.toNat] (fun s => (s.setReg rd.toNat (f (s.reg ra.toNat))).retireSeq 1)

/-- An operation that leaves X for a station with its result known (Table 4.3); in deterministic mode X waits for it
(Table 4.4). With every station busy the known results are written first; where none is known X waits (R108). -/
def State.stationOp (s : State) (t : Nat → Station) (v : BitVec 64) (inX det : Nat) : State :=
  let dest := (t 0).dest
  if s.det then (s.writeDest dest v).retireSeq det
  else
    let s := s.makeRoom
    match s.stationFree with
    | none => s.stall
    | some n => (s.retireSeq inX).addStation (t n)

/-- A divide (R133, Table 4.3): one divider, so a divide still unwritten is written first; 18 CCLK to the result. -/
def State.divOp (s : State) (signed rem : Bool) (rd ra rb : Reg) : State :=
  s.instr [rd.toNat, ra.toNat, rb.toNat] (fun s =>
    let s := s.divWait
    let a := s.reg ra.toNat
    let b := s.reg rb.toNat
    let v := (divide signed rem a b).setWidth 64
    let at' := s.core.pc
    let lvl := s.level
    s.stationOp (fun n => ⟨n, .div, rd.toNat, some v, lvl, 0, a, b, signed, rem, at', false, false, false, 0, 0, false⟩) v 1 18)

/-- A multiply-accumulate (R132, Table 4.3). -/
def State.macOp (s : State) (signed : Bool) (ac : BitVec 1) (ra rb : Reg) : State :=
  s.instr [32 + ac.toNat, ra.toNat, rb.toNat] (fun s =>
    let v := macSum signed (s.acc ac.toNat) (s.reg ra.toNat) (s.reg rb.toNat)
    let at' := s.core.pc
    let lvl := s.level
    s.stationOp (fun n => ⟨n, .mac, 32 + ac.toNat, some v, lvl, 0, 0, 0, signed, false, at', false, false, false, 0, 0, false⟩) v 2 3)

/-! ## The instructions -/

/-- ADD (R131): rd receives ra plus rb modulo 2^32. -/
def execAdd (rd ra rb : Reg) (s : State) : Res := .next (s.alu3 1 rd ra rb (fun a b => a + b))

/-- SUB (R131): rd receives ra minus rb modulo 2^32. -/
def execSub (rd ra rb : Reg) (s : State) : Res := .next (s.alu3 1 rd ra rb (fun a b => a - b))

/-- AND (R131): rd receives the bitwise AND of ra and rb. -/
def execAndr (rd ra rb : Reg) (s : State) : Res := .next (s.alu3 1 rd ra rb (fun a b => a &&& b))

/-- OR (R131): rd receives the bitwise OR of ra and rb. -/
def execOrr (rd ra rb : Reg) (s : State) : Res := .next (s.alu3 1 rd ra rb (fun a b => a ||| b))

/-- XOR (R131): rd receives the bitwise XOR of ra and rb. -/
def execXorr (rd ra rb : Reg) (s : State) : Res := .next (s.alu3 1 rd ra rb (fun a b => a ^^^ b))

/-- NOR (R131): rd receives the bitwise NOR of ra and rb. -/
def execNor (rd ra rb : Reg) (s : State) : Res := .next (s.alu3 1 rd ra rb (fun a b => ~~~ (a ||| b)))

/-- SHL (R131): rd receives ra shifted left by rb[4:0]. -/
def execShl (rd ra rb : Reg) (s : State) : Res := .next (s.alu3 1 rd ra rb (fun a b => a <<< shAmt b))

/-- SHR (R131): rd receives ra shifted right logically by rb[4:0]. -/
def execShr (rd ra rb : Reg) (s : State) : Res := .next (s.alu3 1 rd ra rb (fun a b => a >>> shAmt b))

/-- SAR (R131): rd receives ra shifted right arithmetically by rb[4:0]. -/
def execSar (rd ra rb : Reg) (s : State) : Res := .next (s.alu3 1 rd ra rb (fun a b => a.sshiftRight (shAmt b)))

/-- ROR (R131): rd receives ra rotated right by rb[4:0]. -/
def execRor (rd ra rb : Reg) (s : State) : Res := .next (s.alu3 1 rd ra rb (fun a b => a.rotateRight (shAmt b)))

/-- SLT (R131): rd receives 1 if ra is signed less than rb, else 0. -/
def execSlt (rd ra rb : Reg) (s : State) : Res := .next (s.alu3 1 rd ra rb (fun a b => boolWord (sltB a b)))

/-- SLTU (R131): rd receives 1 if ra is unsigned less than rb, else 0. -/
def execSltu (rd ra rb : Reg) (s : State) : Res := .next (s.alu3 1 rd ra rb (fun a b => boolWord (ultB a b)))

/-- SEQ (R131): rd receives 1 if ra equals rb, else 0. -/
def execSeq (rd ra rb : Reg) (s : State) : Res := .next (s.alu3 1 rd ra rb (fun a b => boolWord (a == b)))

/-- MIN (R131): rd receives the signed minimum of ra and rb. -/
def execMin (rd ra rb : Reg) (s : State) : Res := .next (s.alu3 1 rd ra rb (fun a b => if sltB b a then b else a))

/-- MAX (R131): rd receives the signed maximum of ra and rb. -/
def execMax (rd ra rb : Reg) (s : State) : Res := .next (s.alu3 1 rd ra rb (fun a b => if sltB a b then b else a))

/-- MINU (R131): rd receives the unsigned minimum of ra and rb. -/
def execMinu (rd ra rb : Reg) (s : State) : Res := .next (s.alu3 1 rd ra rb (fun a b => if ultB b a then b else a))

/-- MAXU (R131): rd receives the unsigned maximum of ra and rb. -/
def execMaxu (rd ra rb : Reg) (s : State) : Res := .next (s.alu3 1 rd ra rb (fun a b => if ultB a b then b else a))

/-- MUL (R132): rd receives the low 32 bits of ra times rb in 2 CCLK. -/
def execMul (rd ra rb : Reg) (s : State) : Res := .next (s.alu3 2 rd ra rb (fun a b => a * b))

/-- MULH (R132): rd receives the high 32 bits of the signed 64-bit product. -/
def execMulh (rd ra rb : Reg) (s : State) : Res := .next (s.alu3 2 rd ra rb (fun a b => mulHigh a b))

/-- MULHU (R132): rd receives the high 32 bits of the unsigned 64-bit product. -/
def execMulhu (rd ra rb : Reg) (s : State) : Res := .next (s.alu3 2 rd ra rb (fun a b => mulHighU a b))

/-- DIV (R133): A signed divide issues to a station and writes the quotient 18 CCLK later. -/
def execDiv (rd ra rb : Reg) (s : State) : Res := .next (s.divOp true false rd ra rb)

/-- DIVU (R133): An unsigned divide writes the quotient 18 CCLK after issue. -/
def execDivu (rd ra rb : Reg) (s : State) : Res := .next (s.divOp false false rd ra rb)

/-- REM (R133): A signed divide writes the remainder 18 CCLK after issue. -/
def execRem (rd ra rb : Reg) (s : State) : Res := .next (s.divOp true true rd ra rb)

/-- REMU (R133): An unsigned divide writes the remainder 18 CCLK after issue. -/
def execRemu (rd ra rb : Reg) (s : State) : Res := .next (s.divOp false true rd ra rb)

/-- MAC (R132): The signed 64-bit product of ra and rb is added to accumulator rd. -/
def execMac (ac : BitVec 1) (ra rb : Reg) (s : State) : Res := .next (s.macOp true ac ra rb)

/-- MACU (R132): The unsigned 64-bit product of ra and rb is added to accumulator rd. -/
def execMacu (ac : BitVec 1) (ra rb : Reg) (s : State) : Res := .next (s.macOp false ac ra rb)

/-- ACRL (R132): rd receives the low word of the accumulator. -/
def execAcrl (rd : Reg) (ac : BitVec 1) (s : State) : Res :=
  .next (s.instr [rd.toNat, 32 + ac.toNat] (fun s => (s.setReg rd.toNat ((s.acc ac.toNat).extractLsb' 0 32)).retireSeq 1))

/-- ACRH (R132): rd receives the high word of the accumulator. -/
def execAcrh (rd : Reg) (ac : BitVec 1) (s : State) : Res :=
  .next (s.instr [rd.toNat, 32 + ac.toNat] (fun s => (s.setReg rd.toNat ((s.acc ac.toNat).extractLsb' 32 32)).retireSeq 1))

/-- ACW (R132): the accumulator receives ra as low word and rb as high word. -/
def execAcw (ac : BitVec 1) (ra rb : Reg) (s : State) : Res :=
  .next (s.instr [32 + ac.toNat, ra.toNat, rb.toNat] (fun s =>
    (s.setAcc ac.toNat (s.reg rb.toNat ++ s.reg ra.toNat)).retireSeq 1))

/-- ACCLR (R132): the accumulator is cleared. -/
def execAcclr (ac : BitVec 1) (s : State) : Res :=
  .next (s.instr [32 + ac.toNat] (fun s => (s.setAcc ac.toNat 0).retireSeq 1))

/-- ADDI (R131): rd receives ra plus the sign-extended immediate. -/
def execAddi (rd ra : Reg) (imm : BitVec 16) (s : State) : Res := .next (s.alu2 rd ra (fun a => a + imm.signExtend 32))

/-- ANDI (R131): rd receives ra AND the zero-extended immediate. -/
def execAndi (rd ra : Reg) (imm : BitVec 16) (s : State) : Res := .next (s.alu2 rd ra (fun a => a &&& imm.setWidth 32))

/-- ORI (R131): rd receives ra OR the zero-extended immediate. -/
def execOri (rd ra : Reg) (imm : BitVec 16) (s : State) : Res := .next (s.alu2 rd ra (fun a => a ||| imm.setWidth 32))

/-- XORI (R131): rd receives ra XOR the zero-extended immediate. -/
def execXori (rd ra : Reg) (imm : BitVec 16) (s : State) : Res := .next (s.alu2 rd ra (fun a => a ^^^ imm.setWidth 32))

/-- SLTI (R131): rd receives 1 if ra is signed less than the sign-extended immediate. -/
def execSlti (rd ra : Reg) (imm : BitVec 16) (s : State) : Res := .next (s.alu2 rd ra (fun a => boolWord (sltB a (imm.signExtend 32))))

/-- SLTIU (R131): rd receives 1 if ra is unsigned less than the sign-extended immediate. -/
def execSltiu (rd ra : Reg) (imm : BitVec 16) (s : State) : Res := .next (s.alu2 rd ra (fun a => boolWord (ultB a (imm.signExtend 32))))

/-- SHLI (R131): rd receives ra shifted left by imm16[4:0]. -/
def execShli (rd ra : Reg) (sh : BitVec 5) (s : State) : Res := .next (s.alu2 rd ra (fun a => a <<< sh.toNat))

/-- SHRI (R131): rd receives ra shifted right logically by imm16[4:0]. -/
def execShri (rd ra : Reg) (sh : BitVec 5) (s : State) : Res := .next (s.alu2 rd ra (fun a => a >>> sh.toNat))

/-- SARI (R131): rd receives ra shifted right arithmetically by imm16[4:0]. -/
def execSari (rd ra : Reg) (sh : BitVec 5) (s : State) : Res := .next (s.alu2 rd ra (fun a => a.sshiftRight sh.toNat))

/-- RORI (R131): rd receives ra rotated right by imm16[4:0]. -/
def execRori (rd ra : Reg) (sh : BitVec 5) (s : State) : Res := .next (s.alu2 rd ra (fun a => a.rotateRight sh.toNat))

/-- LUI (R131): rd receives imm16 in its upper half and 0 in its lower half. -/
def execLui (rd : Reg) (imm : BitVec 16) (s : State) : Res :=
  .next (s.instr [rd.toNat] (fun s => (s.setReg rd.toNat (imm ++ (0 : BitVec 16))).retireSeq 1))

end Sys2Proof.Machine
end

