-- ==== Sys2Proof/Machine/Dma.lean ====
section
/-! DEFINITION. Accesses to flash, SRAM and the scratchpad by masters other than the cluster (R30, R224, R243, R246). -/
namespace Sys2Proof.Machine

/-- The refusal of a transfer to memory: the map's (R225), and REASON 3 for a granted address that is no memory (Table 1.6, log
entry 107). -/
def State.memRefusal (s : State) (m : Master) (k : AccKind) (a : Nat) : Option Nat :=
  match s.refusal m k a with
  | some r => some r
  | none => if inFlash a || inSram a || inScratch a then none else some 3

/-- A read of the aligned word at `a` by a master other than the cluster, for an access at byte address `d`: a refusal raises
0x28, the memory answers with its outcome, and then a failed end-to-end check raises 0x27; an error answers 0 (R224, R243,
R246). -/
def State.mRead (s : State) (m : Master) (a d : Nat) : MemOut :=
  match s.memRefusal m .read a with
  | some r => ⟨s.refuseOther m .read d r, 0, some 0x28⟩
  | none =>
    let r := s.memReadAt a d false false
    if r.err.isNone && r.st.aimed 0x27 a then ⟨r.st.e2eFail m a false, 0, some 0x27⟩ else r

/-- A write with byte enables by a master other than the cluster; the cluster's data cache loses the line (R112). -/
def State.mWrite (s : State) (m : Master) (a be : Nat) (w : Word) : MemOut :=
  match s.memRefusal m .write a with
  | some r => ⟨s.refuseOther m .write (a + beLow be) r, 0, some 0x28⟩
  | none =>
    if s.aimed 0x27 a then ⟨s.e2eFail m a true, 0, some 0x27⟩
    else
      let r := s.memWrite a be w
      { r with st := r.st.dinval (a / 32 * 32) (a / 32 * 32 + 32) }

/-- Words read upward to the first error response, after which they count as 0 (R224; log entry 22); the flag says that every
read succeeded. -/
def State.mReads (s : State) (m : Master) (a : Nat) : Nat → State × List Word × Bool
  | 0 => (s, [], true)
  | n + 1 =>
    let r := s.mRead m a a
    if r.err.isSome then (r.st, List.replicate (n + 1) 0, false)
    else
      let t := r.st.mReads m (a + 4) n
      (t.1, r.data :: t.2.1, t.2.2)

/-- Words written upward to the first error response (log entry 22); the flag says that every write succeeded. -/
def State.mWrites (s : State) (m : Master) (a : Nat) : List Word → State × Bool
  | [] => (s, true)
  | w :: t =>
    let r := s.mWrite m a 15 w
    if r.err.isSome then (r.st, false) else r.st.mWrites m (a + 4) t

/-- `n` bytes read upward from `a`, of words read whole; the flag says that every read succeeded. -/
def State.mBytes (s : State) (m : Master) (a n : Nat) : State × List Byte × Bool :=
  let k := (a % 4 + n + 3) / 4
  let r := s.mReads m (a / 4 * 4) k
  (r.1, ((wordsBytes r.2.1).drop (a % 4)).take n, r.2.2)

/-- Bytes written upward, one write a byte. -/
def State.mPutBytes (s : State) (m : Master) (a : Nat) : List Byte → State × Bool
  | [] => (s, true)
  | b :: t =>
    let r := s.mWrite m (a / 4 * 4) (2 ^ (a % 4)) (BitVec.ofNat 32 (b.toNat * 2 ^ (8 * (a % 4))))
    if r.err.isSome then (r.st, false) else r.st.mPutBytes m (a + 1) t

end Sys2Proof.Machine
end

