-- ==== Sys2Proof/Machine/Ctl.lean ====
section
/-! DEFINITION. Control flow, core-local registers, barriers, gates, returns and debug: spec/05 (R135–R137, R140), spec/07,
spec/08 (R216–R219), spec/04 (R116, R117, R120–R126) and spec/03 (R95–R98). -/
namespace Sys2Proof.Machine

/-! ## Branches and jumps -/

/-- The BTB after a branch at `a` (R102): a taken branch that misses takes an entry with counter 2, a hit counts up when
taken and down when not (log entry 10). -/
def State.btbUpdate (s : State) (a target : Nat) (taken : Bool) : State :=
  if s.det then s
  else
    let i := a / 4 % 64
    let tag := a / 256 % 2 ^ 24
    let rest := s.core.btb.filter (fun e => e.idx != i)
    match s.core.btb.find? (fun e => e.idx == i && e.tag == tag) with
    | some e => s.onCore (fun c => { c with
        btb := ⟨i, tag, if taken then target else e.target, if taken then min (e.ctr + 1) 3 else e.ctr - 1⟩ :: rest })
    | none => if taken then s.onCore (fun c => { c with btb := ⟨i, tag, target, 2⟩ :: rest }) else s

/-- The BTB predicts the branch at `a` taken to `target`: a hit whose counter is 2 or 3 (R102). -/
def State.predicted (s : State) (a target : Nat) : Bool :=
  s.core.btb.any (fun e => e.idx == a / 4 % 64 && e.tag == a / 256 % 2 ^ 24 && decide (2 ≤ e.ctr) && e.target == target)

/-- A branch, J or CALL retires (R102, R135): in deterministic mode after 3 CCLK taken and 1 not; in throughput mode after the
CCLK of Table 4.2, where one not taken that was predicted so may issue in slot 1 and take none (R104; log entry 98). -/
def State.branchEnd (s : State) (target : Word) (taken : Bool) : State :=
  let hit := s.predicted s.core.pc.toNat target.toNat
  let t := s.btbUpdate s.core.pc.toNat target.toNat taken
  if s.det then (if taken then t.retireTo 3 target else t.retireSeq 1)
  else if taken then t.retireAt (if hit then 1 else 3) target
  else if hit then t.retireAt 3 (s.core.pc + 4) else t.retireSeq 1

/-- A conditional branch (R135). -/
def State.branch (s : State) (ra rb : Reg) (off : BitVec 14) (p : Word → Word → Bool) : State :=
  s.instr [ra.toNat, rb.toNat] (fun s =>
    s.branchEnd (s.core.pc + (off.signExtend 32 <<< 2)) (p (s.reg ra.toNat) (s.reg rb.toNat)))

/-- BEQ (R135). -/
def execBeq (ra rb : Reg) (off : BitVec 14) (s : State) : Res := .next (s.branch ra rb off (fun a b => a == b))

/-- BNE (R135). -/
def execBne (ra rb : Reg) (off : BitVec 14) (s : State) : Res := .next (s.branch ra rb off (fun a b => a != b))

/-- BLT (R135). -/
def execBlt (ra rb : Reg) (off : BitVec 14) (s : State) : Res := .next (s.branch ra rb off (fun a b => sltB a b))

/-- BGE (R135). -/
def execBge (ra rb : Reg) (off : BitVec 14) (s : State) : Res := .next (s.branch ra rb off (fun a b => !sltB a b))

/-- BLTU (R135). -/
def execBltu (ra rb : Reg) (off : BitVec 14) (s : State) : Res := .next (s.branch ra rb off (fun a b => ultB a b))

/-- BGEU (R135). -/
def execBgeu (ra rb : Reg) (off : BitVec 14) (s : State) : Res := .next (s.branch ra rb off (fun a b => !ultB a b))

/-- The target of J and CALL (R135). -/
def State.jTarget (s : State) (off : BitVec 26) : Word := s.core.pc + (off.signExtend 32 <<< 2)

/-- J (R135). -/
def execJmp (off : BitVec 26) (s : State) : Res :=
  .next (s.instr [] (fun s => s.branchEnd (s.jTarget off) true))

/-- STATUS.SSDEPTH. -/
def State.ssDepth (s : State) : Nat := s.status 20 9

/-- STATUS.GDEPTH. -/
def State.gDepth (s : State) : Nat := s.status 16 4

/-- SSBASE. -/
def State.ssBase (s : State) : Nat := (s.csrRaw 0x012).toNat / 2048 * 2048

/-- A new shadow depth; GT_HWM keeps the largest. -/
def State.putSsDepth (s : State) (d : Nat) : State :=
  let s := s.putStatus 20 9 d
  if s.get GT_HWM_SS < d then s.put GT_HWM_SS d else s

/-- A new gate depth; GT_HWM keeps the largest. -/
def State.putGDepth (s : State) (d : Nat) : State :=
  let s := s.putStatus 16 4 d
  if s.get GT_HWM_GD < d then s.put GT_HWM_GD d else s

/-- A call (R136, R203): the link goes to w30 and the shadow stack, and `k` transfers; a full stack raises 0x12 SUB 0. -/
def State.callTo (s : State) (k : State → State) : State :=
  let link := s.core.pc + 4
  let d := s.ssDepth
  if 256 ≤ d then s.trap 0x12 0
  else k (((s.hwStore (s.ssBase + 4 * d) link).putSsDepth (d + 1)).setReg 30 link)

/-- CALL (R136). -/
def execCall (off : BitVec 26) (s : State) : Res :=
  .next (s.instr [30] (fun s => s.callTo (fun t => t.branchEnd (s.jTarget off) true)))

/-- JR (R135): a target not word aligned raises 0x10 SUB 2. -/
def execJr (ra : Reg) (imm : BitVec 16) (s : State) : Res :=
  .next (s.instr [ra.toNat] (fun s =>
    let t := s.reg ra.toNat + imm.signExtend 32
    if t.toNat % 4 ≠ 0 then s.trap 0x10 2 else s.retireTo 3 t))

/-- CALLR (R135, R136): the target is computed from ra's old value. -/
def execCallr (ra : Reg) (imm : BitVec 16) (s : State) : Res :=
  .next (s.instr [ra.toNat, 30] (fun s =>
    let t := s.reg ra.toNat + imm.signExtend 32
    if t.toNat % 4 ≠ 0 then s.trap 0x10 2 else s.callTo (fun u => u.retireTo 3 t)))

/-- RET (R136, R203): an empty shadow stack raises 0x12 SUB 1, an entry that differs from w30 0x11 SUB 0; an entry that
cannot be read compares as 0 (log entry 11). -/
def execRet (s : State) : Res :=
  .next (s.instr [30] (fun s =>
    let d := s.ssDepth
    if d = 0 then s.trap 0x12 1
    else
      let r := s.hwRead (s.ssBase + 4 * (d - 1))
      if r.2.getD 0 ≠ s.reg 30 then r.1.trap 0x11 0
      else (r.1.putSsDepth (d - 1)).retireTo 3 (s.reg 30)))

/-! ## The protection map's registers and barriers -/

/-- A register of the map that is staged (R216). -/
def mapStaged (a : Nat) : Bool := a == MPU_CTL || (decide (0x40007100 ≤ a) && decide (a < 0x40007200))

/-- A write to a map register stores into the staging copy (R216); MODE tightens from its current value only (R213). A write
that is ignored stages nothing. -/
def State.mpuWrite (s : State) (m : Master) (a : Nat) (v : Word) : State :=
  if a == MPU_CTL then
    (if !s.isSealed && m != .lamp then s.clamped a
     else
       let old := s.get MPU_CTL_MODE
       let new := max old (fld v 0 1)
       ((s.put MPU_CTL_MODE new).put MPU_CTL_STAGED 1).clampIf (new != fld v 0 1) a)
  else if mapStaged a && !s.writeIgnored m a then (s.plainWrite m a v).put MPU_CTL_STAGED 1
  else s.plainWrite m a v

/-- MPU_REGISTER_WRITE (R216). -/
def execMpuRegisterWrite (m : Master) (addr v : Word) (s : State) : Res :=
  .next (if mapStaged addr.toNat then s.regCommand m addr.toNat (fun s => s.mpuWrite m addr.toNat v) else s)

/-- A barrier's commit (R216, R217): every staged value of both sets is committed. -/
def State.mapCommit (s : State) : State :=
  let s := s.put MPU_CTL_STAGED 0
  let s := { s with mpu := s.regs.filter (fun p => mapStaged p.1) }
  s.put MPU_STAT_BARRIERS (s.get MPU_STAT_BARRIERS + 1)

/-- The active region set. -/
def State.setPset (s : State) (b : Bool) : State := (s.putStatus 29 1 (b2n b)).flag MPU_STAT_PSET b

/-! ## Core-local registers -/

/-- A core-local register as CSRR reads it; none for a number not in Table 5.8. CAUSE and EPC of the base level, which has no save
set, read 0 (DESIGN CHOICE, log entry 125). -/
def State.csrRead (s : State) (n : Nat) : Option Word :=
  if n == 0x000 || n == 0x001 || n == 0x006 || n == 0x010 || n == 0x011 || n == 0x012 || n == 0x013 then some (s.csrRaw n)
  else if n == 0x002 then some (if s.level ≤ 8 then s.csrRaw (saveCsr s.level 2) else 0)
  else if n == 0x003 then some (if s.level ≤ 8 then s.csrRaw (saveCsr s.level 0) else 0)
  else if n == 0x004 then some s.tagstat
  else if n == 0x005 then some (BitVec.ofNat 32 s.core.cycle)
  else if n == 0x014 then some (BitVec.ofNat 32 (4 * s.ssDepth))
  else if n == 0x015 then some (BitVec.ofNat 32 ((s.ssBase + 0x400 + 16 * s.gDepth) / 16 * 16 + s.gDepth))
  else if n == 0x016 then some (BitVec.ofNat 32 (b2n s.pset))
  else if decide (0x100 ≤ n) && decide (n < 0x148) && n % 8 != 7 then some (s.csrRaw n)
  else none

/-- A clamp of a core-local register: it has no address, so SYS_CLAMPLAST stays (log entry 12). -/
def State.csrClamped (s : State) (b : Bool) : State := if b then s.bump SYS_CLAMPCNT_COUNT 1 else s

/-- The nearest legal MASK: 0–7 or 15. -/
def legalMask (v : Nat) : Nat := clampLegal [(0, 7, 1), (15, 15, 1)] v

/-- The nearest legal SSTAT.LEVEL of the save set of level `c` (R196): the base level or a level below `c`. -/
def legalSsLevel (c v : Nat) : Nat := if c = 0 then 15 else clampLegal [(0, c - 1, 1), (15, 15, 1)] v

/-- SSTAT as a CSRW of `v` leaves it for level `c` (R196). -/
def sstatWrite (c : Nat) (v : Word) : Word :=
  BitVec.ofNat 32 (legalSsLevel c (fld v 0 4) + legalMask (fld v 8 4) * 2 ^ 8 + fld v 12 1 * 2 ^ 12 +
    min (fld v 16 4) 8 * 2 ^ 16 + min (fld v 20 9) 256 * 2 ^ 20 + fld v 29 1 * 2 ^ 29)

/-- The bits of STATUS that are not reserved. -/
def statusBits : Word := 0x3FFF1F0F

/-- A CSRW to a save-set word `k` of level `c` (R161, R196). -/
def State.saveWrite (s : State) (c k : Nat) (v : Word) : State :=
  if k = 0 then
    let sms := s.csrRaw (saveCsr c 6)
    let s := s.csrPut (saveCsr c 0) (v &&& 0xFFFFFFFC)
    if fld sms 30 2 = 1 then s.csrPut (saveCsr c 6) (putFld sms 30 2 0) else s
  else if k = 1 then
    (s.csrPut (saveCsr c 1) (sstatWrite c v)).csrClamped (sstatWrite c v != (v &&& statusBits))
  else if k = 2 then s.csrPut (saveCsr c 2) (v &&& 0x3FFFFF)
  else if k = 3 then s.csrPut (saveCsr c 3) v
  else s

/-- The effect of a CSRW to a number other than MODE's: clamped under R12 and R14, ignored where the register is read-only
(R137). -/
def State.csrWrite (s : State) (n : Nat) (v : Word) : State :=
  if n == 0x000 then
    (if s.status 12 1 = 1 then s
     else (s.putStatus 8 4 (legalMask (fld v 8 4))).csrClamped (legalMask (fld v 8 4) != fld v 8 4))
  else if n == 0x010 then
    let b := v.toNat / 2048 * 2048
    let c := clampLegal [(0x10000000, 0x100BF800, 2048), (0x18000000, 0x1800E800, 2048)] b
    (s.csrPut 0x010 (BitVec.ofNat 32 (c + 1))).csrClamped (c != b)
  else if n == 0x011 then
    let b := v.toNat / 4096 * 4096
    let c := clampLegal [(0, 0x3FF000, 4096), (0x10000000, 0x100BF000, 4096), (0x18000000, 0x1800E000, 4096)] b
    (s.csrPut 0x011 (BitVec.ofNat 32 c)).csrClamped (c != b)
  else if n == 0x012 then
    let b := v.toNat / 2048 * 2048
    let c := clampLegal [(0x18000000, 0x1800E800, 2048)] b
    if s.ssDepth != 0 || s.gDepth != 0 then s.csrClamped true
    else (s.csrPut 0x012 (BitVec.ofNat 32 c)).csrClamped (c != b)
  else if n == 0x013 then
    if !s.isSealed then s.csrClamped true
    else
    let c := min (fld v 0 8) (fld (Store.get csrReset s.latch 0x013) 0 8)
    (s.csrPut 0x013 (BitVec.ofNat 32 c)).csrClamped (c != fld v 0 8)
  else if 0x100 ≤ n then s.saveWrite ((n - 0x100) / 8) ((n - 0x100) % 8) v
  else s

/-- CSRR (R137, R141): a number not in Table 5.8 raises 0x10 SUB 4; a read of CYCLE latches CYCLEH. -/
def execCsrr (rd : Reg) (csr : BitVec 12) (s : State) : Res :=
  .next (s.instr [rd.toNat] (fun s =>
    match s.csrRead csr.toNat with
    | none => s.trap 0x10 4
    | some v =>
      let s := if csr = 5 then s.csrPut 6 (BitVec.ofNat 32 (s.core.cycle / 2 ^ 32)) else s
      (s.setReg rd.toNat v).retireSeq 1))

/-- MODE takes a value (R120, R253): caches, line buffers and BTB are invalidated and the mode switches; setting DET restarts
the scrub monitor. -/
def State.modeSwitch (s : State) (v : Word) : State :=
  let s := s.fetchInval.onCore (fun c => { c with dcache := [] })
  let s := s.csrPut 0x001 (v &&& 1)
  if bitOf v 0 then { s.wr MEM_DETPTR 0 with memi := { s.memi with detAge := 0 } } else s

/-- A write of MODE (R120): X waits until the stations and the store buffer are empty; the write takes 4 CCLK of the mode that
it ends. -/
def State.modeTo (s : State) (v : Word) : State :=
  let s := if s.core.stations.isEmpty then s
    else (s.waitUpTo (s.core.stations.foldl (fun k t => max k (stWait t)) 0)).land (fun _ => true)
  let s := s.sbSync
  (if s.det then s.retireSeq 4 else s.retireAt 4 (s.core.pc + 4)).modeSwitch v

/-- A CSRW to MODE waits in X while a station's result is unknown (R120). -/
def State.modeInstr (s : State) (ra : Reg) : State :=
  if s.core.stations.any (fun t => t.result.isNone) then s.stall else s.instr [ra.toNat] (fun s => s.modeTo (s.reg ra.toNat))

/-- MODE_WRITE (R120): a CSRW to MODE. -/
def execModeWrite (ra : Reg) (s : State) : Res := .next (s.modeInstr ra)

/-- CSRW (R137): takes effect for the next instruction; a write to MODE is the row MODE_WRITE. -/
def execCsrw (ra : Reg) (csr : BitVec 12) (s : State) : Res :=
  .next (if csr = 1 then s.modeInstr ra
    else s.instr [ra.toNat] (fun s =>
      match s.csrRead csr.toNat with
      | none => s.trap 0x10 4
      | some _ => (s.csrWrite csr.toNat (s.reg ra.toNat)).retireSeq 1))

/-! ## Barriers, WFI and SCRUB -/

/-- SYNC (R116): retires once the store buffer is empty and its responses are in. -/
def execSyncBar (s : State) : Res := .next (s.instr [] (fun s => s.sbSync.retireSeq 2))

/-- IFLUSH (R117): SYNC, then the fetch state is invalidated. In deterministic mode the next fetch out of the line that it emptied
costs 6 CCLK, and one after a MODE write none (DESIGN CHOICE, log entry 124). -/
def execIflush (s : State) : Res := .next (s.instr [] (fun s => (s.sbSync.fetchInval).retireSeq 4))

/-- MBAR (R218): earlier writes complete, then every staged value is committed. -/
def execMbar (s : State) : Res := .next (s.instr [] (fun s => (s.sbSync.mapCommit).retireSeq 3))

/-- MPUSWAP (R218): staged values are committed and the active set toggles; earlier writes are not waited for. -/
def execMpuswap (s : State) : Res := .next (s.instr [] (fun s => (s.mapCommit.setPset (!s.pset)).retireSeq 3))

/-- The scrub monitor's block number of an address (R253). -/
def scrubBlock (a : Nat) : Nat := if inScratch a then 24576 + (a - 0x18000000) / 32 else (a - 0x10000000) / 32

/-- `n` words of a block are read and checked by a scrub (R251). -/
def State.scrubWords (s : State) (a : Nat) : Nat → State
  | 0 => s
  | n + 1 => ((s.memRead a true false).st).scrubWords (a + 4) n

/-- The monitor's pointer advances where the block it names has been scrubbed (R253). -/
def State.detAdvance (s : State) (b : Nat) : State :=
  if !(s.lit && s.det) || s.get MEM_DETPTR_BLOCK != b then s
  else if b = 26623 then
    { (s.put MEM_DETPTR_BLOCK 0).put MEM_DETPTR_ELAPSED 0 with memi := { s.memi with detAge := 0 } }
  else s.put MEM_DETPTR_BLOCK (b + 1)

/-- SCRUB (R252): four rows read and checked, on the bank of a fetch 1 CCLK longer (R103; log entry 92); refused as a load outside
SRAM and the scratchpad. -/
def execScrub (ra : Reg) (s : State) : Res :=
  .next (s.instr [ra.toNat] (fun s =>
    let a := (s.reg ra.toNat).toNat / 32 * 32
    let why := if inSram a || inScratch a then s.refusal .cluster .read a else some 3
    match why with
    | some r => (s.recordRefusal .cluster .read a false s.pset r).takeException 0x28 0 a (some a) none
    | none => ((s.scrubWords a 8).detAdvance (scrubBlock a)).retireSeq (4 + b2n (s.fetchBank a))))

/-- An interrupt would be taken at the boundary where the cluster stands. -/
def State.takesNow (s : State) : Bool := s.samplingOpen && s.chosen.isSome

/-- WFI (R140): issue stops until an interrupt that would be sampled is pending and sampling is open; one that is pending
already ends it. -/
def execWfi (s : State) : Res :=
  .next (s.instr [] (fun s =>
    let t := s.retireSeq 2
    t.onCore (fun c => { c with wfi := !t.takesNow })))

/-! ## Gates -/

/-- The largest address of a pointer argument's bytes lies in the region and every subregion between is taken in (Table
7.6); region values as they will stand after the commit (R219). -/
def State.pointerOk (s : State) (set : Bool) (p w len : Word) : Bool :=
  let i := (if set then 16 else 0) + fld p 0 4
  let base := s.rd (MPU_BASE i)
  let attr := s.rd (MPU_ATTR i)
  let size := fld attr 0 6
  let b := base.toNat / 2 ^ size * 2 ^ size
  let hi := w.toNat + max len.toNat 1 - 1
  let sub (a : Nat) : Nat := (a - b) / 2 ^ (size - 3)
  let needR := if bitOf p 4 then bitOf base 2 else true
  let needW := if bitOf p 5 then bitOf base 3 else true
  bitOf base 0 && bitOf attr 16 && needR && needW && decide (b ≤ w.toNat) && decide (hi < b + 2 ^ size) &&
  decide (hi < 2 ^ 32) &&
  [0, 1, 2, 3, 4, 5, 6, 7].all (fun k => decide (k < sub w.toNat) || decide (sub hi < k) || bitOf attr (8 + k))

/-- A channel table entry (R199): 0 closed, else 1 + 2 × generation + 128 × the kind as Table 7.6 codes it. -/
def chanEntry (gen kind : Nat) : Nat := 1 + 2 * gen + 128 * kind

/-- The handle-valid check (Table 7.6). -/
def State.handleOk (s : State) (p w : Word) : Bool :=
  let e := Store.get (fun _ => 0) s.core.chans (fld w 0 10)
  let kind := e / 128
  let want := fld p 0 3
  fld w 16 16 == 0 && e % 2 == 1 && e / 2 % 64 == fld w 10 6 && (want == 0 || (want == kind && decide (want < 6)))

/-- One argument check of kind `k` (Table 7.6). -/
def State.argOk (s : State) (set : Bool) (k : Nat) (p w : Word) : Bool :=
  if k = 1 then decide (fld p 0 16 ≤ w.toNat) && decide (w.toNat ≤ fld p 16 16)
  else if k = 2 then
    s.pointerOk set p w (if bitOf p 6 then s.reg (1 + fld p 8 2) else BitVec.ofNat 32 (fld p 16 16))
  else if k = 3 then s.handleOk p w
  else true

/-- The first argument, from w1 + `i` on over `n` arguments, whose check fails (R200). -/
def State.argFail (s : State) (set : Bool) (w2 : Word) (ps : List Word) (i : Nat) : Nat → Option Nat
  | 0 => none
  | n + 1 =>
    if s.argOk set (fld w2 (8 + 2 * i) 2) (ps.getD i 0) (s.reg (i + 1)) then s.argFail set w2 ps (i + 1) n else some i

/-- A gate fault is recorded (GT_LASTF) and taken. -/
def State.gateFault (s : State) (n id sub : Nat) : State :=
  (s.wr GT_LASTF (BitVec.ofNat 32 (n % 128 + sub * 256 + s.level % 16 * 4096 + id * 65536))).trap id sub

/-- The address of gate frame `k` (R201). -/
def State.frameAt (s : State) (k : Nat) : Nat := s.ssBase + 0x400 + 16 * k

/-- Words 0 to 2 of the frame (Table 7.8). -/
def State.frameWords (s : State) (n : Nat) : List Word :=
  [s.core.pc + 4, s.reg 29, BitVec.ofNat 32 (s.level + b2n s.pset * 2 ^ 8 + n * 2 ^ 16 + 0xA5 * 2 ^ 24)]

/-- GATE's commit (R200, R217): depth, stack pointer, barrier and set, count, transfer. -/
def State.gateCommit (s : State) (w0 w1 w2 : Word) (extra : Nat) : State :=
  let d := s.gDepth
  let s := s.hwStore (s.frameAt d + 12) (BitVec.ofNat 32 s.ssDepth)
  let s := (s.putGDepth (d + 1)).bump ⟨GT_CALLS, 0, 32⟩ 1
  let s := if fld w1 2 30 = 0 then s else s.setReg 29 (w1 &&& 0xFFFFFFFC)
  let s := s.mapCommit
  let s := if bitOf w2 1 then s else s.setPset (bitOf w2 0)
  s.retireTo (12 + extra) (w0 &&& 0xFFFFFFFC)

/-- GATE (R198–R201): the entry is read, the arguments checked in order, and the outcome decided in the commit cycle; frame
words 0 to 2 are written before it. A table entry that cannot be read is not valid (log entry 11). -/
def execGate (n : BitVec 7) (s : State) : Res :=
  .next (s.instr [1, 2, 3, 4, 29] (fun s =>
    let a := (s.csrRaw 0x011).toNat / 4096 * 4096 + 32 * n.toNat
    let r := s.hwLine a 7
    let s := r.1
    if 8 ≤ s.gDepth then s.gateFault n.toNat 0x14 0
    else
      let s := hwStoreRun (s.frameWords n.toNat) s (s.frameAt s.gDepth)
      match r.2 with
      | some (w0 :: w1 :: w2 :: ps) =>
        if !bitOf w0 0 then s.gateFault n.toNat 0x13 0
        else
          let set := if bitOf w2 1 then s.pset else bitOf w2 0
          match s.argFail set w2 ps 0 4 with
          | some i => (s.wr GT_LASTV (s.reg (i + 1))).gateFault n.toNat 0x13 (i + 1)
          | none => s.gateCommit w0 w1 w2 (if inFlash a then 6 else 0)
      | _ => s.gateFault n.toNat 0x13 0))

/-- GRET's commit (R202, R217). -/
def State.gretCommit (s : State) (f0 f1 f2 : Word) : State :=
  let s := s.putGDepth (s.gDepth - 1)
  ((s.setReg 29 f1).mapCommit.setPset (bitOf f2 8)).retireTo 10 f0

/-- GRET (R202): the frame's checks in order; a frame word that cannot be read is a wrong marker (log entry 11). -/
def execGret (s : State) : Res :=
  .next (s.instr [29] (fun s =>
    let d := s.gDepth
    if d = 0 then s.gateFault 0 0x14 1
    else
      let r := s.hwReads (s.frameAt (d - 1)) 4
      let s := r.1
      match r.2 with
      | some [f0, f1, f2, f3] =>
        if fld f2 24 8 ≠ 0xA5 then s.gateFault (fld f2 16 7) 0x14 4
        else if fld f2 0 4 ≠ s.level then s.gateFault (fld f2 16 7) 0x14 2
        else if fld f3 0 9 ≠ s.ssDepth then s.trap 0x11 1
        else s.gretCommit f0 f1 f2
      | _ => s.gateFault 0 0x14 4))

/-! ## IRET -/

/-- A routine back at a checkpoint (R160): the temporaries that its selector does not name are free values, from number `x`
on, and the micro-stack is empty. -/
def Micro.back (m : Micro) (k : Checkpoint) (x : Nat) : Micro :=
  let sel := k.sel
  let mt0 := if sel = 1 || sel = 2 || sel = 4 then k.sms0 else Config.free x
  let mt1 := if sel = 1 then k.sms1 else if sel = 3 || sel = 5 then k.sms0 else Config.free (x + 1)
  let mt2 := if sel = 2 || sel = 3 then k.sms1 else if sel = 6 then k.sms0 else Config.free (x + 2)
  { m with
    upc := k.upc, mt0 := mt0, mt1 := mt1, mt2 := mt2, loop := k.loop, flags := k.flags, stack := [], loadData := none
    ck := some k }

/-- The micro-state of a save set comes back (R160): temporaries not selected are free values; a result that the routine may
collect is there at its own time, counted from the resume. -/
def State.microResume (s : State) (c : Nat) : State :=
  let a := s.csrRaw (saveCsr c 4)
  let b := s.csrRaw (saveCsr c 5)
  let m := s.csrRaw (saveCsr c 6)
  let ck : Checkpoint := ⟨a, b, fld m 25 3, fld m 17 8, fld m 13 4, fld m 0 13⟩
  let r : Micro := ⟨0, 0, 0, 0, 0, 0, 0, 0, 0, [], none, none, 0, 2, none⟩
  let l := s.level
  { s with
    freeCtr := s.freeCtr + 3
    core := { s.core with
      micro := some (r.back ck s.freeCtr)
      stations := s.core.stations.map (fun t => if t.micro && t.level == l then { t with due := t.due - s.core.cycle } else t) } }

/-- PSTALE leaves the micro-state usable only in ROM outside every 16-word block that a patch-match register redirects
(R178), over the registers below `n`. -/
def State.romClean (s : State) (upc : Nat) : Nat → Bool
  | 0 => decide (upc < 0x1000)
  | n + 1 =>
    let w := s.rd (MC_PM n)
    s.romClean upc n && !(bitOf w 31 && fld w 0 12 / 16 == upc / 16)

/-- The patch-match register among the first `n` that redirects a ROM micro-address (R169). -/
def State.patched (s : State) (a : Nat) : Nat → Option Nat
  | 0 => none
  | n + 1 => match s.patched a n with
    | some x => some x
    | none =>
      let w := s.rd (MC_PM n)
      if bitOf w 31 && fld w 0 12 == a then some (0x1000 + fld w 12 10) else none

/-- The micro-address fetched in place of one formed (R169). -/
def State.redirect (s : State) (a : Nat) : Nat := if a < 0x1000 then (s.patched a 64).getD a else a

/-- A divide record is issued again (R125); with no station free its result is written as it comes. -/
def State.reissue (s : State) (c : Nat) : State :=
  let a := s.csrRaw (saveCsr c 4)
  let b := s.csrRaw (saveCsr c 5)
  let m := s.csrRaw (saveCsr c 6)
  let s := s.makeRoom
  let v := (divide (bitOf m 5) (bitOf m 6) a b).setWidth 64
  match s.stationFree with
  | none => s.writeDest (fld m 0 5) v
  | some n => s.addStation
      ⟨n, .div, fld m 0 5, some v, s.level, 0, a, b, bitOf m 5, bitOf m 6, s.core.pc, true, false, false, 0, 0, false⟩

/-- A routine goes back to a checkpoint in the sequencer (R160, R162): the stations it issued since are gone. -/
def State.microBack (s : State) (m : Micro) (k : Checkpoint) : State :=
  let l := s.level
  { s with
    freeCtr := s.freeCtr + 3
    core := { s.core with
      micro := some (m.back k s.freeCtr)
      stations := s.core.stations.filter (fun t => !t.micro || t.level != l || t.kept) } }

/-- The stations that a routine of the current level kept for its resume are gone: it does not resume (R160). -/
def State.dropRoutine (s : State) : State :=
  let l := s.level
  s.onCore (fun c => { c with stations := c.stations.filter (fun t => !(t.micro && t.level == l)) })

/-- IRET's commit (R195, R217): stack pointer, level, mask, set, and the transfer, resume or reissue. -/
def State.iretCommit (s : State) (c : Nat) : State :=
  let sstat := s.csrRaw (saveCsr c 1)
  let kind := fld (s.csrRaw (saveCsr c 6)) 30 2
  let sms := s.csrRaw (saveCsr c 6)
  let spc := s.csrRaw (saveCsr c 0)
  let s := (s.setReg 29 (s.csrRaw (saveCsr c 3))).putStatus 0 4 (fld sstat 0 4)
  let s := s.putStatus 8 4 (fld sstat 8 4)
  let s := if bitOf sstat 29 = s.pset then s else s.mapCommit.setPset (bitOf sstat 29)
  let s := s.retireTo 6 spc
  if kind = 1 && (!bitOf sms 28 || s.romClean (fld sms 0 13) 64) then s.microResume c
  else
    let s := s.dropRoutine
    if kind = 2 then s.reissue c else s

/-- IRET (R126, R195): waits for the stations of its level, checks the depths, and returns; at the base level it raises 0x10
SUB 5. -/
def execIret (s : State) : Res :=
  .next (if s.core.stations.any (fun t => t.level == s.level && decide (s.level ≤ 8) && !t.micro && t.result.isNone) then s.stall
    else s.instr [29] (fun s =>
    let c := s.level
    if 8 < c then s.trap 0x10 5
    else
      let s := s.landAfter (fun t => t.level == c)
      let sstat := s.csrRaw (saveCsr c 1)
      if fld sstat 16 4 ≠ s.gDepth then s.gateFault 0 0x14 3
      else if fld sstat 20 9 ≠ s.ssDepth then s.trap 0x11 2
      else s.iretCommit c))

/-! ## Events of the pipeline -/

/-- WFI's wait ends after a number of CCLK that the spec does not bound (R140, Table 5.6; log entry 91). -/
def State.wfiWait (s : State) : State := if s.core.wfi then s.waitUpTo (2 ^ 32 - 1) else s

/-- INTERRUPT_ENTRY (R122, R188, R189): at an open boundary the chosen vector is entered; with none eligible, or sampling
closed, nothing happens. A debug step that takes an interrupt ends at the handler's first instruction (R95; log entry 97). -/
def execInterruptEntry (s : State) : Res :=
  .next (if !s.samplingOpen then s
    else match s.chosen with
      | none => s
      | some n => (s.settle (s.wfiWait.enter n (s.vecLevel n) 0 0 none)).stepEnd)

/-- EXCEPTION_ENTRY (R184): the instruction in X raises the precise exception of a fault; an ID with no vector is none. -/
def execExceptionEntry (id : BitVec 8) (sub : BitVec 4) (addr : Word) (s : State) : Res :=
  .next (match excVector id.toNat with
    | none => s
    | some v =>
      if !s.canIssue then s
      else if 9 ≤ v then (s.takeException id.toNat sub.toNat addr.toNat (some addr.toNat) none).stepEnd
      else (s.trap id.toNat sub.toNat).stepEnd)

/-- STATION_RESULT (R107): a result that has arrived is written and its scoreboard bit cleared. -/
def execStationResult (n : BitVec 3) (s : State) : Res := .next (s.land (fun t => t.n == n.toNat))

/-- The register value of a station that timed out (R110): 0 for a load, status 0xFFFF with its tag for CHWAIT; for another
operation the spec states none, a free value. -/
def State.timeoutValue (s : State) (t : Station) : Word :=
  match t.kind with
  | .load => 0
  | .chwait => BitVec.ofNat 32 (0xFFFF + t.tag % 1024 * 65536)
  | _ => s.freeVal

/-- A CHISSUE still on its way has lost its station: its answer reaches none (R110). -/
def State.laneOrphan (s : State) (n : Nat) : State :=
  { s with ce := { s.ce with lane := s.ce.lane.map (fun r => if r.st = n then { r with st := 8 } else r) } }

/-- TAG_WAIT_TIMEOUT (R110): a station that has waited 65,536 CCLK raises 0x15 and is freed, and a result that comes later is
discarded; a micro-routine collects the value. -/
def execTagWaitTimeout (n : BitVec 3) (s : State) : Res :=
  .next (match s.core.stations.find? (fun t => t.n == n.toNat && t.result.isNone) with
    | none => s
    | some t =>
      let v := s.timeoutValue t
      let s := if t.kind == .load || t.kind == .chwait then s else s.freed
      let s := if t.micro then
          s.onCore (fun c => { c with
            stations := c.stations.map (fun x => if x.n == t.n then { x with result := some (v.setWidth 64) } else x) })
        else (s.setReg t.dest v).dropStation t.n
      let s := if t.kind == .chissue then s.laneOrphan t.n else s
      s.fault 0x15 t.at'.toNat)

/-- STORE_BUFFER_COMMIT (R113). -/
def execStoreBufferCommit (s : State) : Res := .next s.sbCommit

/-- IMPRECISE_STORE_ERROR (R115): an error response to a buffered store raises 0x16 with its address. -/
def execImpreciseStoreError (addr : Word) (s : State) : Res := .next (s.fault 0x16 addr.toNat)

/-- ILLEGAL_INSTRUCTION (R128): an illegal word raises 0x10 precisely with no other effect; a legal word is no illegal
instruction. -/
def execIllegalInstruction (w : Word) (s : State) : Res :=
  .next (match sisDecode w with
    | .instr _ => s
    | .illegal sub => s.instr [] (fun s => s.trap 0x10 sub))

/-- HOLD_EXPIRY (R191): the hold's remaining CCLK pass while CCLK runs, and sampling reopens. -/
def execHoldExpiry (s : State) : Res := .next (if s.lit && !s.core.inReset then s.advance s.core.hold else s)

/-! ## Debug -/

/-- DEBUG_INTRUSION (R98): in PRODUCTION without an active unlock the access raises 0x78 and is carried out. -/
def State.intrusion (s : State) : State := if s.get KS_LC_STATE == 2 && !s.unlocked then s.fault 0x78 0 else s

/-- The copies can halt: LIT, out of reset, with no copy-bus window open and no Snuffer-only hold. -/
def State.haltable (s : State) : Bool := s.lit && !s.core.inReset && s.lock.window.isNone && !s.snf.only

/-- A halt request (R95): the copies stop; where they cannot, it waits in DBG_CTL. -/
def State.haltReq (s : State) : State :=
  if !s.haltable || s.is DBG_STAT_HALTED then s.put DBG_CTL_HALTREQ (b2n (!s.is DBG_STAT_HALTED)) else s.halt 0

/-- A halt request that has waited is served where the copies can halt. -/
def State.haltPending (s : State) : State := if s.is DBG_CTL_HALTREQ && s.haltable then s.haltReq else s

/-- HALTREQ (R95, R98). -/
def execHaltreq (s : State) : Res := .next s.haltReq.intrusion

/-- BREAKPOINT (R95): the lead copy's fetch address matches and every copy halts. -/
def execBreakpoint (addr : Word) (s : State) : Res :=
  .next (if s.running && !s.is DBG_STAT_HALTED && addr == s.core.pc && s.bpHit addr then s.halt 1 else s)

/-- The effect of STEP (R95): halted copies execute one instruction, the next one commanded, and halt again. -/
def State.dbgStep (s : State) : State :=
  (if s.is DBG_STAT_HALTED then (s.onCore (fun c => { c with stepArmed := true })).put DBG_CTL_STEP 1 else s)

/-- STEP (R95, R98). -/
def execDbgStep (s : State) : Res := .next s.dbgStep.intrusion

/-- The effect of RESUME (R95): the copies are released, past a breakpoint at the instruction they stand at (log entry 95). -/
def State.dbgResume (s : State) : State :=
  (if s.is DBG_STAT_HALTED then
      ((s.put DBG_STAT_HALTED 0).put DBG_CTL_RESUME 0).onCore (fun c => { c with stepArmed := false, bpPass := some c.pc })
    else s)

/-- RESUME (R95, R98). -/
def execDbgResume (s : State) : Res := .next s.dbgResume.intrusion

/-- A word as Copy `c` holds it in its register file, data latches, station operands and store buffer (R78): complemented in
Copy B. The same operation gives the true form back. -/
def copyForm (c : Nat) (w : Word) : Word := if c = 1 then ~~~ w else w

/-- General register `r` as Copy `c` in service holds it; one architectural state stands for the copies in service (log entry
4). -/
def State.copyReg (s : State) (c r : Nat) : Word := copyForm c (s.reg r)

/-- A core-local register as Copy `c` holds it. -/
def State.copyCsr (s : State) (c n : Nat) : Word := copyForm c ((s.csrRead n).getD 0)

/-- An accumulator as Copy `c` holds it. -/
def State.copyAcc (s : State) (c n : Nat) : BitVec 64 := if c = 1 then ~~~ s.acc n else s.acc n

/-- The data of a store-buffer entry as Copy `c` holds them. -/
def SbEntry.held (e : SbEntry) (c : Nat) : Word := copyForm c e.data

/-- The operands of a station as Copy `c` holds them. -/
def Station.held (t : Station) (c : Nat) : Word × Word := (copyForm c t.opA, copyForm c t.opB)

/-- The register that DBG_REGSEL names, of the copy that DBG_COPYSEL names, or of the lead copy where that one is not in
service, in true form (R97). -/
def State.dbgRead (s : State) : Word :=
  let c := if s.copyIn (s.get DBG_COPYSEL_COPY) then s.get DBG_COPYSEL_COPY else s.get LNT_STAT_LEAD
  copyForm c (if s.is DBG_REGSEL_CSR then s.copyCsr c (s.get DBG_REGSEL_SEL) else s.copyReg c (s.get DBG_REGSEL_SEL % 32))

/-- A debug read of CYCLE latches CYCLEH (R141). -/
def State.dbgLatch (s : State) : State :=
  if s.is DBG_STAT_HALTED && s.is DBG_REGSEL_CSR && s.get DBG_REGSEL_SEL == 5 then
    s.csrPut 6 (BitVec.ofNat 32 (s.core.cycle / 2 ^ 32))
  else s

/-- DBG_REGDATA as it reads (R97): the selected register while halted, else 0. -/
def State.dbgData (s : State) : Word := if s.is DBG_STAT_HALTED then s.dbgRead else 0

/-- A write of DBG_REGDATA (R97): while halted it goes to every copy in service; otherwise it is ignored. -/
def State.dbgWrite (s : State) (v : Word) : State :=
  if !s.is DBG_STAT_HALTED then s
  else if s.is DBG_REGSEL_CSR then
    (if s.get DBG_REGSEL_SEL == 1 then ((s.land (fun _ => true)).sbDrain).modeSwitch v
     else s.csrWrite (s.get DBG_REGSEL_SEL) v)
  else s.setReg (s.get DBG_REGSEL_SEL % 32) v

/-- DBG_REGDATA (R97, R98). -/
def execDbgRegdata (w : Option Word) (s : State) : Res :=
  .next ((match w with
    | none => s.dbgLatch.answer s.dbgData
    | some v => s.dbgWrite v).intrusion)

/-- BKPT (R95): with HALTEN set the copies halt before it, else it raises 0x10 SUB 3. -/
def execBkpt (_imm : BitVec 12) (s : State) : Res :=
  .next (s.instr [] (fun s => if s.is DBG_CTL_HALTEN then (s.spend 1).halt 2 else s.trap 0x10 3))

end Sys2Proof.Machine
end

