-- ==== Sys2Proof/Machine/Vectors.lean ====
section
/-! DEFINITION. The check vectors that the lockstep copies and the two engines present (R81, R85, R96): their fields, where each
lies, and what the copies put into them. -/
namespace Sys2Proof.Machine

/-! ## The core check vector (Table 3.3) -/

/-- REQ_CTL without VALID and APAR (Table 3.4): write, fetch, unbuffered, burst, region set, barrier. -/
structure ReqCtl where
  write : Bool
  fetch : Bool
  unbuf : Bool
  burst : Nat
  set : Bool
  barrier : Bool
  deriving DecidableEq, Repr

/-- An interconnect request as a copy presents it. -/
structure ReqPart where
  addr : Nat
  data : Word
  be : Nat
  ctl : ReqCtl
  deriving DecidableEq, Repr

/-- A direct-lane issue: opcode, handle, tag, flags. -/
structure CePart where
  op : Nat
  handle : Nat
  tag : Nat
  flags : Nat
  deriving DecidableEq, Repr

/-- What a copy does in one CCLK cycle, in true form: a request, the two register-write ports (index and value), a direct-lane
issue, the vector acknowledged, the micro-address executed, the store-buffer entry committed and its number, the instructions
retired, an entry and the address of the access that caused it (R186), a micro-trap, a stall. -/
structure CheckVector where
  req : Option ReqPart
  rw0 : Option (Nat × Word)
  rw1 : Option (Nat × Word)
  ce : Option CePart
  iack : Option Nat
  upc : Option Nat
  commit : Option (Nat × SbEntry)
  ret : Nat
  exc : Bool
  xaddr : Word
  utrap : Bool
  stall : Bool
  deriving DecidableEq, Repr

/-- A cycle without an event: every field is zero (R81). -/
def CheckVector.idle : CheckVector := ⟨none, none, none, none, none, none, none, 0, false, 0, false, false⟩

/-- A value in the bits from `lo` up. -/
def vbits (lo len v : Nat) : Nat := v % 2 ^ len * 2 ^ lo

/-- The REQ fields. -/
def ReqPart.bits (r : ReqPart) : Nat :=
  vbits 0 32 r.addr + vbits 32 32 r.data.toNat + vbits 64 4 r.be + vbits 68 1 1 + vbits 69 1 (b2n r.ctl.write) +
  vbits 70 1 (b2n r.ctl.fetch) + vbits 71 1 (b2n r.ctl.unbuf) + vbits 72 2 r.ctl.burst + vbits 74 1 (b2n r.ctl.set) +
  vbits 75 1 (b2n r.ctl.barrier) + vbits 76 1 (b2n (apar r.addr))

/-- A register-write port from bit `lo`. -/
def rwBits (lo : Nat) (w : Nat × Word) : Nat := vbits lo 1 1 + vbits (lo + 1) 5 w.1 + vbits (lo + 6) 32 w.2.toNat

/-- The CE fields. -/
def CePart.bits (x : CePart) : Nat :=
  vbits 156 1 1 + vbits 157 5 x.op + vbits 162 16 x.handle + vbits 178 10 x.tag + vbits 188 8 x.flags

/-- SBC_CRC: over the entry's address and merged data, each least significant byte first. -/
def SbEntry.crc (e : SbEntry) : Nat := crc16 (wordBytes (BitVec.ofNat 32 e.addr) ++ wordBytes e.data)

/-- The SBC fields. -/
def sbcBits (x : Nat × SbEntry) : Nat :=
  vbits 217 1 1 + vbits 218 3 x.1 + vbits 221 4 x.2.be + vbits 225 16 x.2.crc

/-- The bits of a part that is there. -/
def partBits {α : Type} (f : α → Nat) : Option α → Nat
  | some x => f x
  | none => 0

/-- The 256 bits of a vector in true form (Table 3.3). -/
def CheckVector.bits (v : CheckVector) : BitVec 256 :=
  BitVec.ofNat 256 (partBits ReqPart.bits v.req + partBits (rwBits 80) v.rw0 + partBits (rwBits 118) v.rw1 +
    partBits CePart.bits v.ce + partBits (vbits 196 8) v.iack + partBits (vbits 204 13) v.upc + partBits sbcBits v.commit +
    vbits 32 32 (if v.req.isSome then 0 else v.xaddr.toNat) + vbits 241 2 v.ret + vbits 243 1 (b2n v.exc) + vbits 244 1 (b2n v.utrap) + vbits 245 1 (b2n v.stall))

/-- The vector as Copy `c` presents it: complemented by Copy B (R78, R81). -/
def CheckVector.presented (v : CheckVector) (c : Nat) : BitVec 256 := if c = 1 then ~~~ v.bits else v.bits

/-! ## What a copy puts into its vector -/

/-- A register-write port takes a write: port 0, or port 1 where port 0 is taken. -/
def CheckVector.port (v : CheckVector) (d : Nat) (w : Word) : CheckVector :=
  if v.rw0.isSome then { v with rw1 := some (d, w) } else { v with rw0 := some (d, w) }

/-- The vector with one more event of the cycle (R81): a result for w0 shows none, an accumulator's takes both ports (R107), the
micro-address is the one fetched (R169), and an entry's access address stands in REQ_WDATA with VALID 0 (R186). -/
def State.cvEvent (s : State) (v : CheckVector) : CycleEvent → CheckVector
  | .request w f u b a x be => { v with req := some ⟨a.toNat, x, be.toNat, ⟨w, f, u, b.toNat, s.pset, false⟩⟩ }
  | .barrier => { v with req := some ⟨0, 0, 0, ⟨false, false, false, 0, s.pset, true⟩⟩ }
  | .result d x =>
    if d = 0 then v
    else if d.toNat < 32 then v.port d.toNat (x.setWidth 32)
    else { v with rw0 := some (0, x.extractLsb' 0 32), rw1 := some (d.toNat - 32, x.extractLsb' 32 32) }
  | .commit k => { v with commit := s.core.sb.head?.map (fun e => (k.toNat, e)) }
  | .chissue w tag => { v with ce := some ⟨fld w 24 5, fld w 0 16, tag.toNat, fld w 16 8⟩ }
  | .entry n a => { v with iack := some n.toNat, exc := true, xaddr := a.getD 0 }
  | .micro => { v with upc := s.core.micro.map (fun m => s.redirect m.upc) }
  | .microTrap => { v with utrap := true }
  | .stall => { v with stall := true }
  | .retired n => { v with ret := n.toNat }

/-- The halt vector (R96), and that of any stalled cycle. -/
def haltVector : CheckVector := { CheckVector.idle with stall := true }

/-- The vector of a cycle: a copy halted by debug presents the halt vector whatever it would do (R96). -/
def State.cvCycle (s : State) (l : List CycleEvent) : CheckVector :=
  if s.is DBG_STAT_HALTED then haltVector else l.foldl s.cvEvent CheckVector.idle

/-- The vector that Copy `k` presents in a cycle (R78, R81): Copy B's complemented, and with the bits of its error. -/
def State.cvPresented (s : State) (k : Nat) (x : CopyCycle) : BitVec 256 := (s.cvCycle x.events).presented k ^^^ x.differs

/-- The vector of Copy `k` in true form, as Lantern-C aligns it: Copy B's complemented back. -/
def State.cvAligned (s : State) (k : Nat) (x : CopyCycle) : BitVec 256 :=
  if k = 1 then ~~~ s.cvPresented k x else s.cvPresented k x

/-- The valid bits of Table 3.3 by which a cycle is not idle (R92): REQ_CTL.VALID, RW0_V, RW1_V, CE_V and SBC_V. -/
def cvValid : BitVec 256 := BitVec.ofNat 256 (2 ^ 68 + 2 ^ 80 + 2 ^ 118 + 2 ^ 156 + 2 ^ 217)

/-! ## The engine check vector (Table 3.8) -/

/-- What an engine copy does in one ECLK cycle: an interconnect access (address, data, byte enables, write, by the data mover),
a tag completed, a queue pointer updated, a port command (port and code), a ledger write, and the sequencer address. -/
structure EngineVector where
  bus : Option (Nat × Word × Nat × Bool × Bool)
  tag : Option Nat
  queue : Option Nat
  port : Option (Nat × Nat)
  ledger : Option Nat
  seqpc : Nat
  deriving DecidableEq, Repr

/-- An ECLK cycle without an event at a sequencer address. -/
def EngineVector.idle (pc : Nat) : EngineVector := ⟨none, none, none, none, none, pc⟩

/-- The 128 bits of an engine vector (Table 3.8); CE-S holds true form. -/
def EngineVector.bits (v : EngineVector) : BitVec 128 :=
  BitVec.ofNat 128 (partBits (fun b : Nat × Word × Nat × Bool × Bool =>
      vbits 0 32 b.1 + vbits 32 32 b.2.1.toNat + vbits 64 4 b.2.2.1 + vbits 68 1 1 + vbits 69 1 (b2n b.2.2.2.1) +
      vbits 70 1 (b2n b.2.2.2.2)) v.bus +
    partBits (fun t => vbits 76 1 1 + vbits 77 10 t) v.tag + partBits (fun q => vbits 87 1 1 + vbits 88 8 q) v.queue +
    partBits (fun p : Nat × Nat => vbits 96 1 1 + vbits 97 4 p.1 + vbits 101 3 p.2) v.port +
    partBits (fun i => vbits 104 1 1 + vbits 105 11 i) v.ledger + vbits 116 12 v.seqpc)

/-- The vector with one more event of the cycle. -/
def EngineVector.event (v : EngineVector) : EngineEvent → EngineVector
  | .bus m w a x be => { v with bus := some (a.toNat, x, be.toNat, w, m) }
  | .completion tag => { v with tag := some tag.toNat }
  | .queue q => { v with queue := some q.toNat }
  | .portCommand p k => { v with port := some (p.toNat, k.toNat) }
  | .ledger i => { v with ledger := some i.toNat }

/-- The vector that an engine copy presents in a cycle, with the bits of its error. -/
def engineVector (x : EngineCycle) : BitVec 128 :=
  (x.events.foldl EngineVector.event (EngineVector.idle x.seqpc.toNat)).bits ^^^ x.differs

/-- The valid bits of Table 3.8 (R92). -/
def evValid : BitVec 128 := BitVec.ofNat 128 (2 ^ 68 + 2 ^ 76 + 2 ^ 87 + 2 ^ 96 + 2 ^ 104)

end Sys2Proof.Machine
end

