-- ==== Sys2Proof/Machine/Lockstep.lean ====
section
/-! DEFINITION. The lockstep copies and the Lanterns (spec/03), and the crossings between clock domains and the contests for
memory targets (spec/01). The copies in service hold one architectural state (log entry 4); a command carries what a copy
presents differently. -/
namespace Sys2Proof.Machine

/-! ## Comparison and voting -/

/-- The copies run and present check vectors: LIT, out of reset, no Snuffer-only hold. -/
def State.presents (s : State) : Bool := s.lit && !s.core.inReset && !s.snf.only

/-- A verdict other than agreement (Table 3.5): the fault, the difference, the copies named in DETAIL, and the minority. -/
structure Verdict where
  fault : Nat
  diff : BitVec 256
  copies : Nat
  minority : Option Nat
  deriving DecidableEq, Repr

/-- The bits of REQ_ADDR, REQ_BE and REQ_CTL (Table 3.3). -/
def reqBits : BitVec 256 := BitVec.ofNat 256 (2 ^ 32 - 1 + 0xFFFF * 2 ^ 64)

/-- A vector presents a read that is released at once (Tables 3.2 and 3.4): VALID, not WRITE, not UNBUF. -/
def readsNow (v : BitVec 256) : Bool := v.getLsbD 68 && !v.getLsbD 69 && !v.getLsbD 71

/-- An outvoted verdict: 0x02 where the minority is the lead and a read released at once differs (R80), else 0x01. -/
def outvoted (lead c : Nat) (v d : BitVec 256) : Verdict :=
  if c = lead && readsNow v && (d &&& reqBits) != 0 then ⟨0x02, d, 7, none⟩ else ⟨0x01, d, 2 ^ c, some c⟩

/-- The vote of three vectors in true form (Table 3.5); `x` is the difference shown for a three-way disagreement, which the
spec does not state. -/
def vote (lead : Nat) (a b c x : BitVec 256) : Option Verdict :=
  if a = b && b = c then none
  else if a = b then some (outvoted lead 2 c (a ^^^ c))
  else if a = c then some (outvoted lead 1 b (a ^^^ b))
  else if b = c then some (outvoted lead 0 a (a ^^^ b))
  else some ⟨0x02, x, 7, none⟩

/-- The comparison of two copies in true form (R91). -/
def compare2 (svc : Nat) (a b : BitVec 256) : Option Verdict := if a = b then none else some ⟨0x00, a ^^^ b, svc, none⟩

/-- The vector bits that the waiting LV injections of the core invert for copy `c` (Table 2.6; log entry 13). The second copy
that argument bit [10] of 0x02 disturbs is the next one, at the next bit (log entry 99). -/
def lvMask (c : Nat) : List Injection → BitVec 256
  | [] => 0
  | i :: t =>
    let me := if i.id ≤ 2 && i.arg / 256 % 4 = c then BitVec.ofNat 256 (2 ^ (i.arg % 256)) else 0
    let other := if i.id = 2 && i.arg / 1024 = 1 && (i.arg / 256 % 4 + 1) % 3 = c
      then BitVec.ofNat 256 (2 ^ ((i.arg + 1) % 256)) else 0
    me ^^^ other ^^^ lvMask c t

/-- LNT_CMPDIFF0–7 and LNT_CMPCYC freeze (R82). -/
def State.freeze (s : State) (d : BitVec 256) : State :=
  ([0, 1, 2, 3, 4, 5, 6, 7].foldl (fun s n => s.wr (LNT_CMPDIFF n) (d.extractLsb' (32 * n) 32)) s).wr LNT_CMPCYC
    (BitVec.ofNat 32 s.core.cycle)

/-- The difference shown for a three-way disagreement: 256 free bits (log entry 28). -/
def State.freeDiff (s : State) : BitVec 256 :=
  BitVec.ofNat 256 ([0, 1, 2, 3, 4, 5, 6, 7].foldl (fun x k => x + (Config.free (s.freeCtr + k)).toNat * 2 ^ (32 * k)) 0)

/-- The verdict on the true-form vectors: by the mode; during a window a difference between the two majority copies is 0x02
(spec/03, Edges). -/
def State.verdict (s : State) (a b c : BitVec 256) : Option Verdict :=
  let v (k : Nat) := if k = 0 then a else if k = 1 then b else c
  let x := s.freeDiff
  if s.lmode = 2 then
    (match s.lock.window with
     | some w =>
       let p := v ((w.copy + 1) % 3)
       let q := v ((w.copy + 2) % 3)
       if p = q then vote (s.get LNT_STAT_LEAD) a b c x else some ⟨0x02, p ^^^ q, 7, none⟩
     | none => vote (s.get LNT_STAT_LEAD) a b c x)
  else if s.lmode = 1 then
    (if s.insvc = 3 then compare2 3 (v 0) (v 1) else if s.insvc = 5 then compare2 5 (v 0) (v 2)
     else if s.insvc = 6 then compare2 6 (v 1) (v 2) else none)
  else none

/-- A window ends (R88, R89): LNT_RKLAST records it and the cluster's cycle count includes it; a halt request that has waited is
served (R95). -/
def State.windowEnd (s : State) (w : Window) (failed : Bool) : State :=
  let s := s.wr LNT_RKLAST (BitVec.ofNat 32 (min w.len 4095 + w.copy * 2 ^ 12 + b2n w.join * 2 ^ 14 + b2n failed * 2 ^ 15))
  let s := { s with lock := { s.lock with window := none } }
  ((((s.put LNT_STAT_RKACT 0).put LNT_STAT_JOINACT 0).put LNT_STAT_LEAD (leadOf s.insvc)).onCore
    (fun c => { c with cycle := c.cycle + w.len })).haltPending

/-- The window in progress, if any, ends failed. -/
def State.windowFail (s : State) : State :=
  match s.lock.window with
  | some w => s.windowEnd w true
  | none => s

/-- A verdict is handled (R82–R84): the registers freeze and the fault is raised; after an outvoted verdict with a window
opened the lead is a remaining copy (R83); 0x02 inside a window ends it (spec/03, Edges). -/
def State.handleVerdict (s : State) (v : Verdict) (injected : Bool) : State :=
  let s := if v.fault = 2 && v.minority.isNone then { s with freeCtr := s.freeCtr + 8 } else s
  let s := s.freeze v.diff
  let d := (lowestBit 256 0 v.diff.toNat).getD 0 + 256 * v.copies
  let s := if v.fault = 2 then s.windowFail else s
  let s := s.raise ⟨v.fault, BitVec.ofNat 32 d, v.minority, injected, false⟩
  match s.lock.window with
  | some w => s.put LNT_STAT_LEAD (leadOf (s.insvc &&& (7 - 2 ^ w.copy)))
  | none => s

/-- CHECK_VECTOR_COMPARE (R78, R81, R82, R96): each copy presents the vector of its cycle, Copy B's complemented; in a halt they are
halt vectors. -/
def execCheckVectorCompare (a b c : CopyCycle) (s : State) : Res :=
  .next (if !s.presents then s
    else
      let inj := s.flt.inj.any (fun i => decide (i.id ≤ 2))
      let m (k : Nat) := lvMask k s.flt.inj
      let v := s.verdict (s.cvAligned 0 a ^^^ m 0) (s.cvAligned 1 b ^^^ m 1) (s.cvAligned 2 c ^^^ m 2)
      let s := { s with flt := { s.flt with inj := s.flt.inj.filter (fun i => !decide (i.id ≤ 2)) } }
      match v with
      | none => s
      | some v => s.handleVerdict v inj)

/-- The CE's two copies run: LIT, or EMBER on AOCLK (Table 1.2), out of reset and not held in LIMP. -/
def State.engineRuns (s : State) : Bool := (s.lit || s.pstate == 3) && !s.core.inReset && !s.snf.only && !s.limp

/-- The engine vector bits that waiting LV injections of 0x08 invert. -/
def lvEngine : List Injection → BitVec 128
  | [] => 0
  | i :: t => (if i.id = 8 then BitVec.ofNat 128 (2 ^ (i.arg % 128)) else 0) ^^^ lvEngine t

/-- ENGINE_VECTOR_COMPARE (R85): one ECLK cycle; any difference between the vectors of Table 3.8 that CE-P and CE-S present
raises 0x08, whose DETAIL names both copies (log entry 100). -/
def execEngineVectorCompare (p q : EngineCycle) (s : State) : Res :=
  .next (if !s.engineRuns then s
    else
      let d := engineVector p ^^^ engineVector q ^^^ lvEngine s.flt.inj
      let inj := s.flt.inj.any (fun i => i.id == 8)
      let s := { s with
        lock := { s.lock with ecycle := s.lock.ecycle + 1 }
        flt := { s.flt with inj := s.flt.inj.filter (fun i => i.id != 8) } }
      if d = 0 then s
      else
        let s := [0, 1, 2, 3].foldl (fun s n => s.wr (LNT_ECMPDIFF n) (d.extractLsb' (32 * n) 32)) s
        let s := s.wr LNT_ECMPCYC (BitVec.ofNat 32 s.lock.ecycle)
        s.raise ⟨0x08, BitVec.ofNat 32 ((lowestBit 128 0 d.toNat).getD 0 + 256 * 3), none, inj, false⟩)

/-! ## Rolling signature -/

/-- The word in slot `n` of the scan list (Table 3.9). -/
def State.scanWord (s : State) (n : Nat) : Word :=
  let csr (k : Nat) : Word := (s.csrRead k).getD 0
  if n < 31 then s.reg (n + 1)
  else if n < 35 then (s.acc ((n - 31) / 2)).extractLsb' (32 * ((n - 31) % 2)) 32
  else if n < 44 then csr ([0x010, 0x011, 0x012, 0x000, 0x001, 0x002, 0x003, 0x013, 0x004].getD (n - 35) 0)
  else if n < 107 then s.csrRaw (0x100 + 8 * ((n - 44) / 7) + (n - 44) % 7)
  else if n = 107 then csr 0x014
  else if n = 108 then csr 0x015
  else if n = 109 then csr 0x016
  else 0

/-- `n` words of the scan list from slot `k` on. -/
def State.scanList (s : State) (k : Nat) : Nat → List Word
  | 0 => []
  | n + 1 => s.scanWord k :: s.scanList (k + 1) n

/-- The signature bits that waiting LS injections invert for copy `c`. -/
def lsMask (c : Nat) : List Injection → Word
  | [] => 0
  | i :: t => (if i.id = 3 && i.arg / 256 % 4 = c then bit (i.arg % 32) else 0) ^^^ lsMask c t

/-- The copies in the minority among three signatures: none agree, one differs, or all three. -/
def sigMinority (a b c : Word) : Option Nat :=
  if a = b && b = c then none else if a = b then some 4 else if a = c then some 2 else if b = c then some 1 else some 7

/-- The copies' signatures are compared (R86, R87): `sig` is that of the words scanned, the operands what each copy's differs by. A
minority shown as lead keeps LNT_STAT.LEAD through its window (log entry 123). -/
def State.signatures (s : State) (sig a b c : Word) : State :=
  let m (k : Nat) := lsMask k s.flt.inj
  let inj := s.flt.inj.any (fun i => i.id == 3)
  let va := sig ^^^ a ^^^ m 0
  let vb := sig ^^^ b ^^^ m 1
  let vc := sig ^^^ c ^^^ m 2
  let s := { s with flt := { s.flt with inj := s.flt.inj.filter (fun i => i.id != 3) } }
  let s := if s.copyIn 0 then s.wr (LNT_SIG 0) va else s
  let s := if s.copyIn 1 then s.wr (LNT_SIG 1) vb else s
  let s := if s.copyIn 2 then s.wr (LNT_SIG 2) vc else s
  let raise (id copies : Nat) (u : Option Nat) : State := s.raise ⟨id, BitVec.ofNat 32 copies, u, inj, false⟩
  if s.lmode = 2 then
    (match sigMinority va vb vc with
     | none => s
     | some 7 => raise 0x02 0x700 none
     | some m => raise 0x03 m (some (if m = 4 then 2 else if m = 2 then 1 else 0)))
  else if s.lmode = 1 then
    (let x := if s.copyIn 0 then va else vb
     let y := if s.copyIn 2 then vc else vb
     if x = y then s else raise 0x03 s.insvc none)
  else s

/-- ROLLING_SIGNATURE (R86, R87): the period's 64 words as they stand at its end (log entry 101); the operands are what each
copy's signature differs by. Whether a minority that leads gives up LEAD the spec does not say: it keeps it (DESIGN CHOICE, log
entry 123). -/
def execRollingSignature (a b c : Word) (s : State) : Res :=
  .next (if !s.presents then s
    else
      let sig := BitVec.ofNat 32 (crc32 (wordsBytes (s.scanList (if s.lock.half then 64 else 0) 64)))
      { s with lock := { s.lock with half := !s.lock.half } }.signatures sig a b c)

/-! ## Rekindle and join windows -/

/-- Phase 1 abandons a divide with no younger instruction retired, which runs again after the window (R125; log entry 102); one
with a younger instruction keeps its station as a pending tag record. -/
def State.dropDivide (s : State) : State :=
  match s.core.stations.find? (fun t => t.kind == .div && !t.micro && !t.younger) with
  | some t => s.onCore (fun c => { c with pc := t.at', stations := c.stations.filter (fun x => x.n != t.n) })
  | none => s

/-- Phase 1 takes a resumable micro-routine back to its checkpoint, that of the first micro-trap frame where there is one (R164),
and abandons another. -/
def State.quiesceMicro (s : State) : State :=
  match s.core.micro with
  | none => s
  | some m => match (match s.core.frame1 with
      | some k => some k
      | none => m.ck) with
    | some k => (s.microBack m k).onCore (fun c => { c with frame1 := none, frame2 := none })
    | none => s.abandon

/-- Phases 1 and 2 (Table 3.10): the multi-cycle instruction is abandoned as for an interrupt, the known results of the other
stations are written, the store buffer drains; phase 4 invalidates caches, line buffers and BTB. -/
def State.quiesce (s : State) : State :=
  let s := (s.quiesceMicro.dropDivide.land (fun t => t.kind != .div)).sbDrain.fetchInval
  s.onCore (fun c => { c with dcache := [] })

/-- An RK injection waits. -/
def State.rkInjected (s : State) : Bool := s.flt.inj.any (fun i => i.id == 5)

/-- REKINDLE (R88): phases 1 to 4 of the window that an outvoted verdict opened; a beat that differs between the majority
copies raises 0x02 and ends the window (R89). -/
def execRekindle (r : CopyBusRun) (s : State) : Res :=
  .next (match s.lock.window with
    | some w =>
      if w.join || w.moved then s
      else
        let k := s.rkInjected
        let s := { s.quiesce with flt := { s.quiesce.flt with inj := s.quiesce.flt.inj.filter (fun i => i.id != 5) } }
        let w := { w with len := w.len + r.quiesce.toNat + r.drain.toNat + 28 + 1152, moved := true, corrupt := k }
        if r.divided then (s.windowEnd w true).fault 0x02 0x700
        else { s with lock := { s.lock with window := some w } }
    | none => s)

/-- The RKCNT field of a copy. -/
def rkField (c : Nat) : Fld := ⟨LNT_RKCNT, 8 * c, 8⟩

/-- The two most recent Rekindles of each copy (R90). -/
def rkNote (l : List (Nat × Nat)) (c t : Nat) : List (Nat × Nat) :=
  let mine := (l.filter (fun p => p.1 == c)) ++ [(c, t)]
  (l.filter (fun p => p.1 != c)) ++ mine.drop (mine.length - 2)

/-- REKINDLE_VERIFY (R89): the full-pass signatures, as deviations of the three copies; an RK injection has left the minority
different. -/
def execRekindleVerify (a b c : Word) (s : State) : Res :=
  .next (match s.lock.window with
    | some w =>
      if w.join || !w.moved then s
      else
        let v (k : Nat) : Word := (if k = 0 then a else if k = 1 then b else c) ^^^ (if w.corrupt && k == w.copy then 1 else 0)
        let x := v ((w.copy + 1) % 3)
        let y := v ((w.copy + 2) % 3)
        let w := { w with len := w.len + 132 + 8 }
        if x ≠ y then (s.windowEnd w true).fault 0x02 0x700
        else if v w.copy ≠ x then
          (s.windowEnd w true).raise ⟨0x05, BitVec.ofNat 32 (2 ^ w.copy), some w.copy, w.corrupt, false⟩
        else
          let s := (s.windowEnd w false).bump (rkField w.copy) 1
          { s with lock := { s.lock with rkTimes := rkNote s.lock.rkTimes w.copy s.aoclk } }
    | none => s)

/-- REKINDLE_TIMEOUT (R88): a window not closed 2,400 CCLK after it opened ends with 0x05. -/
def execRekindleTimeout (s : State) : Res :=
  .next (match s.lock.window with
    | some w => (s.windowEnd { w with len := 2400 } true).raise ⟨0x05, BitVec.ofNat 32 (2 ^ w.copy), some w.copy, false, false⟩
    | none => s)

/-- The copy that a join brings in: the lowest one of the new mode's copies that is not in service. -/
def State.joining (s : State) : Nat :=
  (lowestBit 3 0 (svcOf s.healthy s.lock.joinMode &&& (7 - s.insvc))).getD 2

/-- A copy powered off is powered up for its join (R76). -/
def State.powerUp (s : State) (c : Nat) : State := if s.ledgerSt (0x590 + c) = 5 then s.ledger (0x590 + c) 0 else s

/-- A write of LNT_MODE (R75, R76): it may only tighten; a tighter mode starts a join, and is in force when the window ends. -/
def State.lntModeWrite (s : State) (m : Master) (v : Word) : State :=
  let x := fld v 0 2
  let new := min x 2
  let cur := s.lmode
  if !s.isSealed && m != .lamp then s.clamped LNT_MODE
  else if s.is LNT_STAT_JOINACT || s.lock.window.isSome then s.clampIf (new != cur || x != new || new == 2) LNT_MODE
  else if new ≤ cur then s.clampIf (decide (new < cur) || x != new) LNT_MODE
  else if popN 3 s.healthy < new + 1 then s.clamped LNT_MODE
  else
    let s := { s with lock := { s.lock with joinMode := new } }
    ((s.powerUp s.joining).put LNT_STAT_JOINACT 1).clampIf (x != new) LNT_MODE

/-- LNT_MODE_WRITE (R75). -/
def execLntModeWrite (m : Master) (v : Word) (s : State) : Res :=
  .next (s.regCommand m LNT_MODE (fun s => s.lntModeWrite m v))

/-- Copy `c` is in service from the end of its join window (R76): the mode is that of the copies now in service, and JOINACT
stays where the mode asked for needs another copy (log entry 29). -/
def State.joinEnd (s : State) (w : Window) : State :=
  let svc := s.insvc ||| 2 ^ w.copy
  let new := popN 3 svc - 1
  let s := ((s.put LNT_MODE_MODE new).serve svc).windowEnd w false
  if new < s.lock.joinMode then (s.powerUp s.joining).put LNT_STAT_JOINACT 1 else s

/-- JOIN (R76): the join window of one copy; the new mode begins when it ends, and a failed verification raises 0x05, whose
reaction retires the copy. -/
def execLntJoin (r : CopyBusRun) (ok : Bool) (s : State) : Res :=
  .next (if !s.is LNT_STAT_JOINACT || s.lock.window.isSome || !s.presents then s
    else
      let c := s.joining
      let k := s.rkInjected
      let w : Window := ⟨true, c, r.quiesce.toNat + r.drain.toNat + 28 + 1152 + 132 + 8, true, k⟩
      let s := { s.quiesce with flt := { s.quiesce.flt with inj := s.quiesce.flt.inj.filter (fun i => i.id != 5) } }
      if r.divided then (s.windowEnd w true).fault 0x02 0x700
      else if ok && !k then s.joinEnd w
      else (s.windowEnd w true).raise ⟨0x05, BitVec.ofNat 32 (2 ^ c), some c, k, false⟩)

/-! ## Lantern self-test -/

/-- The vectors aligned in the cycle tested: those given where the cycle is idle, else those of the stall cycle that the Lantern
inserts (R92, R93). -/
def State.testIdle (s : State) (t : LanternTest) : Bool :=
  if t.engine then (engineVector t.p ||| engineVector t.q) &&& evValid == 0
  else (s.copyIn 0 && s.cvAligned 0 t.a &&& cvValid != 0 || s.copyIn 1 && s.cvAligned 1 t.b &&& cvValid != 0 ||
    s.copyIn 2 && s.cvAligned 2 t.c &&& cvValid != 0) == false

/-- The vector of Copy `k` in the cycle tested, in true form. -/
def State.testVector (s : State) (t : LanternTest) (k : Nat) : BitVec 256 :=
  let x := if k = 0 then t.a else if k = 1 then t.b else t.c
  if s.testIdle t then s.cvAligned k x else haltVector.bits ^^^ x.differs

/-- The real comparator reports a difference in the cycle tested, or did in the 3 cycles before (R94). -/
def State.testReal (s : State) (t : LanternTest) : Bool :=
  t.near || (if t.engine then engineVector t.p != engineVector t.q
    else (s.verdict (s.testVector t 0) (s.testVector t 1) (s.testVector t 2)).isSome)

/-- What the shadow comparator reports when bit `p` of copy `k`'s vector is inverted on its path (R92): the difference and the
minority copy; two vectors name no minority, and the copy inverted stands for it (log entry 121). -/
def State.shadow (s : State) (t : LanternTest) (p k : Nat) : BitVec 256 × Nat :=
  let x (c : Nat) := s.testVector t c ^^^ (if c = k then BitVec.ofNat 256 (2 ^ p) else 0)
  let r := if t.engine then (if engineVector t.p ^^^ BitVec.ofNat 128 (2 ^ p) = engineVector t.q then none
      else some ((engineVector t.p ^^^ BitVec.ofNat 128 (2 ^ p) ^^^ engineVector t.q).setWidth 256, k))
    else (s.verdict (x 0) (x 1) (x 2)).map (fun v => (v.diff, v.minority.getD k))
  let y := r.getD (0, k)
  (y.1 ^^^ t.defect, match t.names with
    | some c => c.toNat
    | none => y.2)

/-- LANTERN_SELF_TEST (R92–R94): one self-test period of one Lantern. With no idle cycle a stall cycle is inserted; a real
difference discards the test; otherwise the shadow comparator must report bit p (and for Lantern-C copy k), else 0x04 or 0x09.
Lantern-C is idle in SINGLE (Table 3.1). -/
def execLanternSelfTest (t : LanternTest) (s : State) : Res :=
  .next (if s.lock.window.isSome || s.is LNT_STAT_JOINACT || !(if t.engine then s.engineRuns else s.presents && s.lmode != 0) then s
    else
      let real := s.testReal t
      let p := s.get (if t.engine then LNT_STSTAT_PE else LNT_STSTAT_PC)
      let k := s.get LNT_STSTAT_KC
      let report := s.shadow t p k
      let s := if s.testIdle t then s
        else
          let s := s.bump LNT_BUBBLE_COUNT 1
          if t.engine then { s with lock := { s.lock with ecycle := s.lock.ecycle + 1 } } else s.advance 1
      if real then s.bump LNT_STRETRY_COUNT 1
      else
        let id := if t.engine then 0x09 else 0x04
        let miss := s.flt.inj.any (fun i => i.id == id)
        let s := { s with flt := { s.flt with inj := s.flt.inj.filter (fun i => i.id != id) } }
        let ok := !miss && report.1 == BitVec.ofNat 256 (2 ^ p) && (t.engine || report.2 == k)
        let s := if t.engine then
            (s.flag LNT_STSTAT_OKE ok).put LNT_STSTAT_PE ((s.get LNT_STSTAT_PE + 37) % 128)
          else
            ((s.flag LNT_STSTAT_OKC ok).put LNT_STSTAT_PC ((s.get LNT_STSTAT_PC + 37) % 256)).put LNT_STSTAT_KC
              (nextCopy s.insvc (s.get LNT_STSTAT_KC))
        if ok then s else s.raise ⟨id, 0, none, miss, false⟩)

/-! ## Crossings and contests -/

/-- The crossings of Table 1.3 that end in an admission gate (R26), and the gates of Table 10.9 (R283). -/
def crossing : AdmGate → AdmSource → Bool
  | .ce, .port _ => true
  | .ce, .host => true
  | .ce, .mgmt => true
  | .ce, .ring => true
  | .ce, .slice _ => true
  | .ce, .adc _ => true
  | .cluster, .ceToBus => true
  | .ce, .busToCe => true
  | .ce, .units => true
  | .cluster, .wickTick => true
  | .ce, .wickTick => true
  | .cluster, .faultCollector => true
  | .cluster, .snuffNotice => true
  | .cluster, .tck => true
  | .cluster, .sramWrite _ => true
  | _, _ => false

/-- ADMISSION (R27, R112): the input is stamped with its slot and delivered alike to every replica; a rail pair driven equal,
or a DR injection, raises 0x0A; an SRAM write of another master invalidates the data cache line. An input that crosses no
gate of Table 1.3 or 10.9 is not admitted. -/
def execAdmission (g : AdmGate) (src : AdmSource) (railsEqual : Bool) (s : State) : Res :=
  .next (if !crossing g src then s
    else if !(match g with
      | .cluster => s.presents
      | .ce => s.engineRuns) then s
    else
      let inj := s.flt.inj.any (fun i => i.id == 0x0A)
      if railsEqual || inj then
        { s with flt := { s.flt with inj := s.flt.inj.filter (fun i => i.id != 0x0A) } }.raise ⟨0x0A, 0, none, inj, false⟩
      else
        let l := match g with
          | .cluster => { s.lock with admCluster := some (src, s.core.cycle) }
          | .ce => { s.lock with admCe := some (src, s.lock.ecycle) }
        let s := { s with lock := l }
        match src with
        | .sramWrite a => s.dinval (a.toNat / 32 * 32) (a.toNat / 32 * 32 + 32)
        | _ => s)

/-- The key of a target in the round-robin record. -/
def targetKey : Target → Nat
  | .flash b => b.toNat
  | .sram b => 2 + b.toNat
  | .scratchpad => 6

/-- CONTEST_LIMIT (R32): a master that has lost 64 consecutive contests takes the next cycle and the cluster waits 1 CCLK; the
round robin goes on from it. -/
def execContestLimit (m : Master) (t : Target) (s : State) : Res :=
  .next (if m == .cluster then s
    else
      (fun s : State => if s.running then s.advance 1 else s)
        { s with memi := { s.memi with turn := Store.set (fun _ => 0) s.memi.turn (targetKey t) m.id } })

end Sys2Proof.Machine
end

