-- ==== Sys2Proof/Machine/Ce.lean ====
section
/-! DEFINITION. The Channel Engine (spec/10): queues and doorbells, fetching and accepting operations, the direct lane,
completions and events, and the operations that the engine carries out itself. -/
namespace Sys2Proof.Machine

/-- The engine's clock runs: LIT, or EMBER on AOCLK (R288). -/
def State.ceClock (s : State) : Bool := s.engineRuns && s.pstate != 4

/-- The engine carries out operations: its clock runs, and the member is not a STANDBY (R379). -/
def State.ceOn (s : State) : Bool := s.ceClock && s.get RING_PSTAT_ROLE != 2

/-- A status event of the CE (CE_IRQ). -/
def State.ceIrq (s : State) (f : Fld) : State := s.put f 1

/-! ## Writing entries -/

/-- An entry is written to an enabled queue of the given type that is not full (R259, R266, R267); none where it must wait.
A refused write is lost and recorded (spec/10, Edges). -/
def State.cePost (s : State) (ty q : Nat) (w0 : Word) (pbit : Nat) (d : BitVec 64) (t : Word) : Option State :=
  let tail := s.get (CE_QPTR_TAIL q)
  let next := (tail + 1) % s.qDepth q
  if s.get (CE_QCFG_TYPE q) != ty || !s.is (CE_QCFG_EN q) || next == s.get (CE_QPTR_HEAD q) then none
  else
    let w := w0 ||| (if s.is (CE_QPTR_PHASE q) then bit pbit else 0)
    let r := s.mWrites .ce ((s.rd (CE_QBASE q)).toNat + 16 * tail) [w, d.extractLsb' 0 32, d.extractLsb' 32 32, t]
    let s := if r.2 then r.1 else r.1.wr CE_NTSTAT (BitVec.ofNat 32 stRefused)
    let s := s.put (CE_QPTR_TAIL q) next
    let s := if next = 0 then s.flag (CE_QPTR_PHASE q) (!s.is (CE_QPTR_PHASE q)) else s
    some (s.qFullSync q)

/-- A queue is found full: fault 0x32 once, with its number (R262; spec/10, Edges). -/
def State.ceFull (s : State) (q : Nat) : State :=
  let s := s.ceIrq CE_IRQ_CQFULL
  if s.ce.full.contains q then s
  else (s.onCe (fun c => { c with full := c.full ++ [q] })).faultOn 0x32 q q

/-- A queue is isolated (R39). -/
def State.qIsolated (s : State) (q : Nat) : Bool := s.flt.isolated.contains (.queue q)

/-- A completion entry for SQ `q` (R266): written to the paired CQ, discarded where that is isolated, or none where it waits. -/
def State.cqDeliver (s : State) (q : Nat) (w0 : Word) (d : BitVec 64) (t : Word) : Option State :=
  if s.qIsolated (s.pairOf q) then some s else s.cePost 2 (s.pairOf q) w0 15 d t

/-- An entry that holds no tag: written, or kept until its CQ has room. -/
def State.ceLate (s : State) (e : QEntry) : State :=
  match s.cqDeliver e.q e.w0 e.data e.time with
  | some s => s
  | none => (s.onCe (fun c => { c with late := c.late ++ [e] })).ceFull (s.pairOf e.q)

/-- The waiting entries without tags are offered to their queues again, in order. -/
def State.lateFlush (s : State) : List QEntry → State
  | [] => s
  | e :: t => (s.ceLate e).lateFlush t

/-- An event entry is written to its EQ or kept in the event buffer; with 64 there it is discarded and counted (R280). -/
def State.eqPost (s : State) (e : QEntry) : State :=
  let waiting := s.ce.events.any (fun x => x.q == e.q)
  match (if waiting then none else s.cePost 3 e.q e.w0 31 e.data e.time) with
  | some s => s
  | none =>
    let s := s.ceFull e.q
    if 64 ≤ s.ce.events.length then (s.bump CE_EVLOST_COUNT 1).ceIrq CE_IRQ_EVLOST
    else s.onCe (fun c => { c with events := c.events ++ [e] })

/-- The buffered events are offered to their queues again, in order. -/
def State.eventFlush (s : State) : List QEntry → State
  | [] => s
  | e :: t => (s.eqPost e).eventFlush t

/-- A completion waits for the CQ `q` to be written (R262). -/
def State.cqWaits (s : State) (q : Nat) : Bool :=
  s.ce.late.any (fun e => s.pairOf e.q == q) ||
  s.ce.ops.any (fun o => o.result.isSome && !o.held && (match o.src with
    | .sq x => s.pairOf x == q
    | .lane => false))

/-- A queue has room again: entries that waited for it are written (R262, R280). Its fault can be raised anew, but not by a
completion that waits for a CQ which is none now. -/
def State.qFlush (s : State) (q : Nat) : State :=
  let s := if s.get (CE_QCFG_TYPE q) == 2 || !s.cqWaits q then s.onCe (fun c => { c with full := c.full.filter (fun x => x != q) })
    else s
  let l := s.ce.late
  let e := s.ce.events
  ((s.onCe (fun c => { c with late := [], events := [] })).lateFlush l).eventFlush e

/-! ## Doorbells and configuration -/

/-- A doorbell (R259) through the register at `a`: the new TAIL of an SQ or HEAD of a CQ or EQ, clamped to the depth; entries
that wait for the queue are written where it now has room (R262). -/
def State.doorbellAt (s : State) (a q : Nat) (v : Word) : State :=
  let x := fld v 0 12
  let c := min x (s.qDepth q - 1)
  let s := s.clampIf (c != x) a
  if s.get (CE_QCFG_TYPE q) = 1 then (s.put (CE_QPTR_TAIL q) c).qFullSync q
  else if s.get (CE_QCFG_TYPE q) = 0 then s
  else
    let s := (s.put (CE_QPTR_HEAD q) c).qFullSync q
    if s.is (CE_QPTR_FULL q) then s else s.qFlush q

/-- A write of CE_QDBq (R259). -/
def State.ceDoorbell (s : State) (q : Nat) (v : Word) : State := s.doorbellAt (CE_QDB q) q v

/-- DOORBELL (R259): a write of CE_QDBq by any master. -/
def execDoorbell (m : Master) (q : BitVec 8) (v : Word) (s : State) : Res :=
  .next (s.regCommand m (CE_QDB q.toNat) (fun s => s.ceDoorbell q.toNat v))

/-- The fields of CE_QCFGq that a write gives: TYPE and PAIR of queues 0 and 1 are fixed. -/
def State.qcfgFields (s : State) (q : Nat) (v : Word) : Word × Bool :=
  let old := s.rd (CE_QCFG q)
  let d := clampLegal [(3, 12, 1)] (fld v 2 4)
  let pr := clampLegal [(1, 255, 1)] (fld v 8 8)
  let w := BitVec.ofNat 32 ((if q < 2 then fld old 0 2 else fld v 0 2) + d * 4 + fld v 6 1 * 64 +
    (if q = 0 then 1 else pr) * 256 + fld v 16 7 * 2 ^ 16 + fld v 23 1 * 2 ^ 23)
  (w, d != fld v 2 4 || (q != 0 && pr != fld v 8 8))

/-- A queue is enabled: pointers and phase at their start (R261); its isolation ends where its faults are not pending (log
entry 15). -/
def State.qEnable (s : State) (q : Nat) : State :=
  let s := s.wr (CE_QPTR q) 0x10000000
  let ok := !(s.pend 0x30 || s.pend 0x31 || s.pend 0x32)
  let s := if ok then { s with flt := { s.flt with isolated := s.flt.isolated.filter (fun u => u != IsoUnit.queue q) } } else s
  ((if s.qIsolated q then s else s.ledgerSet (0x400 + q) 1).qFullSync q).qFlush q

/-- A write of CE_QBASEq or CE_QCFGq (R261, R262). -/
def State.qcfgWrite (s : State) (a : Nat) (v : Word) : State :=
  let q := (a - 0x40011000) / 16
  let base := (a - 0x40011000) % 16 = 0
  let en := s.is (CE_QCFG_EN q)
  if base then
    (if en then s.clamped a
     else
       let b := fld v 4 16
       let c := min b 0xBFFF
       let c := if s.get (CE_QCFG_TYPE q) = 1 then c / 2 * 2 else c
       ((s.wr a (BitVec.ofNat 32 (0x10000000 + 16 * c))).clampIf (c != b) a).mirrorReg a)
  else
    let r := s.qcfgFields q v
    if en && bitOf v 6 then s.clamped a
    else if en then
      let s := ((s.wr a r.1).clampIf r.2 a).mirrorReg a
      (s.qFullSync q).ledgerSet (0x400 + q) (if s.qIsolated q then 3 else 0)
    else if !bitOf v 6 then (((s.wr a r.1).clampIf r.2 a).mirrorReg a).qFullSync q
    else
      let t := s.wr a r.1
      let p := t.pairOf q
      if t.get (CE_QCFG_TYPE q) = 1 && !(t.get (CE_QCFG_TYPE p) == 2 && t.is (CE_QCFG_EN p)) then
        ((t.put (CE_QCFG_EN q) 0).clamped a).mirrorReg a
      else ((t.clampIf r.2 a).mirrorReg a).qEnable q

/-- CE_QCFG_WRITE (R261): a write of CE_QBASEq or CE_QCFGq. -/
def execCeQcfgWrite (m : Master) (addr : Word) (v : Word) (s : State) : Res :=
  let a := addr.toNat
  .next (if decide (0x40011000 ≤ a) && decide (a < 0x40012000) && (a % 16 = 0 || a % 16 = 4) then
      s.regCommand m a (fun s => s.qcfgWrite a v) else s)

/-- A write of CE_DLWIN or CE_TWINq: TCNT is at most 1,024 − TBASE. -/
def State.twinWrite (s : State) (a : Nat) (v : Word) : State :=
  let b := fld v 0 10
  let n := min (fld v 16 11) (1024 - b)
  ((s.wr a (BitVec.ofNat 32 (b + n * 65536))).clampIf (n != fld v 16 11) a).mirrorReg a

/-- A write of CE_CTL (R282); at a STANDBY a write of RUN = 1 is ignored and counts (R379). -/
def State.ceCtlWrite (s : State) (v : Word) : State :=
  if s.get RING_PSTAT_ROLE == 2 then s.clampIf (bitOf v 0) CE_CTL
  else (s.put CE_CTL_RUN (fld v 0 1)).mirrorReg CE_CTL

/-- CE_CTL_WRITE (R282). -/
def execCeCtlWrite (m : Master) (v : Word) (s : State) : Res := .next (s.regCommand m CE_CTL (fun s => s.ceCtlWrite v))

/-! ## Starting operations -/

/-- The ledger entries of a bound unit. -/
def State.unitEntries (s : State) (kind u : Nat) : List Nat :=
  if kind = 0 then [0x510 + u % 128]
  else if kind = 1 then [0x600 + u % 4096 / 8, 0x500 + s.partnerPort (u % 4096)]
  else if kind = 3 then [0x5C0 + u % 64]
  else []

/-- The ledger entries of the units that an operation touches (R287). -/
def State.touched (s : State) (o : CeOp) : List Nat :=
  (match o.chan with
   | some i => i :: s.unitEntries (s.chKind i) (s.chBound i)
   | none => []) ++
  (match o.src with
   | .sq q => [0x400 + q]
   | .lane => []) ++
  (if o.op = 0xC then s.unitEntries (fld (o.arg 0) 0 3) (o.arg 1).toNat
   else if o.op = 0xD then [fld (o.arg 0) 0 10] else [])

/-- The arguments lie inside Table 10.6. -/
def CeOp.argsOk (o : CeOp) : Bool :=
  let a := o.arg 0
  let u := (o.arg 1).toNat
  if o.op = 1 then (decide (1 ≤ fld a 8 8) && decide (fld a 8 8 ≤ 8)) || fld a 16 3 == 4 || fld a 16 3 == 6
  else if o.op = 2 then decide (fld a 8 8 ≤ 8) || fld a 16 3 == 4 || fld a 16 3 == 6
  else if o.op = 3 then decide (fld (o.arg 2) 0 16 ≤ 4096) && decide (fld (o.arg 2) 16 16 ≤ 4096)
  else if o.op = 8 then a != 0
  else if o.op = 9 then inSram a.toNat && decide (1 ≤ u) && decide (u ≤ 64) && inSram (a.toNat + u - 1)
  else if o.op = 0xC then
    (let k := fld a 0 3
     if k = 0 then decide (u < 128) else if k = 1 then decide (u < 4096)
     else if k = 3 then decide (u < 65536) && u / 64 % 4 == 0
     else decide (k ≤ 4) && u == 0)
  else true

/-- The mailbox channels among the first `n` whose SQ is `q`. -/
def State.mailboxOf (s : State) (q : Nat) : Nat → Option Nat
  | 0 => none
  | n + 1 => match s.mailboxOf q n with
    | some c => some c
    | none => if s.is (HOST_MBCFG_EN n) && s.get (HOST_MBCFG_SQ n) == q then some n else none

/-- The source does not permit the opcode (R271, R396). -/
def State.badSource (s : State) (o : CeOp) : Bool :=
  match o.src with
  | .lane => o.op == 0xF
  | .sq q =>
    ((o.op == 0xC || o.op == 0xD) && q != 0) || o.op == 0xF ||
    (match s.mailboxOf q 8 with
     | some c => !bitOf (s.rd (HOST_MBOPS c)) o.op || o.op == 0xC || o.op == 0xD
     | none => false)

/-- A DESTROY, started and not failed, of the operation's channel. -/
def CeOp.destroys (e o : CeOp) : Bool :=
  e.op == 0xD && e.started && o.chan.isSome && fld (e.arg 0) 0 16 == o.handle && (match e.result with
    | some r => r.status == stOk
    | none => true)

/-- A DESTROY of the operation's channel is in progress (R277). -/
def State.draining (s : State) (o : CeOp) : Bool := s.ce.ops.any (fun e => e.destroys o)

/-- That DESTROY has set its fence (R277). -/
def State.fenced (s : State) (o : CeOp) : Bool := s.ce.ops.any (fun e => e.destroys o && e.result.isSome)

/-- The slot in which an operation's result was admitted; 0 for none. -/
def CeOp.slot (o : CeOp) : Nat :=
  match o.result with
  | some r => r.slot
  | none => 0

/-- The operation was accepted before the fence of its channel's DESTROY (R277): its result is no later than the fence. -/
def State.beforeFence (s : State) (o : CeOp) : Bool := s.ce.ops.any (fun e => e.destroys o && decide (o.slot ≤ e.slot))

/-- A unit of the operation is isolated (R39). -/
def State.opIsolated (s : State) (o : CeOp) : Bool :=
  let iso (u : IsoUnit) : Bool := s.flt.isolated.contains u
  (match o.src with
   | .sq q => iso (.queue q) || (List.range 8).any (fun c => s.get (HOST_MBCFG_SQ c) == q && iso (.mailbox c))
   | .lane => false) ||
  (match o.chan with
   | some i =>
     iso (.channel i) ||
     (s.chKind i == 1 && (iso (.partner (s.chBound i)) || iso (.port (s.partnerPort (s.chBound i))))) ||
     (s.chKind i == 0 && iso (.slice (s.chBound i))) ||
     (s.chKind i == 3 && iso (.member (s.chBound i % 64)))
   | none => false)

/-- A PORT_READ or PORT_WRITE of a LOOP channel, which has no protocol, whose length lies outside 1 to 8 or 0 to 8 (R271). -/
def State.loopBad (s : State) (o : CeOp) : Bool :=
  (match o.chan with
   | some i => s.chKind i == 4
   | none => false) &&
  ((o.op == 1 && fld (o.arg 0) 8 8 == 0) || ((o.op == 1 || o.op == 2) && decide (8 < fld (o.arg 0) 8 8)))

/-- The status with which an operation fails at its start before the ledger is asked (R270, R277). -/
def State.startBad (s : State) (o : CeOp) : Option Nat :=
  if s.draining o then some stCancelled
  else if 0xF < o.op then some stBadop
  else if s.badSource o then some stBadsrc
  else if !o.argsOk || s.loopBad o then some stBadarg
  else none

/-- The ledger entries that an operation's start reads (R278, R284): whether any is under MGMT-HOLD. -/
def State.heldCheck (s : State) : List Nat → State × Bool
  | [] => (s, false)
  | i :: t =>
    let r := s.ledgerRead (CE_LEDGER i)
    let x := r.1.heldCheck t
    (x.1, bitOf r.2 16 || x.2)

/-- The status with which it fails at its unit (R39, R288, R428); none where it starts. -/
def State.startUnit (s : State) (o : CeOp) : Option Nat :=
  if s.opIsolated o then some stIsolated
  else if (s.pstate != 5 || !s.is CLK_STAT_ECLKPLLB) && (o.op == 6 || o.op == 9) then some stUnavail
  else none

/-- The operation is a fence of its source (R275). -/
def CeOp.barrier (o : CeOp) : Bool := o.flags % 2 == 1 || o.op == 0xB

/-- An earlier operation `e` keeps `o` from starting (R275, R277); WAIT_EVENTs are ordered among themselves only. -/
def CeOp.waitsFor (o e : CeOp) : Bool :=
  !e.held &&
  ((e.src == o.src && (o.barrier || e.barrier)) || (o.sameChan e && !e.started && (o.op == 7) == (e.op == 7)) ||
   ((o.op == 0xC || o.op == 0xD) && (e.op == 0xC || e.op == 0xD)))

/-- A cancelled operation is counted by the DESTROY of its channel (R277). -/
def State.countCancel (s : State) (o : CeOp) : State :=
  s.onCe (fun c => { c with ops := c.ops.map (fun e =>
    if e.destroys o then { e with cancelled := e.cancelled + 1 } else e) })

/-- Operation `o` starts, or ends with the status that stops it (R270, R287). -/
def State.ceStart (s : State) (o : CeOp) : State :=
  match s.startBad o with
  | some st => (if st = stCancelled then s.countCancel o else s).ceDone o.tag st 0
  | none =>
    let r := s.heldCheck (s.touched o)
    match (if r.2 then some stHeld else r.1.startUnit o) with
    | some st => r.1.ceDone o.tag st 0
    | none => r.1.ceMap o.tag (fun o => { o with started := true })

/-- The operations at places `i` to `i + n − 1` start where nothing keeps them. -/
def State.ceStartFrom (s : State) (i : Nat) : Nat → State
  | 0 => s
  | n + 1 =>
    (match s.ce.ops[i]? with
     | some o => if o.started || o.result.isSome || (s.ce.ops.take i).any o.waitsFor then s else s.ceStart o
     | none => s).ceStartFrom (i + 1) n

/-- Every operation that can start does. -/
def State.ceStartAll (s : State) : State := s.ceStartFrom 0 s.ce.ops.length

/-- An operation is accepted (R269, R273): a stale handle, a channel that a DESTROY drains (R277) or a wrong kind ends it at
once; a reserved opcode ends it at its start (R270). -/
def State.ceAccept (s : State) (o : CeOp) : State :=
  let s := s.onCe (fun c => { c with ops := c.ops ++ [o] })
  let s :=
    if needsChannel o.op && !s.current o.handle then
      let s := s.ceDone o.tag stStale 0
      s.raise ⟨0x31, BitVec.ofNat 32 (o.handle + o.tag * 65536), (match o.src with
        | .sq q => some q
        | .lane => none), false, false⟩
    else if s.draining o then (s.countCancel o).ceDone o.tag stCancelled 0
    else if needsChannel o.op && !kindOk o.op (s.chKind (o.handle % 1024)) then s.ceDone o.tag stKind 0
    else s
  s.ceStartAll

/-! ## Fetching entries -/

/-- An SQ whose next entry the CE may fetch (R264, R274). -/
def State.sqReady (s : State) (q : Nat) : Bool :=
  s.get (CE_QCFG_TYPE q) == 1 && s.is (CE_QCFG_EN q) && s.qPending q && !s.is (CE_QPTR_STALL q) && !s.qIsolated q

/-- The first ready SQ among `n` queues from `k` on, queue 0 passed over. -/
def State.nextSq (s : State) (k : Nat) : Nat → Option Nat
  | 0 => none
  | n + 1 => if k % 256 != 0 && s.sqReady (k % 256) then some (k % 256) else s.nextSq (k + 1) n

/-- The SQ whose turn it is (R264): queue 0 first, else the next after the one last served. -/
def State.turnSq (s : State) : Option Nat := if s.sqReady 0 then some 0 else s.nextSq (s.ce.served + 1) 256

/-- HEAD moves past the entry fetched. -/
def State.sqAdvance (s : State) (q : Nat) : State :=
  (s.put (CE_QPTR_HEAD q) ((s.get (CE_QPTR_HEAD q) + 1) % s.qDepth q)).qFullSync q

/-- An entry completes with NT = 1 (R270): recorded, and its completion identifies it. -/
def State.ceNoTag (s : State) (q idx status : Nat) : State :=
  let s := (s.wr CE_NTQ (BitVec.ofNat 32 (q + idx * 256))).wr CE_NTSTAT (BitVec.ofNat 32 status)
  let s := s.ceIrq CE_IRQ_NTERR
  s.ceLate ⟨q, BitVec.ofNat 32 (1024 + status * 65536), BitVec.ofNat 64 (q + idx * 256), s.ceTime⟩

/-- A tag lies in a window register's range (R273). -/
def State.inWindow (s : State) (a tag : Nat) : Bool :=
  decide (fld (s.rd a) 0 10 ≤ tag) && decide (tag < fld (s.rd a) 0 10 + fld (s.rd a) 16 11)

/-- The operation that an SQ entry's eight words describe (Table 10.1). -/
def entryOp (q : Nat) (ws : List Word) : CeOp :=
  let w0 := ws.getD 0 0
  let w1 := ws.getD 1 0
  ⟨fld w1 0 10, fld w0 24 5, fld w0 0 16, fld w0 16 8, fld w1 16 16, (ws.drop 2).take 4, .sq q, false, false, none, false, 0⟩

/-- The fetch of one entry of SQ `q` (R265, R270, R274, R278). -/
def State.ceFetch (s : State) (q : Nat) : State :=
  let idx := s.get (CE_QPTR_HEAD q)
  let a := (s.rd (CE_QBASE q)).toNat + 32 * idx
  let inj := s.flt.inj.any (fun i => i.id == 0x30 && i.arg == q)
  let s := { s with flt := { s.flt with inj := s.flt.inj.filter (fun i => !(i.id == 0x30 && i.arg == q)) } }
  match s.refusal .ce .read a with
  | some r => ((s.refuseOther .ce .read a r).sqAdvance q).ceNoTag q idx stRefused
  | none =>
    let r := s.mReads .ce a 8
    let s := r.1
    let ws := r.2.1
    let crc := crc16 ((wordsBytes ws).take 30)
    if crc != fld (ws.getD 7 0) 16 16 || inj then
      let s := s.raise ⟨0x30, BitVec.ofNat 32 q, some q, inj, false⟩
      (s.sqAdvance q).ceNoTag q idx stCrcerr
    else
      let o := entryOp q ws
      if !s.inWindow (CE_TWIN q) o.tag then
        (s.sqAdvance q).ceLate ⟨q, BitVec.ofNat 32 (o.tag + stBadarg * 65536), 0, s.ceTime⟩
      else if s.tagHeld o.tag then
        (((s.put (CE_QPTR_STALL q) 1).mirrorReg (CE_QPTR q)).ceIrq CE_IRQ_TAGSTALL).fault 0x33 (q + o.tag * 65536)
      else (s.sqAdvance q).ceAccept o

/-- The turn of SQ `q` is served: one entry is fetched (R264). -/
def State.ceServe (s : State) (q : Nat) : State :=
  (if q = 0 then s else s.onCe (fun c => { c with served := q })).ceFetch q

/-- QUEUE_ENTRY_FETCH (R264, R278). -/
def execQueueEntryFetch (s : State) : Res :=
  .next (if !s.ceOn || !s.is CE_CTL_RUN then s
    else match s.turnSq with
      | none => s
      | some q => s.ceServe q)

/-- TAG_STALL_RESUME (R274): the tag that stalled the SQ has freed; its entry is fetched again, at once where it is the SQ's
turn (R264). -/
def execTagStallResume (q : BitVec 8) (s : State) : Res :=
  let q := q.toNat
  let a := (s.rd (CE_QBASE q)).toNat + 32 * s.get (CE_QPTR_HEAD q)
  .next (if !s.ceOn || !s.is CE_CTL_RUN || !s.is (CE_QPTR_STALL q) || s.tagHeld (fld (s.wordAt (a + 4)) 0 10) then s
    else
      let s := (s.put (CE_QPTR_STALL q) 0).mirrorReg (CE_QPTR q)
      if s.turnSq == some q then s.ceServe q else s)

/-! ## The direct lane -/

/-- The lowest free tag among `n` from `k` on. -/
def State.freeTag (s : State) (k : Nat) : Nat → Option Nat
  | 0 => none
  | n + 1 => if s.tagHeld k then s.freeTag (k + 1) n else some k

/-- A CHISSUE's station receives its word. -/
def State.laneAnswer (s : State) (r : LaneReq) (w : Nat) : State :=
  s.onCore (fun c => { c with stations := c.stations.map (fun t =>
    if t.n == r.st && t.kind == .chissue && t.result.isNone then { t with result := some (BitVec.ofNat 64 w) } else t) })

/-- A CHISSUE is judged at its admission (R281, R282). -/
def State.laneIssue (s : State) (r : LaneReq) : State :=
  let no (s : State) (st : Nat) : State := s.laneAnswer r (0x80000000 + st)
  if !s.is CE_CTL_RUN then no s stUnavail
  else if 0xF < r.op then no s stBadop
  else if needsChannel r.op && !s.current r.handle then no (s.fault 0x31 r.handle) stStale
  else if needsChannel r.op && !kindOk r.op (s.chKind (r.handle % 1024)) then no s stKind
  else match s.freeTag (s.get CE_DLWIN_TBASE) (s.get CE_DLWIN_TCNT) with
    | none => no (s.fault 0x33 r.handle) stTagexh
    | some t =>
      (s.laneAnswer r t).ceAccept ⟨t, r.op, r.handle, r.flags, 0, r.args, .lane, false, false, none, false, 0⟩

/-- DIRECT_LANE_ISSUE (R281): the oldest CHISSUE is admitted to the CE. -/
def execDirectLaneIssue (s : State) : Res :=
  .next (if !s.ceClock then s
    else match s.ce.lane with
      | [] => s
      | r :: t => (s.onCe (fun c => { c with lane := t })).laneIssue r)

/-- CHISSUE's issue (R138): the operation leaves for the direct lane and a station waits for its tag; none without a free
station. -/
def State.chIssue (s : State) (dest op handle flags : Nat) : Option State :=
  match s.stationFree with
  | none => none
  | some n =>
    let t : Station := ⟨n, .chissue, dest, none, s.level, 0, 0, 0, false, false, s.core.pc, false, false, false, 0, 0, false⟩
    let r : LaneReq := ⟨n, op, handle, flags, [s.reg 1, s.reg 2, s.reg 3, s.reg 4]⟩
    some ((s.addStation t).onCe (fun c => { c with lane := c.lane ++ [r] }))

/-- CHISSUE (R138). -/
def execChissue (rd ra : Reg) (s : State) : Res :=
  .next (s.instr [rd.toNat, ra.toNat, 1, 2, 3, 4] (fun s =>
    let w := s.reg ra.toNat
    match s.makeRoom.chIssue rd.toNat (fld w 24 5) (fld w 0 16) (fld w 16 8) with
    | some s => s.retireSeq 2
    | none => s.makeRoom.stall))

/-- CHISSUE_RESULT (R138): the tag or refusal that has come back is written to rd. -/
def execChissueResult (s : State) : Res := .next (s.land (fun t => t.kind == .chissue))

/-- The word that CHWAIT delivers (R139). -/
def waitWord (tag status : Nat) : Nat := status + tag % 1024 * 65536

/-- CHWAIT (R139): what it finds for the tag: the status and data of a held completion, 0xFFFE where nothing is outstanding,
or none where it must wait. -/
def State.chCollect (s : State) (tag : Nat) : State × Option (Nat × BitVec 64) :=
  match s.ce.ops.find? (fun o => o.tag == tag && o.src == .lane) with
  | none => (s, some (0xFFFE, 0))
  | some o => match o.result with
    | some r => if o.held then ((s.ceDrop tag).ceStartAll, some (r.status, r.data)) else (s, none)
    | none => (s, none)

/-- CHWAIT (R139): a held completion is collected in 2 CCLK; an outstanding operation is waited for in a station. -/
def execChwait (rd ra : Reg) (d : BitVec 1) (s : State) : Res :=
  .next (s.instr ([rd.toNat, ra.toNat] ++ (if d = 1 then [33] else [])) (fun s =>
    let tag := fld (s.reg ra.toNat) 0 10
    match s.chCollect tag with
    | (s', some (st, data)) =>
      let s := if d = 1 && st < 0xFFFE then s'.setAcc 1 data else s'
      (s.setReg rd.toNat (BitVec.ofNat 32 (waitWord tag st))).retireSeq 2
    | (s, none) =>
      let s := s.makeRoom
      match s.stationFree with
      | none => s.stall
      | some n =>
        let t : Station :=
          ⟨n, .chwait, rd.toNat, none, s.level, tag, 0, 0, false, false, s.core.pc, false, false, false, d.toNat, 0, false⟩
        (s.addStation t).retireSeq 2))

/-! ## Completions -/

/-- An isolated channel is in service again where 0x34 is not pending (R39). Chapter 10 names no restart of a channel: the model
takes its close and the next CREATE of its index (log entry 110). -/
def State.chRestart (s : State) (i : Nat) : State :=
  if s.pend 0x34 then s
  else { s with flt := { s.flt with isolated := s.flt.isolated.filter (fun u => u != IsoUnit.channel i) } }

/-- A channel's record is mirrored (class 2 of Table 13.7). -/
def State.mirrorChanOut (s : State) (i : Nat) : State := s.mirror 2 i (s.chanRecord i)

/-- A channel closes (R277): the index is free and the handle no longer current. -/
def State.chClose (s : State) (i : Nat) : State :=
  let s := ((s.put (CE_CHINFO_OPEN i) 0).mirrorChanOut i).ledgerSet i 0 |>.chRestart i
  s.onCore (fun c => { c with chans := Store.set (fun _ => 0) c.chans i 0 })

/-- What an operation's delivery leaves: a DESTROY that succeeded closes its channel; operations that waited start. -/
def State.ceFreed (s : State) (o : CeOp) (status : Nat) : State :=
  (if o.op = 0xD && status = stOk then s.chClose (fld (o.arg 0) 0 10) else s).ceStartAll

/-- A direct-lane completion reaches the CHWAIT that waits for it, or is held (R139, R281); of several that wait for one tag the
oldest receives it and the others complete with 0xFFFE (spec/05, Edges). -/
def State.laneDeliver (s : State) (o : CeOp) (r : CeRes) (d : BitVec 64) : State :=
  match s.core.stations.find? (fun t => t.kind == .chwait && t.tag == o.tag && t.result.isNone) with
  | none => (s.ceMap o.tag (fun o => { o with held := true, result := some { r with data := d } })).ceFreed o r.status
  | some t =>
    let done (x : Station) : Station := { x with
      result := some (BitVec.ofNat 64 (waitWord o.tag r.status)), opA := d.extractLsb' 0 32, opB := d.extractLsb' 32 32 }
    let none' (x : Station) : Station := { x with result := some (BitVec.ofNat 64 (waitWord o.tag 0xFFFE)) }
    let s := s.onCore (fun c => { c with stations := c.stations.map (fun x =>
      if x.n == t.n then done x
      else if x.kind == .chwait && x.tag == o.tag && x.result.isNone then none' x else x) })
    (s.ceDrop o.tag).ceFreed o r.status

/-- A result is delivered (R266, R275): to the SQ's paired CQ, or not at all for a QUIET success; on the direct lane to its
CHWAIT. A full CQ keeps the operation and its tag. -/
def State.ceDeliver (s : State) (o : CeOp) (r : CeRes) : State :=
  let d := if o.op = 0xD && r.status = stOk then BitVec.ofNat 64 o.cancelled else r.data
  match o.src with
  | .lane => s.laneDeliver o r d
  | .sq q =>
    if o.flags / 2 % 2 = 1 && r.status = stOk then (s.ceDrop o.tag).ceFreed o r.status
    else match s.cqDeliver q (BitVec.ofNat 32 (o.tag + r.status * 65536)) d r.time with
      | some s => (s.ceDrop o.tag).ceFreed o r.status
      | none => s.ceFull (s.pairOf q)

/-- The operation has been cancelled. -/
def CeOp.isCancelled (o : CeOp) : Bool :=
  match o.result with
  | some r => r.status == stCancelled
  | none => false

/-- An operation `e` that must be delivered before `o` (R275, R277): an earlier one of its channel, WAIT_EVENTs among
themselves only; behind a fence the results admitted before it in that order, then the operations cancelled that were accepted
before it, in ascending tag order, and then those accepted after it (log entry 108); for a DESTROY every one of the channel it
closes. -/
def State.follows (s : State) (o e : CeOp) (earlier : Bool) : Bool :=
  let inTurn := earlier && (o.op == 7) == (e.op == 7)
  !e.held && e.tag != o.tag &&
  ((o.sameChan e && (if s.fenced o then
      (if !o.isCancelled then !e.isCancelled && inTurn
       else if s.beforeFence o then !e.isCancelled || (s.beforeFence e && decide (e.tag < o.tag))
       else !e.isCancelled || s.beforeFence e || inTurn)
    else inTurn)) ||
   o.destroys e)

/-- The order of its channel lets the operation be delivered now (R275, R277): none that a DESTROY has cancelled before the
fence is set. -/
def State.inOrder (s : State) (o : CeOp) : Bool :=
  let i := s.ce.ops.findIdx (fun e => e.tag == o.tag)
  !(s.ce.ops.take i).any (fun e => s.follows o e true) && !(s.ce.ops.drop i).any (fun e => s.follows o e false) &&
  !(s.draining o && !s.fenced o && o.isCancelled)

/-- The operation may be delivered now: of results admitted in one slot, those that can be are delivered in ascending tag
order (R275). -/
def State.deliverable (s : State) (o : CeOp) : Bool :=
  s.inOrder o &&
  !s.ce.ops.any (fun e => e.result.isSome && !e.held && e.slot == o.slot && decide (e.tag < o.tag) && s.inOrder e)

/-- COMPLETION (R275): the admitted result of a tag is written in channel order. -/
def execCompletion (tag : BitVec 10) (s : State) : Res :=
  .next (if !s.ceClock then s
    else match s.ceFind tag.toNat with
      | none => s
      | some o => match o.result with
        | some r => if o.held || !s.deliverable o then s else s.ceDeliver o r
        | none => s)

/-- An operation's timeout in units of 10 µs (R276): its own, else its channel's; 0 none. -/
def State.opTimeout (s : State) (o : CeOp) : Nat :=
  if o.tmo = 0 then (match o.chan with
    | some i => Store.get (fun _ => 0) s.ce.chTmo i
    | none => 0)
  else o.tmo

/-- A PT injection holds the operation's transaction back (Table 2.6): SCL held low, or no reply. -/
def State.heldBack (s : State) (tag : Nat) : Bool :=
  s.ports.cur.any (fun e => match e.2 with
    | some x => x.tag == tag && (x.inj == some 1 || x.inj == some 3)
    | none => false)

/-- The timeout of `o` disarms its channel's timer (R276, R277): it is the TIMER_SET that armed it. -/
def State.disarms (s : State) (o : CeOp) : Bool :=
  o.op == 8 && o.atUnit && !((s.ce.ops.dropWhile (fun e => e.tag != o.tag)).drop 1).any (fun e =>
    e.op == 8 && e.chan == o.chan && e.atUnit && e.result.isNone)

/-- An operation without a result stops at its timeout (R276): 0x34 is raised and it completes TIMEOUT. -/
def State.timeOut (s : State) (tag : Nat) : State :=
  match s.ceFind tag with
  | none => s
  | some o =>
    if o.result.isSome || s.opTimeout o = 0 then s
    else
      let inj := s.heldBack o.tag
      let d := s.disarms o
      let s := s.ceDone o.tag stTimeout 0
      let s := if d then s.onCe (fun c => { c with
        timers := Store.set (fun _ => none) c.timers (o.handle % 1024) none }) else s
      s.raise ⟨0x34, BitVec.ofNat 32 (o.handle + o.tag * 65536), o.chan, inj, false⟩

/-- An input of the CE in DIM waits for the wake (R288). -/
def State.ceWait (s : State) (x : CeInput) : State := s.onCe (fun c => { c with waits := c.waits ++ [x] })

/-- What falls due for the CE at a wake source of DIM (R288, R420): it wakes the device and waits. -/
def State.ceWakes (s : State) (x : CeInput) : State :=
  if s.pstate == 4 && s.get RING_PSTAT_ROLE != 2 then (s.wakeBit 8).ceWait x else s

/-- OPERATION_TIMEOUT (R276); in DIM it is a wake source and acted on after the wake (R288). -/
def execOperationTimeout (tag : BitVec 10) (s : State) : Res :=
  .next (if s.ceOn then (match s.ceFind tag.toNat with
      | some o => if o.result.isSome || s.opTimeout o = 0 then s else s.wakeIn [4] 8
      | none => s).timeOut tag.toNat
    else match s.ceFind tag.toNat with
      | some o => if o.result.isSome || s.opTimeout o = 0 then s else s.ceWakes (.timeout tag.toNat)
      | none => s)

/-! ## Events -/

/-- An unsolicited event of a channel (R280); the CE of a STANDBY is stopped and posts none (R380), and in DIM the event waits
(R288). -/
def State.ceEvent (s : State) (ch code : Nat) (data : BitVec 64) : State :=
  if s.get RING_PSTAT_ROLE == 2 then s
  else if s.pstate == 4 then s.ceWait (.event ch code data)
  else match s.ce.ops.find? (fun o => o.op == 7 && o.chan == some ch && o.started && o.result.isNone) with
  | some o => s.ceDone o.tag stOk data
  | none =>
    let q := s.get (CE_CHINFO_EQ ch)
    if q = 0 then (s.bump CE_EVLOST_COUNT 1).ceIrq CE_IRQ_EVLOST
    else s.eqPost ⟨q, BitVec.ofNat 32 (s.handleOf ch + code % 256 * 65536), data, s.ceTime⟩

/-- EVENT (R280). -/
def execCeEvent (ch : BitVec 10) (code : BitVec 8) (data : BitVec 64) (s : State) : Res :=
  .next (if (s.ceOn || s.pstate == 4) && s.is (CE_CHINFO_OPEN ch.toNat) then s.ceEvent ch.toNat code.toNat data else s)

/-- TIMER_EXPIRY (R271): the period ends: it completes every TIMER_SET that the channel's timer serves (log entry 109), or posts
event 0x01; a periodic timer goes on. -/
def State.timerExpire (s : State) (ch : Nat) : State :=
  match Store.get (fun _ => none) s.ce.timers ch with
  | none => s
  | some (per, n) =>
    let s := s.onCe (fun c => { c with
      timers := Store.set (fun _ => none) c.timers ch (if per then some (true, n + 1) else none) })
    let waits (o : CeOp) : Bool := o.op == 8 && o.chan == some ch && o.atUnit && o.result.isNone
    if s.ce.ops.any waits then s.ceEnd waits stOk (BitVec.ofNat 64 ((n + 1) % 256))
    else s.ceEvent ch 1 (BitVec.ofNat 64 ((n + 1) % 256))

/-- TIMER_EXPIRY (R271, R288): in DIM it is a wake source and acted on after the wake. -/
def execTimerExpiry (ch : BitVec 10) (s : State) : Res :=
  .next (if s.ceOn then s.timerExpire ch.toNat
    else if (Store.get (fun _ => none) s.ce.timers ch.toNat).isSome then s.ceWakes (.expiry ch.toNat) else s)

/-! ## Operations of the engine itself -/

/-- An operation of one opcode runs at its unit: it has started, has no result, and is not at its unit yet. -/
def State.ceRun (s : State) (tag : BitVec 10) (op : Nat) (f : State → CeOp → State) : State :=
  if !s.ceOn then s
  else match s.ceFind tag.toNat with
    | none => s
    | some o => if o.op == op && o.started && !o.atUnit && o.result.isNone then f s o else s

/-- NOP (R270): echoes ARG0 and ARG1. -/
def execCeNop (tag : BitVec 10) (s : State) : Res :=
  .next (s.ceRun tag 0 (fun s o => s.ceDone o.tag stOk (o.arg 1 ++ o.arg 0)))

/-- WAIT_EVENT (R280): waits for the channel's next event. -/
def execWaitEvent (tag : BitVec 10) (s : State) : Res :=
  .next (s.ceRun tag 7 (fun s o => s.ceMap o.tag (fun o => { o with atUnit := true })))

/-- TIMER_SET (R271): arms the channel's timer; a new one replaces the period. -/
def execTimerSet (tag : BitVec 10) (s : State) : Res :=
  .next (s.ceRun tag 8 (fun s o =>
    let s := s.onCe (fun c => { c with
      timers := Store.set (fun _ => none) c.timers (o.handle % 1024) (some (bitOf (o.arg 1) 0, 0)) })
    s.ceMap o.tag (fun o => { o with atUnit := true })))

/-- BARRIER (R275): completes once nothing earlier of its source is left. -/
def execCeBarrier (tag : BitVec 10) (s : State) : Res := .next (s.ceRun tag 0xB (fun s o => s.ceDone o.tag stOk 0))

/-- The lowest channel index that is free, among `n` from `k` on. -/
def State.freeChan (s : State) (k : Nat) : Nat → Option Nat
  | 0 => none
  | n + 1 => if s.is (CE_CHINFO_OPEN k) then s.freeChan (k + 1) n else some k

/-- TIMER channels open among the first `n` (R271). -/
def State.timerCount (s : State) : Nat → Nat
  | 0 => 0
  | n + 1 => s.timerCount n + (if s.is (CE_CHINFO_OPEN n) && s.chKind n == 2 then 1 else 0)

/-- A channel opens at index `i` (R268, R269). -/
def State.chOpen (s : State) (i : Nat) (a0 a1 a2 : Word) : State :=
  let g := s.get (CE_CHINFO_GEN i)
  let gen := if g = 63 then 1 else g + 1
  let kind := fld a0 0 3
  let unit := if kind = 3 then a1.toNat % 64 else a1.toNat % 4096
  let w := gen + 64 + kind * 2 ^ 7 + unit * 2 ^ 10 + fld a2 16 8 * 2 ^ 22
  let s := (s.wr (CE_CHINFO i) (BitVec.ofNat 32 w)).chRestart i
  let s := s.ledgerSet i (if s.flt.isolated.contains (.channel i) then 3 else 1)
  let s := s.onCore (fun c => { c with chans := Store.set (fun _ => 0) c.chans i (chanEntry gen (kind + 1)) })
  (s.onCe (fun c => { c with
    chTmo := Store.set (fun _ => 0) c.chTmo i (fld a2 0 16), chUnit := Store.set (fun _ => 0) c.chUnit i a1.toNat
    arm := Store.set (fun _ => 0) c.arm i 0, loop := Store.set (fun _ => 0) c.loop i 0
    timers := Store.set (fun _ => none) c.timers i none })).mirrorChanOut i

/-- CREATE (R268, R271). -/
def execCreate (tag : BitVec 10) (s : State) : Res :=
  .next (s.ceRun tag 0xC (fun s o =>
    match s.freeChan 0 1024 with
    | none => s.ceDone o.tag stNochan 0
    | some i =>
      if fld (o.arg 0) 0 3 = 2 && 64 ≤ s.timerCount 1024 then s.ceDone o.tag stNochan 0
      else
        let s := s.chOpen i (o.arg 0) (o.arg 1) (o.arg 2)
        s.ceDone o.tag stOk (BitVec.ofNat 64 (s.handleOf i))))

/-- DESTROY (R277): the channel drains, every operation on it without a result is cancelled, and its own result follows. -/
def execDestroy (tag : BitVec 10) (s : State) : Res :=
  .next (s.ceRun tag 0xD (fun s o =>
    let h := fld (o.arg 0) 0 16
    if !s.current h then s.ceDone o.tag stStale 0
    else
      let i := h % 1024
      let s := s.ledgerSet i 2
      let n := (s.ce.ops.filter (fun e => e.chan == some i && e.result.isNone)).length
      let s := s.ceEnd (fun e => e.chan == some i) stCancelled 0
      let s := s.onCe (fun c => { c with timers := Store.set (fun _ => none) c.timers i none })
      (s.ceMap o.tag (fun o => { o with cancelled := o.cancelled + n })).ceDone o.tag stOk 0))

/-- LEDGER_READ (R270). -/
def execLedgerRead (tag : BitVec 10) (s : State) : Res :=
  .next (s.ceRun tag 0xE (fun s o =>
    let r := s.ledgerRead (CE_LEDGER (fld (o.arg 0) 0 11))
    r.1.ceDone o.tag stOk (r.2.setWidth 64)))

end Sys2Proof.Machine
end

