-- ==== Sys2Proof/Machine/Mailbox.lean ====
section
/-! DEFINITION. The registers of the host and management paths that act (spec/14): mailbox doorbells, messages, host errors,
the status views, power request results, and the clear of the clamp count. -/
namespace Sys2Proof.Machine

/-! ## Host errors -/

/-- A change of the host port. -/
def State.onHost (s : State) (f : HostPort → HostPort) : State := { s with host := f s.host }

/-- A write was discarded in whole or part (Table 14.3). -/
def State.werr (s : State) : State := s.onHost (fun h => { h with werr := true })

/-- A host protocol error (R398): recorded, shown by its channel, and fault 0x57 raised; 15 names no channel. -/
def State.hostErr (s : State) (code chan : Nat) : State :=
  let s := ((s.put HOST_ERR_CODE code).put HOST_ERR_CHAN chan).bump HOST_ERR_COUNT 1
  let s := if chan < 8 then s.put (HOST_MBIRQ_ERR chan) 1 else s
  s.raise ⟨0x57, 0, if chan < 8 then some chan else none, false, false⟩

/-- The mailbox channel is isolated (R399). -/
def State.mbIsolated (s : State) (c : Nat) : Bool := s.flt.isolated.contains (.mailbox c)

/-! ## Doorbells and messages -/

/-- A queue is enabled with a type: 1 SQ, 2 CQ. -/
def State.queueOn (s : State) (q typ : Nat) : Bool := s.get (CE_QCFG_TYPE q) == typ && s.is (CE_QCFG_EN q)

/-- A host doorbell of channel `c` (R395, R398, R399, R401): passed to its SQ or CQ, or discarded. -/
def State.hostDoorbell (s : State) (sq : Bool) (c : Nat) (v : Word) : State :=
  let q := if sq then s.get (HOST_MBCFG_SQ c) else s.get (HOST_MBCFG_CQ c)
  if s.mbIsolated c then s.werr
  else if !s.is (HOST_MBCFG_EN c) then (s.hostErr 5 c).werr
  else if s.limp then s.werr
  else if !s.queueOn (s.get (HOST_MBCFG_SQ c)) 1 || !s.queueOn (s.get (HOST_MBCFG_CQ c)) 2 then (s.hostErr 6 c).werr
  else
    let s := s.doorbellAt (if sq then HOST_SQDB c else HOST_CQDB c) q v
    if sq then s.put (HOST_MBIRQ_SQDB c) 1 else s

/-- Host frames are decoded (R401, R402, R493, R499): the bank is present, the state is EMBER or above, no Snuffer-only hold, no
cold start to come, and no link test on lane 0x10. -/
def State.hostReach (s : State) : Bool :=
  s.pins.vio1 && decide (3 ≤ s.pstate) && !s.snf.only && s.pm.due != 2 && !s.laneTest 0x10

/-- Host transactions are carried out: LIT only (R401). -/
def State.hostOn (s : State) : Bool := s.hostReach && s.lit

/-- The start of a host transaction in DIM or EMBER, or on the way there, wakes the device (R401, R418). -/
def State.hostWakes (s : State) : State := s.wakeIn [4, 3] 10

/-- A write of the HOST register at `a` that the host sends (R395, R397): carried out in LIT as a transfer of master 3, a wake
in DIM and EMBER (R401); a refused one sets WERR (R400). -/
def State.hostCommand (s : State) (a : Nat) (f : State → State) : State :=
  if !s.hostReach then s
  else if !s.lit then s.hostWakes
  else if s.hostWakes.admits .host a then f s.hostWakes
  else (s.hostWakes.regCommand .host a f).werr

/-- HOST_SQDB (R395). -/
def execHostSqdb (c : BitVec 3) (v : Word) (s : State) : Res := .next (s.hostCommand (HOST_SQDB c.toNat) (fun s => s.hostDoorbell true c.toNat v))

/-- HOST_CQDB (R395). -/
def execHostCqdb (c : BitVec 3) (v : Word) (s : State) : Res := .next (s.hostCommand (HOST_CQDB c.toNat) (fun s => s.hostDoorbell false c.toNat v))

/-- A host write of HOST_H2Dc (R397, R398, R399). -/
def State.hostH2d (s : State) (c : Nat) (v : Word) : State :=
  if s.mbIsolated c then s.werr
  else if !s.is (HOST_MBCFG_EN c) then (s.hostErr 5 c).werr
  else (s.wr (HOST_H2D c) v).put (HOST_MBIRQ_H2D c) 1

/-- HOST_H2D (R397). -/
def execHostH2d (c : BitVec 3) (v : Word) (s : State) : Res := .next (s.hostCommand (HOST_H2D c.toNat) (fun s => s.hostH2d c.toNat v))

/-- A firmware write of HOST_D2Hc (R397). -/
def State.hostD2h (s : State) (c : Nat) (v : Word) : State := (s.wr (HOST_D2H c) v).put ⟨HOST_ATTN, c, 1⟩ 1

/-- HOST_D2H (R397). -/
def execHostD2h (c : BitVec 3) (v : Word) (s : State) : Res := .next (s.ownCommand (HOST_D2H c.toNat) (fun s => s.hostD2h c.toNat v))

/-- RESTART of a mailbox channel (R399); under a hold on its SQ it is ignored and counts (R411; log entry 20). -/
def State.mbRestart (s : State) (c : Nat) : State :=
  let r := s.heldAt (0x400 + s.get (HOST_MBCFG_SQ c))
  let s := r.1
  if r.2 then s.clamped (HOST_MBIRQ c)
  else if !s.mbIsolated c || s.pend 0x57 then s
  else { s with flt := { s.flt with isolated := s.flt.isolated.filter (fun u => u != IsoUnit.mailbox c) } }.put (HOST_MBIRQ_ISO c) 0

/-- HOST_MBIRQ_RESTART (R399). -/
def execHostMbirqRestart (c : BitVec 3) (s : State) : Res := .next (s.ownCommand (HOST_MBIRQ c.toNat) (fun s => s.mbRestart c.toNat))

/-- A write of HOST_MBIRQc. -/
def State.mbirqWrite (s : State) (m : Master) (c : Nat) (v : Word) : State :=
  let s := s.plainWrite m (HOST_MBIRQ c) (v &&& 0xFFFEFFFF)
  if bitOf v 16 then s.mbRestart c else s

/-! ## Status views -/

/-- The completion queue of channel `c` is not empty. -/
def State.cqne (s : State) (c : Nat) : Bool := s.is (HOST_MBCFG_EN c) && s.qPending (s.get (HOST_MBCFG_CQ c))

/-- One bit per channel below `n`. -/
def chanMask (f : Nat → Bool) : Nat → Nat
  | 0 => 0
  | n + 1 => chanMask f n + b2n (f n) * 2 ^ n

/-- HOST_ATTN as it reads. -/
def State.attnView (s : State) : Word := BitVec.ofNat 32 (s.get HOST_ATTN_D2H + 256 * chanMask s.cqne 8)

/-- HOST_HSTAT as it reads. -/
def State.hstatView (s : State) : Word :=
  BitVec.ofNat 32 (5 - s.pstate + b2n s.limp * 8 + s.get SNF_STAT_FAULTN * 16 + 256 * chanMask s.cqne 8 +
    2 ^ 16 * chanMask (fun c => s.is (HOST_MBCFG_EN c)) 8 + 2 ^ 24 * chanMask s.mbIsolated 8)

/-- HOST_IRQ_N is asserted (R397). -/
def State.hostIrq (s : State) : Bool :=
  ((s.attnView &&& s.rd HOST_ATTNEN) &&& 0xFFFF) != 0 || (s.is HOST_ATTNEN_FLT && s.is SNF_STAT_FAULTN)

/-- MGMT_CFG as it reads: 0x58 + MADDR (R403). -/
def State.mgmtAddr (s : State) : Nat := 0x58 + s.get SYS_STRAP_MADDR

/-! ## Management and clamp registers -/

/-- A write of MGMT_PRES by master 0 (R412): carried out or refused clears PENDING. -/
def State.presWrite (s : State) (m : Master) (v : Word) : State :=
  if m != .cluster then s
  else
    let x := fld v 0 2
    let c := min x 2
    let s := (s.clampIf (c != x) MGMT_PRES).put MGMT_PRES_RES c
    if c = 0 then s else s.put MGMT_PREQ_PENDING 0

/-- MGMT_PRES_WRITE (R412). -/
def execMgmtPresWrite (m : Master) (v : Word) (s : State) : Res := .next (s.regCommand m MGMT_PRES (fun s => s.presWrite m v))

/-- A write of SYS_CLAMPCNT (R413): CLR sets both registers to 0, uncounted. -/
def State.clampClear (s : State) (v : Word) : State :=
  if bitOf v 31 then (s.put SYS_CLAMPCNT_COUNT 0).wr SYS_CLAMPLAST 0 else s

/-- SYS_CLAMPCNT_CLR (R413). -/
def execSysClampcntClr (m : Master) (v : Word) (s : State) : Res := .next (s.regCommand m SYS_CLAMPCNT (fun s => s.clampClear v))

end Sys2Proof.Machine
end

