-- ==== Sys2Proof/Machine/Crypto.lean ====
section
/-! DEFINITION. The standards that Table 0.6 names for signatures, patches and entropy, as they define them (log entry 78):
SHA-256, ECDSA over P-256, AES-256 with GCM, and CTR_DRBG with the derivation function. -/
namespace Sys2Proof.Machine

/-- A number as `n` bytes, most significant first. -/
def natBytesBE (n v : Nat) : List Byte := (natBytes n v).reverse

/-- Bytes added modulo 2, as many as the shorter list has. -/
def xorBytes (a b : List Byte) : List Byte := List.zipWith (fun x y => x ^^^ y) a b

/-- Zeros that fill `n` bytes up to a multiple of `m`. -/
def padZeros (m n : Nat) : List Byte := List.replicate ((m - n % m) % m) 0

/-- The first `n` blocks of `m` bytes. -/
def blocksOf (m : Nat) : Nat → List Byte → List (List Byte)
  | 0, _ => []
  | n + 1, l => l.take m :: blocksOf m n (l.drop m)

/-! ## SHA-256 (FIPS 180-4) -/

/-- The constants of the 64 rounds. -/
def shaK : List Word :=
  [0x428a2f98, 0x71374491, 0xb5c0fbcf, 0xe9b5dba5, 0x3956c25b, 0x59f111f1, 0x923f82a4, 0xab1c5ed5,
   0xd807aa98, 0x12835b01, 0x243185be, 0x550c7dc3, 0x72be5d74, 0x80deb1fe, 0x9bdc06a7, 0xc19bf174] ++
  [0xe49b69c1, 0xefbe4786, 0x0fc19dc6, 0x240ca1cc, 0x2de92c6f, 0x4a7484aa, 0x5cb0a9dc, 0x76f988da,
   0x983e5152, 0xa831c66d, 0xb00327c8, 0xbf597fc7, 0xc6e00bf3, 0xd5a79147, 0x06ca6351, 0x14292967] ++
  [0x27b70a85, 0x2e1b2138, 0x4d2c6dfc, 0x53380d13, 0x650a7354, 0x766a0abb, 0x81c2c92e, 0x92722c85,
   0xa2bfe8a1, 0xa81a664b, 0xc24b8b70, 0xc76c51a3, 0xd192e819, 0xd6990624, 0xf40e3585, 0x106aa070] ++
  [0x19a4c116, 0x1e376c08, 0x2748774c, 0x34b0bcb5, 0x391c0cb3, 0x4ed8aa4a, 0x5b9cca4f, 0x682e6ff3,
   0x748f82ee, 0x78a5636f, 0x84c87814, 0x8cc70208, 0x90befffa, 0xa4506ceb, 0xbef9a3f7, 0xc67178f2]

/-- The eight working variables, or the hash value. -/
structure ShaState where
  a : Word
  b : Word
  c : Word
  d : Word
  e : Word
  f : Word
  g : Word
  h : Word
  deriving DecidableEq, Repr

/-- The initial hash value. -/
def shaInit : ShaState :=
  ⟨0x6a09e667, 0xbb67ae85, 0x3c6ef372, 0xa54ff53a, 0x510e527f, 0x9b05688c, 0x1f83d9ab, 0x5be0cd19⟩

/-- The function of two rotations and a third rotation or shift. -/
def shaMix (x y : Nat) (z w : Word) : Word := w.rotateRight x ^^^ w.rotateRight y ^^^ z

/-- The next word of the message schedule from the sixteen before it, oldest first. -/
def shaNext (w : List Word) : Word :=
  let x := w.getD 14 0
  let y := w.getD 1 0
  shaMix 17 19 (x >>> 10) x + w.getD 9 0 + shaMix 7 18 (y >>> 3) y + w.getD 0 0

/-- One round on the word `w` of the schedule with the constant `k`. -/
def shaRound (s : ShaState) (k w : Word) : ShaState :=
  let t1 := s.h + shaMix 6 11 (s.e.rotateRight 25) s.e + ((s.e &&& s.f) ^^^ (~~~ s.e &&& s.g)) + k + w
  let t2 := shaMix 2 13 (s.a.rotateRight 22) s.a + ((s.a &&& s.b) ^^^ (s.a &&& s.c) ^^^ (s.b &&& s.c))
  ⟨t1 + t2, s.a, s.b, s.c, s.d + t1, s.e, s.f, s.g⟩

/-- The rounds of a list of constants, with the sixteen words of the schedule that come next. -/
def shaRounds (s : ShaState) (w : List Word) : List Word → ShaState
  | [] => s
  | k :: t => shaRounds (shaRound s k (w.getD 0 0)) (w.drop 1 ++ [shaNext w]) t

/-- The sum of two hash values, word by word. -/
def ShaState.add (s t : ShaState) : ShaState :=
  ⟨s.a + t.a, s.b + t.b, s.c + t.c, s.d + t.d, s.e + t.e, s.f + t.f, s.g + t.g, s.h + t.h⟩

/-- The words of a block, most significant byte first. -/
def wordsBE (n : Nat) (l : List Byte) : List Word := (blocksOf 4 n l).map (fun b => BitVec.ofNat 32 (bytesNatBE b))

/-- The hash value after one block of 64 bytes. -/
def shaBlock (s : ShaState) (b : List Byte) : ShaState := s.add (shaRounds s (wordsBE 16 b) shaK)

/-- The padded message: a bit 1, zeros, and the length in bits in 64 bits. -/
def shaPad (m : List Byte) : List Byte :=
  m ++ [0x80] ++ padZeros 64 (m.length + 9) ++ natBytesBE 8 (8 * m.length)

/-- SHA-256 of a byte string, the digest in 32 bytes. -/
@[irreducible] def sha256 (m : List Byte) : List Byte :=
  let p := shaPad m
  let s := (blocksOf 64 (p.length / 64) p).foldl shaBlock shaInit
  [s.a, s.b, s.c, s.d, s.e, s.f, s.g, s.h].flatMap (fun w => natBytesBE 4 w.toNat)

/-! ## ECDSA over P-256 (FIPS 186-5) -/

/-- The prime of P-256 (SP 800-186; log entry 18). -/
def p256 : Nat := 2 ^ 256 - 2 ^ 224 + 2 ^ 192 + 2 ^ 96 - 1

/-- The coefficient b of P-256. -/
def p256b : Nat := 0x5AC635D8AA3A93E7B3EBBD55769886BC651D06B0CC53B0F63BCE3C3E27D2604B

/-- The order of the base point of P-256. -/
def p256n : Nat := 0xFFFFFFFF00000000FFFFFFFFFFFFFFFFBCE6FAADA7179E84F3B9CAC2FC632551

/-- The base point of P-256. -/
def p256g : Nat × Nat :=
  (0x6B17D1F2E12C4247F8BCE6E563A440F277037D812DEB33A0F4A13945D898C296,
   0x4FE342E2FE1A7F9B8EE7EB4A7C0F9E162BCE33576B315ECECBB6406837BF51F5)

/-- The 64 bytes are the coordinates of a point of P-256. -/
def onCurve (k : List Byte) : Bool :=
  let x := bytesNatBE (k.take 32)
  let y := bytesNatBE ((k.drop 32).take 32)
  decide (x < p256) && decide (y < p256) && (y * y) % p256 == (x * x * x + (p256 - 3) * x + p256b) % p256

/-- A power modulo `m`, by the low `n` bits of the exponent. -/
def powMod (m b e : Nat) : Nat → Nat
  | 0 => 1 % m
  | n + 1 =>
    let r := powMod m (b * b % m) (e / 2) n
    if e % 2 = 1 then r * b % m else r

/-- The inverse modulo a prime of at most 256 bits. -/
def invMod (m a : Nat) : Nat := powMod m a (m - 2) 256

/-- The line through a point with a slope meets the curve at a third point; its reflection is the sum. -/
def curveThird (sl x1 y1 x2 : Nat) : Nat × Nat :=
  let x3 := (sl * sl + (p256 - x1) + (p256 - x2)) % p256
  (x3, (sl * (x1 + (p256 - x3)) + (p256 - y1)) % p256)

/-- The sum of two points; none is the point at infinity. -/
def curveAdd : Option (Nat × Nat) → Option (Nat × Nat) → Option (Nat × Nat)
  | none, q => q
  | p, none => p
  | some (x1, y1), some (x2, y2) =>
    if x1 = x2 then
      if (y1 + y2) % p256 = 0 then none
      else some (curveThird ((3 * x1 * x1 + (p256 - 3)) * invMod p256 (2 * y1 % p256) % p256) x1 y1 x2)
    else some (curveThird ((y2 + (p256 - y1)) * invMod p256 ((x2 + (p256 - x1)) % p256) % p256) x1 y1 x2)

/-- A multiple of a point, by the low `n` bits of the factor. -/
def curveMul (k : Nat) (p : Option (Nat × Nat)) : Nat → Option (Nat × Nat)
  | 0 => none
  | n + 1 =>
    let r := curveMul (k / 2) (curveAdd p p) n
    if k % 2 = 1 then curveAdd r p else r

/-- ECDSA verification: public key x then y, digest of 32 bytes, signature r then s, each most significant byte first (R442). -/
@[irreducible] def ecdsaVerify (key dig sig : List Byte) : Bool :=
  let r := bytesNatBE (sig.take 32)
  let v := bytesNatBE ((sig.drop 32).take 32)
  if !onCurve key || r = 0 || p256n ≤ r || v = 0 || p256n ≤ v then false
  else
    let w := invMod p256n v
    let q := (bytesNatBE (key.take 32), bytesNatBE ((key.drop 32).take 32))
    match curveAdd (curveMul (bytesNatBE dig * w % p256n) (some p256g) 256) (curveMul (r * w % p256n) (some q) 256) with
    | none => false
    | some (x, _) => x % p256n == r

/-! ## AES-256 (FIPS 197) -/

/-- A byte times x in the field of 256 elements. -/
def xtime (b : Nat) : Nat := if 128 ≤ b then (2 * b) ^^^ 0x11B else 2 * b

/-- The product in the field of 256 elements, by the low `n` bits of the first factor. -/
def gfMul (a b : Nat) : Nat → Nat
  | 0 => 0
  | n + 1 => (if a % 2 = 1 then b else 0) ^^^ gfMul (a / 2) (xtime b) n

/-- The square in the field of 256 elements. -/
def gfSq (a : Nat) : Nat := gfMul a a 8

/-- The inverse in the field of 256 elements, the power 254; 0 gives 0. -/
def gfInv (a : Nat) : Nat :=
  let a2 := gfSq a
  let a3 := gfMul a2 a 8
  let a12 := gfSq (gfSq a3)
  let a15 := gfMul a12 a3 8
  gfMul (gfMul (gfSq (gfSq (gfSq (gfSq a15)))) a12 8) a2 8

/-- The substitution of a byte. -/
def aesSub (b : Byte) : Byte :=
  let x := BitVec.ofNat 8 (gfInv b.toNat)
  x ^^^ x.rotateLeft 1 ^^^ x.rotateLeft 2 ^^^ x.rotateLeft 3 ^^^ x.rotateLeft 4 ^^^ 0x63

/-- The key expansion from the last eight words, four bytes each, of which number `i` comes next: `n` further words. -/
def aesExpand (w : List (List Byte)) (i rc : Nat) : Nat → List (List Byte)
  | 0 => w
  | n + 1 =>
    let l := w.getD (i - 1) []
    let t := if i % 8 = 0 then xorBytes ((l.drop 1 ++ l.take 1).map aesSub) [BitVec.ofNat 8 rc, 0, 0, 0]
      else if i % 8 = 4 then l.map aesSub else l
    aesExpand (w ++ [xorBytes (w.getD (i - 8) []) t]) (i + 1) (if i % 8 = 0 then xtime rc else rc) n

/-- The fifteen round keys, 16 bytes each. -/
def aesKeys (key : List Byte) : List (List Byte) := blocksOf 16 15 (aesExpand (blocksOf 4 8 key) 8 1 52).flatten

/-- ShiftRows, on the block's bytes column by column. -/
def aesShift (b : List Byte) : List Byte := (List.range 16).map (fun k => b.getD ((k + 4 * (k % 4)) % 16) 0)

/-- Byte `k` of a column after MixColumns. -/
def aesMixByte (c : List Byte) (k : Nat) : Byte :=
  let g := fun j => (c.getD ((k + j) % 4) 0).toNat
  BitVec.ofNat 8 (xtime (g 0) ^^^ xtime (g 1) ^^^ g 1 ^^^ g 2 ^^^ g 3)

/-- MixColumns. -/
def aesMix (b : List Byte) : List Byte := (blocksOf 4 4 b).flatMap (fun c => [0, 1, 2, 3].map (aesMixByte c))

/-- The rounds after the first key has been added; the last has no MixColumns. -/
def aesRounds (b : List Byte) : List (List Byte) → List Byte
  | [] => b
  | [k] => xorBytes (aesShift (b.map aesSub)) k
  | k :: t => aesRounds (xorBytes (aesMix (aesShift (b.map aesSub))) k) t

/-- AES-256 of one block of 16 bytes under the round keys. -/
def aesBlock (ks : List (List Byte)) (b : List Byte) : List Byte := aesRounds (xorBytes b (ks.headD [])) (ks.drop 1)

/-! ## GCM (SP 800-38D) -/

/-- The product in the field of GHASH, by the low `n` bits of the first factor's reflection. -/
def ghMul (x v : Nat) : Nat → Nat
  | 0 => 0
  | n + 1 =>
    (if x.testBit n then v else 0) ^^^ ghMul x (if v % 2 = 1 then (v / 2) ^^^ 0xE1000000000000000000000000000000 else v / 2) n

/-- GHASH of the blocks under `h`. -/
def ghash (h : Nat) (l : List Byte) : Nat :=
  (blocksOf 16 (l.length / 16) l).foldl (fun y b => ghMul (y ^^^ bytesNatBE b) h 128) 0

/-- The key stream of `n` blocks from the counter block `iv`, `c`. -/
def gcmStream (ks : List (List Byte)) (iv : List Byte) (c : Nat) : Nat → List Byte
  | 0 => []
  | n + 1 => aesBlock ks (iv ++ natBytesBE 4 c) ++ gcmStream ks iv (c + 1) n

/-- AES-256-GCM decryption: key, initial value of 12 bytes, additional data, ciphertext, tag; none where the tag does not
match. -/
@[irreducible] def gcmDecrypt (key iv aad c tag : List Byte) : Option (List Byte) :=
  let ks := aesKeys key
  let h := bytesNatBE (aesBlock ks (List.replicate 16 0))
  let l := aad ++ padZeros 16 aad.length ++ c ++ padZeros 16 c.length ++ natBytesBE 8 (8 * aad.length) ++ natBytesBE 8 (8 * c.length)
  if xorBytes (aesBlock ks (iv ++ natBytesBE 4 1)) (natBytesBE 16 (ghash h l)) == tag then
    some (xorBytes c (gcmStream ks iv 2 ((c.length + 15) / 16)))
  else none

/-! ## CTR_DRBG with AES-256 and the derivation function (SP 800-90A) -/

/-- The chain of encrypted blocks. -/
def drbgBcc (ks : List (List Byte)) (l : List Byte) : List Byte :=
  (blocksOf 16 (l.length / 16) l).foldl (fun y b => aesBlock ks (xorBytes y b)) (List.replicate 16 0)

/-- `n` blocks, each the encryption of the one before it. -/
def drbgChain (ks : List (List Byte)) (x : List Byte) : Nat → List Byte
  | 0 => []
  | n + 1 =>
    let y := aesBlock ks x
    y ++ drbgChain ks y n

/-- The derivation function: 48 bytes from the input. -/
def drbgDf (m : List Byte) : List Byte :=
  let body := natBytesBE 4 m.length ++ natBytesBE 4 48 ++ m ++ [0x80]
  let l := body ++ padZeros 16 body.length
  let ks := aesKeys ((List.range 32).map (BitVec.ofNat 8))
  let t := [0, 1, 2].flatMap (fun i => drbgBcc ks (natBytesBE 4 i ++ List.replicate 12 0 ++ l))
  drbgChain (aesKeys (t.take 32)) (t.drop 32) 3

/-- The counter block `k` steps on. -/
def drbgStep (v : List Byte) (k : Nat) : List Byte := natBytesBE 16 ((bytesNatBE v + k) % 2 ^ 128)

/-- The update of a key and a counter block with 48 bytes. -/
def drbgUpdate (key v m : List Byte) : List Byte × List Byte :=
  let ks := aesKeys key
  let t := xorBytes ([1, 2, 3].flatMap (fun k => aesBlock ks (drbgStep v k))) m
  (t.take 32, t.drop 32)

/-- The working state, key and counter block, that an instantiation makes of its seed material (R487). -/
@[irreducible] def drbgInstantiate (m : List Byte) : List Byte × List Byte :=
  drbgUpdate (List.replicate 32 0) (List.replicate 16 0) (drbgDf m)

/-- The working state that a reseed makes (R489). -/
@[irreducible] def drbgReseed (d : List Byte × List Byte) (m : List Byte) : List Byte × List Byte :=
  drbgUpdate d.1 d.2 (drbgDf m)

/-- The 16 bytes of a generate request (R488). -/
@[irreducible] def drbgOutput (d : List Byte × List Byte) : List Byte := aesBlock (aesKeys d.1) (drbgStep d.2 1)

/-- The working state after a generate request. -/
@[irreducible] def drbgNext (d : List Byte × List Byte) : List Byte × List Byte :=
  drbgUpdate d.1 (drbgStep d.2 1) (List.replicate 48 0)

end Sys2Proof.Machine
end

