-- ==== Sys2Proof/Machine/Flash.lean ====
section
/-! DEFINITION. The flash controller, write-backs and the autonomous scrub (spec/09, R233–R253). -/
namespace Sys2Proof.Machine

/-! ## The flash controller -/

/-- Program and erase are refused here (R238): a locked 64 KiB block, the key journal, the patch area. -/
def State.flashLocked (s : State) (a : Nat) : Bool :=
  bitOf (s.rd (FLC_LOCK (a / 0x200000 % 2))) (a / 0x10000 % 32) ||
  (decide (0x240000 ≤ a) && decide (a < 0x244000)) || (decide (0x40000 ≤ a) && decide (a < 0x46000))

/-- The controller ends a command with a RESULT (R236). -/
def State.flashResult (s : State) (code : Nat) : State := (s.put FLC_STAT_RESULT code).put FLC_STAT_DONE 1

/-- The eight words of FLC_DATA. -/
def State.flashData (s : State) : List Word := [0, 1, 2, 3, 4, 5, 6, 7].map (fun n => s.rd (FLC_DATA n))

/-- A write of FLC_CMD (R234, R236, R238, R257): while an operation runs it only sets REJBUSY, and outside LIT none starts; a wrong key or operation, or a
refused target, finishes at once; otherwise address and data are latched and the operation starts. -/
def State.flashCommand (s : State) (op : Nat) (key : BitVec 16) : State :=
  if s.is FLC_STAT_BUSY then s.put FLC_STAT_REJBUSY 1
  else if !s.lit then s
  else
    let a := s.get FLC_ADDR_V
    if key ≠ 0x6C5E || op = 0 || 3 < op then s.flashResult 1
    else if op ≠ 3 && s.flashLocked a then s.flashResult 2
    else
      let s := { s with memi := { s.memi with flash := some ⟨op, a, s.flashData, false⟩ } }
      (s.put FLC_STAT_BUSY 1).put FLC_STAT_BANK (a / 0x200000)

/-- PROGRAM (R235). -/
def execFlashProgram (key : BitVec 16) (s : State) : Res := .next (s.ownCommand FLC_CMD (fun s => s.flashCommand 1 key))

/-- ERASE (R235). -/
def execFlashErase (key : BitVec 16) (s : State) : Res := .next (s.ownCommand FLC_CMD (fun s => s.flashCommand 2 key))

/-- BLANK_CHECK (R235). -/
def execBlankCheck (key : BitVec 16) (s : State) : Res := .next (s.ownCommand FLC_CMD (fun s => s.flashCommand 3 key))

/-- `n` words from an address upward hold free values (R236, code 4). -/
def State.flashUndefined (s : State) (a : Nat) : Nat → State
  | 0 => s
  | n + 1 =>
    let w := s.freeVal
    let s := if a % 8 = 0 then (s.putCode a ((Config.free (s.freeCtr + 1)).toNat % 256)) else s
    ({ s.putBytes a (wordBytes w) with freeCtr := s.freeCtr + 2 }).flashUndefined (a + 4) n

/-- The flash line at `a` is erased: all ones, check bits too. -/
def State.eraseLine (s : State) (a : Nat) : State :=
  ((((s.putBytes a (List.replicate 32 0xFF)).putCode a 0xFF).putCode (a + 8) 0xFF).putCode (a + 16) 0xFF).putCode (a + 24) 0xFF

/-- Lines erased one after another. -/
def eraseRun : Nat → State → Nat → State
  | 0, s, _ => s
  | n + 1, s, a => eraseRun n (s.eraseLine a) (a + 32)

/-- `n` lines from an address upward are erased: all ones, check bits too. -/
def State.eraseLines (s : State) (a n : Nat) : State := eraseRun n s a

/-- Every one of `n` lines from an address upward is erased (R233). -/
def State.linesErased (s : State) (a : Nat) : Nat → Bool
  | 0 => true
  | n + 1 => decide (s.lineZeros a ≤ 2) && s.linesErased (a + 32) n

/-- The check bits that an EC injection flips in a flash quarter (Table 2.6). -/
def ecDiffFlash (arg : Nat) : Nat := if arg = 1 then 1 else if arg = 2 then 3 else 0x5B

/-- A rewritten range holds nothing an injection corrupted (R72). -/
def State.uncorrupt (s : State) (a n : Nat) : State :=
  { s with flt := { s.flt with corrupt := s.flt.corrupt.filter (fun x => decide (x < a) || decide (a + n ≤ x)) } }

/-- A programmed line, with the check bits of an EC injection aimed at it flipped. -/
def State.programLine (s : State) (l : Nat) (ws : List Word) : State :=
  let s := (s.putLine l ws).uncorrupt l 32
  let q := (s.rd FLT_INJADDR).toNat / 8 * 8
  if q / 32 * 32 ≠ l then s
  else match s.flt.inj.find? (fun i => decide (0x20 ≤ i.id) && decide (i.id ≤ 0x26)) with
    | none => s
    | some i =>
      { s.putCode q (s.codeAt q ^^^ ecDiffFlash i.arg) with
        flt := { s.flt with inj := s.flt.inj.erase i, corrupt := s.flt.corrupt ++ [q] } }

/-- What an operation does to the flash, and its RESULT (R235, R236). `ok` is whether its verify passed. -/
def State.flashEffect (s : State) (o : FlashOp) (ok : Bool) : State × Nat :=
  let l := o.addr / 32 * 32
  let sec := o.addr / 8192 * 8192
  if o.op = 1 then
    (let t := s.putLine l o.data
     let z := t.lineZeros l
     if 2 < s.lineZeros l then (s, 3)
     else if z = 0 then (s, 0)
     else if z ≤ 2 then (s, 5)
     else if ok then (s.programLine l o.data, 0)
     else (s.flashUndefined l 8, 4))
  else if o.op = 2 then (if ok then ((s.eraseLines sec 256).uncorrupt sec 8192, 0) else (s.flashUndefined sec 2048, 4))
  else (s, if s.linesErased sec 256 then 0 else 6)

/-- FLASH_OPERATION_COMPLETE (R112, R234, R240): BUSY clears, RESULT and DONE are written and the data cache loses the range; after a
warm reset the status reads its reset value instead. With VCORE lost nothing completes: the line or sector is undefined from the
next start on (`State.cutPrograms`). -/
def execFlashOperationComplete (ok : Bool) (s : State) : Res :=
  .next (match (if s.pstate = 0 then none else s.memi.flash) with
    | none => s
    | some o =>
      let r := s.flashEffect o ok
      let s := { r.1 with memi := { r.1.memi with flash := none } }
      let lo := if o.op = 1 then o.addr / 32 * 32 else o.addr / 8192 * 8192
      let s := if o.op = 3 then s else s.dinval lo (lo + (if o.op = 1 then 32 else 8192))
      if o.orphan then s.wr FLC_STAT 0 else (s.put FLC_STAT_BUSY 0).flashResult r.2)

/-- FLC_LOCK (R238): lock bits set and stay set until cold start. -/
def execFlcLock (k : BitVec 1) (v : Word) (s : State) : Res :=
  .next (s.ownCommand (FLC_LOCK k.toNat) (fun s => s.wr (FLC_LOCK k.toNat) (s.rd (FLC_LOCK k.toNat) ||| v)))

/-! ## Write-back and scrub -/

/-- The rows of a bank (R250). -/
def bankRows (b : Nat) : Nat := if b = 4 then 8192 else 24576

/-- The first address of a bank. -/
def bankBase (b : Nat) : Nat := if b = 4 then 0x18000000 else 0x10000000 + 0x30000 * b

/-- The write-back of a bank is made (R244, R245). -/
def State.writeBack (s : State) (b : Nat) : State :=
  match Store.get (fun _ => none) s.memi.wb b with
  | none => s
  | some (a, w) =>
    let s := { s.putWord a w with flt := { s.flt with corrupt := s.flt.corrupt.filter (fun x => x != a) } }
    let done := s.memi.done ++ [a]
    { s with memi := { s.memi with wb := Store.set (fun _ => none) s.memi.wb b none, done := done.drop (done.length - 4) } }

/-- A memory bank is served: LIT, or EMBER on AOCLK (Table 9.6). -/
def State.bankServed (s : State) : Bool := s.lit || s.pstate == 3

/-- WRITE_BACK (R244). -/
def execWriteBack (bank : BitVec 3) (s : State) : Res :=
  .next (if bank.toNat < 5 && s.bankServed then s.writeBack bank.toNat else s)

/-- A full pass of a bank is counted. -/
def State.passCount (s : State) (b : Nat) : State :=
  if b = 4 then s.put ⟨MEM_SPPASS, 0, 8⟩ (s.get ⟨MEM_SPPASS, 0, 8⟩ + 1)
  else s.put ⟨MEM_SCRPASS, 8 * b, 8⟩ (s.get ⟨MEM_SCRPASS, 8 * b, 8⟩ + 1)

/-- SCRUB_READ (R248, R249, R251): the next row of the bank is read and checked, after a write-back that is ready; the
scrubber runs only in LIT with MODE.DET 0. -/
def execScrubRead (bank : BitVec 3) (s : State) : Res :=
  let b := bank.toNat
  .next (if 5 ≤ b || !s.lit || s.det then s
    else
      let s := s.writeBack b
      let r := Store.get (fun _ => 0) s.memi.row b
      let s := s.scrubWords (bankBase b + 8 * r) 2
      let n := if r + 1 = bankRows b then 0 else r + 1
      let s := { s with memi := { s.memi with row := Store.set (fun _ => 0) s.memi.row b n } }
      if n = 0 then s.passCount b else s)

/-- SCRUB_STARVATION (R253): the monitor's timer reaches 100 ms before the pass is complete. -/
def State.scrubStarved (s : State) : State :=
  ({ s.put MEM_DETPTR_ELAPSED 0 with memi := { s.memi with detAge := 0 } }).fault 0x2A 0

/-- SCRUB_STARVATION (R253). -/
def execScrubStarvation (s : State) : Res := .next (if s.lit && s.det then s.scrubStarved else s)

end Sys2Proof.Machine
end

