-- ==== Sys2Proof/Machine/Lsu.lean ====
section
/-! DEFINITION. Loads and stores of the cluster to flash, SRAM and the scratchpad (R113, R134, R221–R223, R227). -/
namespace Sys2Proof.Machine

/-- The byte enables that an access of `n` bytes at `a` has in its first word. -/
def beFirst (a n : Nat) : Nat := (2 ^ n - 1) * 2 ^ (a % 4) % 16

/-- The byte enables that it has in its second word. -/
def beSecond (a n : Nat) : Nat := (2 ^ n - 1) * 2 ^ (a % 4) / 16

/-- The bytes of an access taken from its words, least significant first (R3). -/
def takeBytes (lo hi : Word) (a n : Nat) : Nat := (lo.toNat + hi.toNat * 2 ^ 32) / 2 ^ (8 * (a % 4)) % 2 ^ (8 * n)

/-- A loaded value widened (R134): sign-extended for LDH and LDB, zero-extended for LDHU and LDBU. -/
def widen (sz : Size) (signed : Bool) (v : Nat) : Word :=
  match sz, signed with
  | .byte, true => (BitVec.ofNat 8 v).signExtend 32
  | .half, true => (BitVec.ofNat 16 v).signExtend 32
  | _, _ => BitVec.ofNat 32 v

/-- An access of the cluster: done with its value, or the precise exception it takes (fault, SUB, address, whether the target
has raised it already). -/
inductive LsuOut where
  | done (s : State) (v : Nat)
  | exc (s : State) (id sub addr : Nat) (raised : Bool)

/-- A load from flash, SRAM or scratchpad (R134, R221, R227): checked by the map once at its first byte, one or two word
accesses; a second word that no block answers is refused as R10 states (log entry 21). -/
def State.memLoad (s : State) (a : Nat) (sz : Size) : LsuOut :=
  match s.refusal .cluster .read a with
  | some r => .exc (s.recordRefusal .cluster .read a false s.pset r) 0x28 0 a false
  | none =>
    let w := a / 4 * 4
    let r := s.loadWord w (beFirst a sz.bytes)
    match r.err with
    | some id => .exc r.st id 0 a true
    | none =>
      if !crosses a sz.bytes then .done r.st (takeBytes r.data 0 a sz.bytes)
      else if r.st.barred .cluster .read (w + 4) then
        .exc (r.st.recordRefusal .cluster .read (w + 4) false r.st.pset 3) 0x28 0 (w + 4) false
      else
        let r2 := r.st.loadWord (w + 4) (beSecond a sz.bytes)
        match r2.err with
        | some id => .exc r2.st id 0 a true
        | none => .done r2.st (takeBytes r.data r2.data a sz.bytes)

/-- The words that a store of `v` at `a` puts into its first and second word. -/
def storeWords (v : Word) (a : Nat) : Word × Word :=
  let x := v.toNat * 2 ^ (8 * (a % 4))
  (BitVec.ofNat 32 x, BitVec.ofNat 32 (x / 2 ^ 32))

/-- A buffered store to SRAM or scratchpad (R113, R222): judged by the map at its first byte at issue; a word crossing makes
two entries (R134), and a second one that no block answers is dropped as R10 states (log entry 21). -/
def State.memPut (s : State) (a : Nat) (sz : Size) (v : Word) : State :=
  let why := s.refusal .cluster .write a
  let d := why.isSome
  let w := a / 4 * 4
  let x := storeWords v a
  let s1 := if d then s else s.dstore w (beFirst a sz.bytes) x.1
  let s1 := s1.sbPut ⟨w, beFirst a sz.bytes, x.1, d, a, s.pset, why.getD 0⟩
  if !crosses a sz.bytes then s1
  else
    let far := s.barred .cluster .write (w + 4)
    let s2 := if d || far then s1 else s1.dstore (w + 4) (beSecond a sz.bytes) x.2
    s2.sbPut ⟨w + 4, beSecond a sz.bytes, x.2, d || far, w + 4, s.pset, if far then 3 else why.getD 0⟩

end Sys2Proof.Machine
end

