-- ==== Sys2Proof/Machine/Micro.lean ====
section
/-! DEFINITION. The control store and microcode (spec/06): the microword, its check and reserved encodings, XOP routines,
micro-traps, the scanner and debug access. -/
namespace Sys2Proof.Machine

/-- A 144-bit microword (Table 6.2). -/
abbrev MWord := BitVec 144

/-- A field of a microword. -/
def mf (w : MWord) (lo len : Nat) : Nat := w.toNat / 2 ^ lo % 2 ^ len

/-- CHK of a microword at a micro-address (R152). -/
def mwChk (w : MWord) (a : Nat) : Nat :=
  255 - ([1, 2, 3, 4, 5, 6, 7, 8, 9, 10, 11, 12, 13, 14, 15, 16, 17].foldl (fun x i => x ^^^ mf w (8 * i) 8) 0 ^^^
    (a % 256) ^^^ (a / 256 % 32))

/-- A microword with CHK computed for its address (R152). -/
def mwSeal (w : MWord) (a : Nat) : MWord := BitVec.ofNat 144 (w.toNat / 256 * 256 + mwChk w a)

/-- The fill word (R148). -/
def mwFill (a : Nat) : MWord := mwSeal (BitVec.ofNat 144 (6 * 2 ^ 140 + 0x18 * 2 ^ 40)) a

/-- A register select that Table 6.5 gives. -/
def mwReg (r : Nat) : Bool := decide (r < 0x27) || (decide (0x30 ≤ r) && decide (r ≤ 0x33))

/-- A microword with a reserved encoding in a field (R150), the opcodes that Table 10.6 reserves among them (R270). -/
def mwReserved (w : MWord) : Bool :=
  decide (8 ≤ mf w 140 4) ||
  !(decide (mf w 134 6 ≤ 0xB) || (decide (0x20 ≤ mf w 134 6) && decide (mf w 134 6 ≤ 0x23))) ||
  !mwReg (mf w 115 6) || !mwReg (mf w 109 6) || !(mwReg (mf w 103 6) || mf w 103 6 == 0x3F) ||
  !(decide (mf w 97 6 ≤ 0x12) || mf w 97 6 == 0x3F) || mf w 94 3 == 7 || mf w 91 3 == 7 ||
  decide (5 ≤ mf w 88 3) || decide (3 ≤ mf w 85 3) || decide (12 ≤ mf w 81 4) ||
  decide (0x10 ≤ mf w 30 5) || mf w 79 2 == 3 || mf w 77 2 == 3 || mf w 75 1 == 1 || decide (6 ≤ mf w 71 4) || decide (5 ≤ mf w 68 3) ||
  mf w 38 2 == 3 || (mf w 38 2 == 1 && decide (4 ≤ mf w 35 3)) || mf w 26 3 == 7 || mf w 20 2 != 0 ||
  decide (4 ≤ mf w 16 4) || decide (6 ≤ mf w 12 4) || mf w 8 4 != 0

/-- A microword that the customer window may hold (Table 6.13). -/
def mwCustomer (w : MWord) : Bool :=
  let seq := mf w 140 4
  let tgt := mf w 121 13
  let rfw := mf w 103 6
  let endW := mf w 16 4 == 1
  let lit := mf w 40 8
  !mwReserved w && seq != 5 &&
  (if seq == 1 || seq == 2 || seq == 4 then decide (0x1400 ≤ tgt) && decide (tgt < 0x1800) else tgt == 0) &&
  ((decide (0x30 ≤ rfw) && decide (rfw ≤ 0x33)) || rfw == 0x3F || (endW && (rfw == 0x24 || (decide (0x20 ≤ rfw) && decide (rfw ≤ 0x23))))) &&
  decide (mf w 134 6 ≤ 0xB) && decide (mf w 71 4 ≤ 1) && (mf w 68 3 == 0 || mf w 68 3 == 2) && mf w 56 8 == 0 &&
  (mf w 38 2 != 1 || decide (mf w 35 3 ≤ 1) || endW) && decide (mf w 16 4 ≤ 1) &&
  (seq != 6 || lit == 0x10 || lit == 0x13 || lit == 0x1A || lit == 0x28)

/-! ## Fetching microwords -/

/-- The stored microword at a micro-address below 0x1800 (R146). -/
def State.mword (s : State) (a : Nat) : MWord := if a < 0x1000 then Config.romWord a else Store.get mwFill s.mc.words a

/-- The state with a microword stored. -/
def State.putMword (s : State) (a : Nat) (w : MWord) : State :=
  { s with mc := { s.mc with words := Store.set mwFill s.mc.words a w, flipped := s.mc.flipped.filter (fun x => x != a) } }

/-- A patch-match register or an XOP table entry written, with its parity. -/
def State.wrMc (s : State) (a : Nat) (v : Word) : State :=
  { s.wr a v with mc := { s.mc with flipped := s.mc.flipped.filter (fun x => x != 0x1FFF) } }

/-! ## Operands -/

/-- The value that a register select names (Table 6.5); `iw` is the instruction word. -/
def State.mwRead (s : State) (m : Micro) (iw : Word) (r : Nat) : Word :=
  if r < 0x20 then s.reg r
  else if r < 0x24 then (s.acc ((r - 0x20) / 2)).extractLsb' (32 * (r % 2)) 32
  else if r = 0x24 then s.reg m.rd
  else if r = 0x25 then s.reg m.ra
  else if r = 0x26 then s.reg (fld iw 11 5)
  else if r = 0x30 then m.mt0
  else if r = 0x31 then m.mt1
  else if r = 0x32 then m.mt2
  else if r = 0x33 then BitVec.ofNat 32 m.loop
  else 0

/-- The general registers and accumulators that a register select names, as the scoreboard numbers them. -/
def mwBoard (m : Micro) (iw : Word) (r : Nat) : List Nat :=
  if r < 0x20 then [r] else if r < 0x24 then [32 + (r - 0x20) / 2]
  else if r = 0x24 then [m.rd] else if r = 0x25 then [m.ra] else if r = 0x26 then [fld iw 11 5] else []

/-- A register select written (Table 6.5). -/
def State.mwWrite (s : State) (m : Micro) (iw : Word) (r : Nat) (v : Word) : State × Micro :=
  if r < 0x20 then (s.setReg r v, m)
  else if r < 0x24 then
    (let a := s.acc ((r - 0x20) / 2)
     let hi := a.extractLsb' 32 32
     let lo := a.extractLsb' 0 32
     (s.setAcc ((r - 0x20) / 2) (if r % 2 = 0 then hi ++ v else v ++ lo), m))
  else if r = 0x24 then (s.setReg m.rd v, m)
  else if r = 0x25 then (s.setReg m.ra v, m)
  else if r = 0x26 then (s.setReg (fld iw 11 5) v, m)
  else if r = 0x30 then (s, { m with mt0 := v })
  else if r = 0x31 then (s, { m with mt1 := v })
  else if r = 0x32 then (s, { m with mt2 := v })
  else if r = 0x33 then (s, { m with loop := v.toNat % 256 })
  else (s, m)

/-- The ALU of a microword (Table 6.2); `idle` is what an idle ALU gives, which the spec does not state. -/
def mwAlu (f : Nat) (a b idle : Word) : Word :=
  if f = 0 then a + b else if f = 1 then a - b else if f = 2 then a &&& b else if f = 3 then a ||| b
  else if f = 4 then a ^^^ b else if f = 5 then ~~~ (a ||| b) else if f = 6 then a <<< shAmt b
  else if f = 7 then a >>> shAmt b else if f = 8 then a.sshiftRight (shAmt b) else if f = 9 then a.rotateRight (shAmt b)
  else if f = 0xA then boolWord (sltB a b) else if f = 0xB then boolWord (ultB a b) else if f = 0xC then boolWord (a == b)
  else if f = 0xD then (if sltB b a then b else a) else if f = 0xE then (if sltB a b then b else a)
  else if f = 0xF then (if ultB b a then b else a) else if f = 0x10 then (if ultB a b then b else a)
  else if f = 0x11 then a else if f = 0x12 then b else idle

/-- The shifter on operand A (Table 6.2). -/
def mwShift (op k : Nat) (a : Word) : Word :=
  if op = 1 then a <<< k else if op = 2 then a >>> k else if op = 3 then a.sshiftRight k
  else if op = 4 then a.rotateRight k else a

/-- The multiplier's result in place of the ALU's (MD 1 to 3). -/
def mwMul (md : Nat) (a b r : Word) : Word :=
  if md = 1 then a * b else if md = 2 then mulHigh a b else if md = 3 then mulHighU a b else r

/-- The micro-flags Z, N, C, V (bits 3 to 0) of an ALU result: C and V are given for an addition and V for a subtraction;
the spec does not state the others, so they are bits of `x`. -/
def mwFlags (f : Nat) (a b r x : Word) : Nat :=
  let addV := a.msb == b.msb && r.msb != a.msb
  let subV := a.msb != b.msb && r.msb != a.msb
  let c := if f = 0 then decide (2 ^ 32 ≤ a.toNat + b.toNat) else bitOf x 0
  let v := if f = 0 then addV else if f = 1 then subV else bitOf x 1
  b2n (r == 0) * 8 + b2n r.msb * 4 + b2n c * 2 + b2n v

/-- A CRC-32 step over the four bytes of A, without the final XOR (R151). -/
def mwCrc32 (c a : Word) : Word := BitVec.ofNat 32 ((wordBytes a).foldl crc32Byte c.toNat)

/-- A CRC-16 step over the four bytes of A (R151). -/
def mwCrc16 (c a : Word) : Word := BitVec.ofNat 32 ((wordBytes a).foldl crc16Byte (c.toNat % 65536))

/-- mt2 after the CRC field's operation. -/
def mwCrc (op : Nat) (c a : Word) : Word :=
  if op = 1 then 0xFFFFFFFF else if op = 2 then 0xFFFF else if op = 3 then mwCrc32 c a
  else if op = 4 then mwCrc16 c a else if op = 5 then ~~~ c else c

/-- The access size of LSU [78:77]. -/
def mwSize (k : Nat) : Size := if k = 1 then .half else if k = 2 then .byte else .word

/-- The instruction word of an XOP. -/
def xopWord (rd ra n : Nat) : Word := (sisEncode (.xop (BitVec.ofNat 5 rd) (BitVec.ofNat 5 ra) (BitVec.ofNat 6 n))).getD 0

/-! ## One microword -/

/-- What a microword did: the routine goes on, holds, has ended (with a fetch target where it gives one), or the instruction
has left X for an exception. -/
inductive MOut where
  | go (s : State) (m : Micro)
  | hold (s : State) (m : Micro)
  | fin (s : State) (m : Micro) (target : Option Word)
  | out (s : State)

/-- The checkpoint of a word (R158, Table 6.8). -/
def mwCheckpoint (m : Micro) (a sel : Nat) : Checkpoint :=
  let s0 := if sel = 1 || sel = 2 || sel = 4 then m.mt0 else if sel = 3 || sel = 5 then m.mt1 else if sel = 6 then m.mt2 else 0
  let s1 := if sel = 1 then m.mt1 else if sel = 2 || sel = 3 then m.mt2 else 0
  ⟨s0, s1, sel, m.loop, m.flags, a⟩

/-- The routine's cycles that the cycle count has not had yet pass: the 2 of the dispatch and one for each word (R157). -/
def State.mwPay (s : State) (m : Micro) : State × Micro :=
  (s.spend (m.words + 2 - m.paid), { m with paid := max m.paid (m.words + 2) })

/-- A precise exception of the instruction that the routine implements; the routine's checkpoint stands for the entry. -/
def State.mwTrap (s : State) (m : Micro) (id sub detail : Nat) (addr : Option Nat) (raised : Option Bool) : MOut :=
  let p := s.mwPay m
  .out (((p.1.onCore (fun c => { c with micro := some p.2 })).takeException id sub detail addr raised).onCore
    (fun c => { c with micro := none }))

/-- Fault 0x18 at a micro-address (R147, R150, R152, R155), no exception of the instruction (Table 7.2): the word is not executed
and the sequencer stays at it (log entry 103). -/
def State.mwBad (s : State) (m : Micro) (a : Nat) (injected : Bool) : MOut :=
  .hold (s.raise ⟨0x18, BitVec.ofNat 32 a, none, injected, false⟩) m

/-- TRAP (R156): 0x10 with SUB 6 (Table 7.4), and 0x18 with the word's micro-address. -/
def State.mwTrapWord (s : State) (m : Micro) (a lit : Nat) : MOut :=
  if lit = 0x18 then s.mwTrap m 0x18 0 a none none
  else if lit = 0x13 || lit = 0x1A || lit = 0x28 then s.mwTrap m lit 0 s.core.pc.toNat none none
  else s.mwTrap m 0x10 6 s.core.pc.toNat none none

/-- The mode of a station that serves a word's own LSU access to a Ring window. -/
def mwDirect : Nat := 8

/-- The stations that this routine has issued for a collect: those of its level. -/
def State.mwStations (s : State) : List Station :=
  s.core.stations.filter (fun t => t.micro && t.level == s.level && decide (t.mode < mwDirect))

/-- The stations whose result the routine can collect in its present cycle (Table 4.3). -/
def State.mwDone (s : State) (m : Micro) : List Station :=
  s.mwStations.filter (fun t => t.result.isSome && decide (t.due ≤ m.words))

/-- COND (Table 6.4), with the loop counter after the word's MT update. -/
def State.mwCond (s : State) (m : Micro) (loop c : Nat) : Bool :=
  let fl (k : Nat) : Bool := m.flags / 2 ^ k % 2 == 1
  if c = 0 then true else if c = 1 then fl 3 else if c = 2 then !fl 3 else if c = 3 then fl 2 else if c = 4 then !fl 2
  else if c = 5 then fl 1 else if c = 6 then !fl 1 else if c = 7 then fl 0
  else if c = 8 then loop == 0 else if c = 9 then loop != 0
  else if c = 0xA then !(s.mwDone m).isEmpty
  else if c = 0xB then m.loadData.isSome
  else false

/-- The index of DISP (Table 6.4). -/
def State.mwDisp (s : State) (m : Micro) (iw : Word) (c : Nat) : Nat :=
  if c = 0x20 then fld iw 26 6 else if c = 0x21 then fld iw 0 5 else if c = 0x22 then fld iw 12 4
  else s.get (MC_XOP_OFFSET m.xop)

/-- The address of AGEN; a gate or vector number the routine has not is a free value. -/
def State.mwAddr (s : State) (g : Nat) (a b : Word) : Word :=
  if g = 0 then a + b else if g = 1 then a
  else if g = 2 then BitVec.ofNat 32 (s.ssBase + 4 * s.ssDepth)
  else if g = 3 then BitVec.ofNat 32 ((s.csrRaw 0x011).toNat / 4096 * 4096 + 32 * (s.freeVal.toNat % 128))
  else if g = 4 then BitVec.ofNat 32 ((s.csrRaw 0x010).toNat / 2048 * 2048 + 8 * (s.freeVal.toNat % 256))
  else BitVec.ofNat 32 (s.frameAt s.gDepth)

/-- The operand A or B by its source select. -/
def State.mwOperand (s : State) (m : Micro) (iw : Word) (isA : Bool) (w : MWord) (coll : Word) : Word :=
  let sel := if isA then mf w 94 3 else mf w 91 3
  let lit : BitVec 16 := BitVec.ofNat 16 (mf w 40 16)
  if sel = 0 then s.mwRead m iw (if isA then mf w 115 6 else mf w 109 6)
  else if sel = 1 then (if isA then s.core.pc else (iw.extractLsb' 0 16).signExtend 32)
  else if sel = 2 then lit.setWidth 32
  else if sel = 3 then (if isA then lit.signExtend 32 else lit.setWidth 32 <<< 16)
  else if sel = 4 then m.loadData.getD 0
  else if sel = 5 then (if isA then s.freeVal else 4)
  else coll

/-! ## The scanner -/

/-- An injection of 0x19 inverts one bit of the stored word it names (Table 2.6); the word is noted (R72). One that names 0x1FFF
inverts the parity of the registers, until one of them is written. -/
def State.scanInject (s : State) : State :=
  match s.flt.inj.find? (fun i => i.id == 0x19) with
  | some i =>
    if 0x1000 ≤ i.arg && i.arg < 0x1800 then
      let s := (s.injUsed 0x19 i.arg).putMword i.arg (s.mword i.arg ^^^ 1)
      { s with mc := { s.mc with flipped := i.arg :: s.mc.flipped.filter (fun a => a != i.arg) } }
    else if i.arg = 0x1FFF then
      { s.injUsed 0x19 0x1FFF with mc := { s.mc with flipped := 0x1FFF :: s.mc.flipped.filter (fun a => a != 0x1FFF) } }
    else s.injUsed 0x19 i.arg
  | none => s

/-- A failure that the scanner finds: recorded, and 0x19 raised with its micro-address, for a register 0x1FFF (R153). -/
def State.scanFail (s : State) (a : Nat) (injected : Bool) : State :=
  ((s.put MC_SCAN_ADDR a).put MC_SCAN_FAIL 1).raise ⟨0x19, BitVec.ofNat 32 a, none, injected, false⟩

/-- One word checked by the scanner. -/
def State.scanCheck (s : State) (a : Nat) : State :=
  if mf (s.mword a) 0 8 == mwChk (s.mword a) a then s else s.scanFail a (s.mc.flipped.contains a)

/-- The parity of the patch-match registers and the XOP table, checked once a pass. -/
def State.scanRegs (s : State) : State := if s.mc.flipped.contains 0x1FFF then s.scanFail 0x1FFF true else s

/-- CONTROL_STORE_SCAN (R153): one CCLK of the scanner: a patch RAM word and a customer window word; 1,024 make a pass, which
ends with the registers. It runs in LIT and DIM. -/
def execControlStoreScan (s : State) : Res :=
  .next (if s.pstate < 4 || s.core.inReset || s.snf.only then s
    else
      let k := s.mc.scan
      let s := s.scanInject
      let s := { s with mc := { s.mc with scan := (k + 1) % 1024 } }
      let s := (s.scanCheck (0x1000 + k)).scanCheck (0x1400 + k)
      if k = 1023 then (s.put MC_SCAN_PASS 1).scanRegs else s)

/-- The stored words of patch RAM `p` and of the customer window `w` in the order in which a pass checks them. -/
def scanOrder : Nat → List Nat → List Nat → List Nat
  | 0, _, _ => []
  | _ + 1, [], w => w
  | _ + 1, p, [] => p
  | n + 1, p :: ps, w :: ws =>
    if p - 0x1000 ≤ w - 0x1400 then p :: scanOrder n ps (w :: ws) else w :: scanOrder n (p :: ps) ws

/-- One full pass of the scanner, as a start runs it before the release (R153, R466, R469); a word not stored is the fill word,
whose CHK is right. -/
def State.scanPass (s : State) : State :=
  let s := s.scanInject
  let l := s.mc.words.map (fun e => e.1)
  let s := (s.put MC_SCAN_PASS 1).scanRegs
  (scanOrder l.length (l.filter (fun a => decide (a < 0x1400))) (l.filter (fun a => decide (0x1400 ≤ a)))).foldl State.scanCheck s

/-! ## Debug access -/

/-- Debug may read the control store (R177). -/
def State.csReadable (s : State) : Bool := s.is DBG_STAT_HALTED && (s.develop || s.unlocked)

/-- The effect of MC_CSCTL_RD (R177). -/
def State.csRead (s : State) : State :=
  (if !s.csReadable then s
    else
      let w := s.mword (s.get MC_CSADDR_V)
      let s := [0, 1, 2, 3].foldl (fun s n => s.wr (MC_CSDATA n) (w.extractLsb' (32 * n) 32)) s
      s.wr MC_CSDATA4 (BitVec.ofNat 32 (mf w 128 16)))

/-- MC_CSCTL_RD (R177). -/
def execMcCsctlRd (s : State) : Res := .next (s.ownCommand MC_CSCTL State.csRead)

/-- PSTALE is set in every save set that holds a micro-state (R178). -/
def State.staleAll (s : State) : State :=
  [0, 1, 2, 3, 4, 5, 6, 7, 8].foldl (fun s c =>
    let m := s.csrRaw (saveCsr c 6)
    if fld m 30 2 = 1 then s.csrPut (saveCsr c 6) (putFld m 28 1 1) else s) s

/-- Debug may write the control store, MC_PMn and MC_XOPn (R177): halted, in DEVELOP, with MC_CSADDR in the patch RAM or the
customer window. -/
def State.csWritable (s : State) : Bool :=
  s.is DBG_STAT_HALTED && s.develop && decide (0x1000 ≤ s.get MC_CSADDR_V && s.get MC_CSADDR_V < 0x1800)

/-- The effect of MC_CSCTL_WR (R177, R178). -/
def State.csStore (s : State) : State :=
  let a := s.get MC_CSADDR_V
  (if !s.csWritable then s
    else
      let n := (s.rd (MC_CSDATA 0)).toNat + (s.rd (MC_CSDATA 1)).toNat * 2 ^ 32 + (s.rd (MC_CSDATA 2)).toNat * 2 ^ 64 +
        (s.rd (MC_CSDATA 3)).toNat * 2 ^ 96 + fld (s.rd MC_CSDATA4) 0 16 * 2 ^ 128
      (s.putMword a (mwSeal (BitVec.ofNat 144 n) a)).staleAll)

/-- MC_CSCTL_WR (R177, R178). -/
def execMcCsctlWr (s : State) : Res := .next (s.ownCommand MC_CSCTL State.csStore)

end Sys2Proof.Machine
end

