-- ==== Sys2Proof/Machine/Slices.lean ====
section
/-! DEFINITION. The commands of the monitor slices, the converters and Ember watch (spec/11). -/
namespace Sys2Proof.Machine

/-! ## Slice changes -/

/-- The MON_SAMPLE result of a slice as it stands (R318). -/
def State.sampleNow (s : State) (n : Nat) : Nat :=
  s.get (MON_STAT_LF n) + s.get (MON_STAT_UF n) * 2 + (if s.digital n then s.get (MON_STAT_UF n) else 0) * 4 +
  s.get (MON_STAT_CNT n) * 8

/-- The open SLICE channels bound to a slice, over the listed registers. -/
def State.sliceChans (s : State) (n : Nat) : List Nat :=
  (s.regs.filter (fun p => decide (CE_CHINFO 0 ≤ p.1) && decide (p.1 < CE_CHINFO 1024))).map (fun p => (p.1 - CE_CHINFO 0) / 4)
    |>.filter (fun i => s.is (CE_CHINFO_OPEN i) && s.chKind i == 0 && s.chBound i == n)

/-- An event of a slice reaches its channels where MON_ARM has enabled it (R318): at once in LIT, at the next scan tick in
EMBER, after the wake from DIM (R288, R312). -/
def State.sliceEvent (s : State) (n code armBit : Nat) : State :=
  let data := s.sampleNow n
  (s.sliceChans n).foldl (fun s i =>
    if Store.get (fun _ => 0) s.ce.arm i / 2 ^ armBit % 2 = 0 then s
    else if s.pstate == 5 then s.ceEvent i code (BitVec.ofNat 64 data)
    else { s with mon := { s.mon with latched := s.mon.latched ++ [(i, code, data)] } }) s

/-- What the latched changes deliver at a tick in EMBER: their slices' results then (R318). -/
def State.retake (s : State) : State :=
  { s with mon := { s.mon with latched := s.mon.latched.map (fun e => (e.1, e.2.1, s.sampleNow (s.chBound e.1))) } }

/-- The latched changes are delivered in order. -/
def State.eventList (s : State) : List (Nat × Nat × Nat) → State
  | [] => s
  | (i, code, data) :: t => (s.ceEvent i code (BitVec.ofNat 64 data)).eventList t

/-- The latched changes are delivered (R312). -/
def State.sliceFlush (s : State) : State :=
  let l := s.mon.latched
  ({ s with mon := { s.mon with latched := [] } }).eventList l

/-- Slices with FLT in violation, over the listed registers (R303). -/
def State.violating (s : State) : List Nat :=
  (s.regs.filter (fun p => decide (MON_STAT 0 ≤ p.1) && decide (p.1 < 0x40022000) && (p.1 - MON_STAT 0) % 64 == 0)).map
    (fun p => (p.1 - MON_STAT 0) / 64) |>.filter (fun n => s.is (MON_CFG_FLT n) && s.sliceLive n &&
      (s.is (MON_STAT_UF n) || s.is (MON_STAT_LF n)))

/-- Fault 0x40's condition follows the slices with FLT; it is raised as it becomes present, DETAIL [8] for the upper window
(R303, Table 2.5). -/
def State.violation (s : State) : State :=
  match s.violating with
  | [] => s.condition 0x40 false
  | n :: _ =>
    if s.flt.cond.contains 0x40 then s else (s.condition 0x40 true).faultOn 0x40 (n + 256 * s.get (MON_STAT_UF n)) n

/-- One side of a slice takes a filtered value: the matrix, the events and fault 0x40 follow (R294, R302, R303, R318). -/
def State.filtered (s : State) (n : Nat) (upper v : Bool) : State :=
  let f := if upper then MON_STAT_UF n else MON_STAT_LF n
  if s.is f == v then s
  else
    let s := ((s.matrix n (fun s => (s.flag f v).cntSync n)).logCheck s).voterSync n
    let dm := s.get (MON_CFG_DMODE n)
    let s :=
      if s.digital n then
        (if v then (if dm = 2 then s else s.sliceEvent n 5 2) else (if dm = 1 then s else s.sliceEvent n 6 2))
      else if upper then s.sliceEvent n (if v then 2 else 4) 1 else s.sliceEvent n (if v then 1 else 3) 0
    s.violation

/-- Slices `n` and `n + 1` take their input from one pin: `n + 1` is a rate slice, and `n` does not take an internal source
(R289). -/
def State.sharesPin (s : State) (n : Nat) : Bool :=
  decide (n + 1 < 128) && s.get (MON_CFG_MODE (n + 1)) == 2 && !(decide (120 ≤ n) && s.is (MON_CFG_SRC n))

/-- The member that differs from the other two on one side of a voter. -/
def State.minority (s : State) (g : Nat) (upper : Bool) : Option Nat :=
  match s.members g, s.voterIn g upper with
  | [m0, m1, m2], [a, b, c] => if a == b then (if b == c then none else some m2) else if a == c then some m1 else some m0
  | _, _ => none

/-- VOTER_DISAGREEMENT (R301): a voter's inputs have not been equal for N samples, or an injection makes one fail. -/
def execVoterDisagreement (g : BitVec 5) (s : State) : Res :=
  let g := g.toNat
  .next (if !s.matrixOn then s
    else
      let inj := s.flt.inj.find? (fun i => i.id == 0x41 && decide (256 ≤ i.arg) && (s.members g).contains (i.arg % 128))
      let up := s.disagree g true
      let s' := match inj with
        | some i => s.injUsed i.id i.arg
        | none => s
      if up || s.disagree g false then
        ((s'.monBad 0x41 g true).raise ⟨0x41, BitVec.ofNat 32 (g + b2n up * 256), s.minority g up, inj.isSome, false⟩)
      else match inj with
        | some i =>
          if s.get (MON_GRPC_KIND g) = 1 && !s.suspended g then
            s'.raise ⟨0x41, BitVec.ofNat 32 (g + 256), some (i.arg % 128), true, false⟩
          else s'
        | none => s)

/-- RATE_RECAPTURE (R293): the hold takes the input of the pair's pin, and the comparison goes on against it. -/
def execRateRecapture (n : BitVec 7) (s : State) : Res :=
  let n := n.toNat
  .next (if s.get (MON_CFG_MODE n) ≠ 2 || !s.sliceLive n then s
    else
      let x := Store.get (fun _ => 0) s.mon.input n
      { s with mon := { s.mon with hold := Store.set (fun _ => 0) s.mon.hold n x } }.compare n)

/-- SLICE_SELF_CHECK (R297): the eight steps of a live slice; `failed` is the step whose condition failed, coded step − 1.
Steps 3, 4, 7 and 8 are skipped in digital mode; an SC injection forces a failure. -/
def execSliceSelfCheck (n : BitVec 7) (failed : Option (BitVec 3)) (s : State) : Res :=
  let n := n.toNat
  .next (if !s.matrixOn || !s.sliceLive n || s.unwatched n then s
    else
      let inj := s.injected 0x42 n
      let s := if inj then s.injUsed 0x42 n else s
      let f := match failed with
        | some k => if s.digital n && (k.toNat / 2 % 2 == 1) then none else some k.toNat
        | none => none
      let f := if inj && f.isNone then some 0 else f
      match f with
      | none => (s.put (MON_SC_LASTOK n) 1).monBad 0x42 n false
      | some k =>
        let s := ((s.put (MON_SC_LASTOK n) 0).put (MON_SC_STEP n) k).bump (MON_SC_FAILS n) 1
        (s.monBad 0x42 n true).raise ⟨0x42, BitVec.ofNat 32 n, some n, inj, false⟩)

/-! ## Thresholds, filters and the watch set -/

/-- A write of MON_THRn (R295, R296): clamped to the limits; read-only in digital mode. -/
def State.thrWrite (s : State) (m : Master) (n : Nat) (v : Word) : State :=
  let a := MON_THR n
  if !s.isSealed && m != .lamp then s.clamped a
  else if s.digital n then s
  else
    let u := fld v 0 10
    let l := fld v 16 10
    let ul := s.get (MON_LIM_ULIM n)
    let ll := s.get (MON_LIM_LLIM n)
    let rate := s.get (MON_CFG_MODE n) = 2
    let u' := if rate then max 1 (min u ul) else min u ul
    let l' := if rate then max 1 (min l ll) else max l ll
    ((s.wr a (BitVec.ofNat 32 (u' + l' * 65536))).clampIf (u' != u || l' != l) a).compare n

/-- A write of MON_FILTn (R295, R296). -/
def State.filtWrite (s : State) (m : Master) (n : Nat) (v : Word) : State := (s.plainWrite m (MON_FILT n) v).compare n

/-- A slice comes back from isolation (R304): filtered outputs 0 and a fresh count. Under a hold the restart is ignored and
counts (R411). -/
def State.sliceRestart (s : State) (n : Nat) : State :=
  let r := s.heldAt (0x510 + n)
  let s := r.1
  if r.2 then s.clamped (MON_CFG n)
  else if !s.is (MON_STAT_ISO n) || s.pend (s.get (MON_STAT_ISOID n)) then s
  else
    let s := { s with flt := { s.flt with isolated := s.flt.isolated.filter (fun u => u != IsoUnit.slice n) } }
    let s := s.matrix n (fun s => (((s.put (MON_STAT_ISO n) 0).put (MON_STAT_UF n) 0).put (MON_STAT_LF n) 0).cntSync n)
    (((s.voterSync n).compare n).ledger (0x510 + n) 1).violation

/-- MON_RESTART (R304). -/
def execMonRestart (n : BitVec 7) (s : State) : Res := .next (s.ownCommand (MON_CFG n.toNat) (fun s => s.sliceRestart n.toNat))

/-- A write of MON_CFGn: FLT and WAKE tighten; RESTART acts. -/
def State.monCfgWrite (s : State) (m : Master) (n : Nat) (v : Word) : State :=
  let t := s.plainWrite m (MON_CFG n) (v &&& 0xFFFEFFFF)
  ((if bitOf v 16 then t.sliceRestart n else t).onceSince s).violation

/-- The slices in the watch set that count: those with EN 1 (R313). -/
def State.watchCount (s : State) : Nat → Nat
  | 0 => 0
  | n + 1 => s.watchCount n + (if s.watched n && s.is (MON_CFG_EN n) then 1 else 0)

/-- New slices are added in ascending order until 16 are set: bits `b` to `b + n − 1` of register `k`; the flag says that
one was dropped. -/
def State.watchAdd (s : State) (k : Nat) (v : Word) (b : Nat) : Nat → State × Bool
  | 0 => (s, false)
  | n + 1 =>
    let slice := 32 * k + b
    if !bitOf v b || s.watched slice then s.watchAdd k v (b + 1) n
    else if s.is (MON_CFG_EN slice) && 16 ≤ s.watchCount 128 then
      (let r := s.watchAdd k v (b + 1) n
       (r.1, true))
    else (s.wr (MON_WSET k) (s.rd (MON_WSET k) ||| bit b)).watchAdd k v (b + 1) n

/-- A write of MON_WSETk (R313, R457): the slices of the sealed value stay, others are added in ascending order up to 16; a write
that would drop a sealed one, or exceed 16, counts. -/
def State.wsetWrite (s : State) (m : Master) (k : Nat) (v : Word) : State :=
  let a := MON_WSET k
  if !s.isSealed && m != .lamp then s.clamped a
  else
    let lost := (s.latched a &&& ~~~ v) != 0
    let r := (s.wr a (s.latched a)).watchAdd k v 0 32
    (r.1.put MON_GCTL_WCOUNT (r.1.watchCount 128)).clampIf (r.2 || lost) a

/-- A write of a slice register by its place in the slice's block; outputs added to the route set of a side that is 1 are
snuffed (R302). -/
def State.monRegWrite (s : State) (m : Master) (a : Nat) (v : Word) : State :=
  let n := (a - 0x40020000) / 64
  if decide (MON_WSET 0 ≤ a) && decide (a < MON_WSET 4) then s.wsetWrite m ((a - MON_WSET 0) / 4) v
  else if a % 64 == 0 then s.monCfgWrite m n v
  else if a % 64 == 4 then s.thrWrite m n v
  else if a % 64 == 8 then s.filtWrite m n v
  else if s.matrixOn && s.routeOn a then
    (let t := s.plainWrite m a v
     t.snuff (t.rd a &&& ~~~ s.rd a &&& 0xFFFFFF))
  else s.plainWrite m a v

/-- Slice writes held since step 4 take effect (R314, R418). -/
def State.heldWrites (s : State) : List (Nat × Word) → State
  | [] => s
  | (a, v) :: t => (s.monRegWrite .cluster a v).heldWrites t

/-- Slice writes are held (R314): during a deep entry from its step 4 on, and in SMOULDER. -/
def State.holdsWrites (s : State) : Bool := (s.pm.phase && s.deep) || s.pstate == 2

/-- Held slice writes are applied and forgotten. -/
def State.heldFlush (s : State) : State :=
  let l := s.pm.held
  (s.onPm (fun p => { p with held := [] })).heldWrites l

/-- Slice writes left held by an entry that a Limp has abandoned have taken effect (R418, R419). -/
def State.heldDue (s : State) : State := if s.holdsWrites || s.pm.held.isEmpty then s else s.heldFlush

/-- The slices' registers (spec/11); a deep entry holds the writes made after its step 4 (R314, R418). -/
def State.monWrite (s : State) (m : Master) (a : Nat) (v : Word) : State :=
  if s.holdsWrites then s.onPm (fun p => { p with held := p.held ++ [(a, v)] }) else s.heldDue.monRegWrite m a v

/-- SLICE_THRESHOLD_CROSSING (R289–R293): the input of slice `n` stands at `x` × 0.125 mV at its comparator; the other slice on
the same pin follows it too. -/
def execSliceThresholdCrossing (n : BitVec 7) (x : BitVec 16) (s : State) : Res :=
  let n := n.toNat
  let set (s : State) (k : Nat) : State :=
    { s with mon := { s.mon with input := Store.set (fun _ => 0) s.mon.input k x.toNat } }.compare k
  let s := s.heldDue
  .next (if !s.matrixOn then s
    else if s.sharesPin n then set (set s n) (n + 1)
    else if 0 < n && s.sharesPin (n - 1) then set (set s (n - 1)) n else set s n)

/-- DEGLITCH (R294): N consecutive samples have shown the raw value, and the filtered output takes it. -/
def execDeglitch (n : BitVec 7) (upper : Bool) (s : State) : Res :=
  let n := n.toNat
  let s := s.heldDue
  .next (if !s.matrixOn || !s.sliceLive n || s.unwatched n then s
    else s.filtered n upper (s.is (if upper then MON_STAT_UR n else MON_STAT_LR n)))

/-- MON_THR_WRITE (R295). -/
def execMonThrWrite (m : Master) (n : BitVec 7) (v : Word) (s : State) : Res :=
  .next (s.regCommand m (MON_THR n.toNat) (fun s => s.monWrite m (MON_THR n.toNat) v))

/-- MON_WSET_WRITE (R313). -/
def execMonWsetWrite (m : Master) (k : BitVec 2) (v : Word) (s : State) : Res :=
  .next (s.regCommand m (MON_WSET k.toNat) (fun s => s.monWrite m (MON_WSET k.toNat) v))

/-! ## Ember watch -/

/-- The slices' sample results are captured (R312). -/
def State.scanCapture (s : State) : State :=
  { s with mon := { s.mon with
    scan := s.enabledSlices.foldl (fun t n => Store.set (fun _ => 0) t n (s.sampleNow n)) s.mon.scan } }

/-- SCAN_TICK (R312): in EMBER the latched changes are delivered, with the states at the tick, and the samples captured. -/
def execScanTick (s : State) : Res := .next (if s.pstate == 3 && s.ceOn then s.retake.sliceFlush.scanCapture else s)

/-- SLICE_SETTLED (R317): a slice powered again starts its counts afresh. -/
def execSliceSettled (n : BitVec 7) (s : State) : Res :=
  let n := n.toNat
  .next (if !s.lit || !s.is (MON_CFG_EN n) || s.is (MON_STAT_LIVE n) then s
    else ((s.matrix n (fun s => s.put (MON_STAT_LIVE n) 1)).compare n).voterSync n)

/-- A slice runs on in SMOULDER: it is in the watch set, and so is the other slice of its rate pair (R313, R315). -/
def State.staysOn (s : State) (n : Nat) : Bool := s.watched n && (s.get (MON_CFG_MODE n) != 2 || s.watched (n - 1))

/-- Slices that do not run on freeze at 0 and lose power (R314, R315). -/
def State.freezeList (s : State) : List Nat → State
  | [] => s
  | n :: t =>
    (if s.staysOn n then s
     else
       let s := s.matrix n (fun s => s.wr (MON_STAT n) (s.rd (MON_STAT n) &&& 0xFFFFFFC0))
       if s.is (MON_STAT_ISO n) then s else s.ledger (0x510 + n) 5).freezeList t

/-- Entry to SMOULDER (R314, R315): the slices outside the watch set are frozen and off. -/
def State.slicesFreeze (s : State) : State := (s.freezeList s.enabledSlices).violation

/-- Every enabled slice is powered and settled at a cold start. -/
def State.slicesUp (s : State) : State :=
  s.enabledSlices.foldl (fun s n => (s.matrix n (fun s => s.put (MON_STAT_LIVE n) 1)).compare n) s

/-! ## Operations on SLICE channels -/

/-- MON_ARM (R318). -/
def execMonArm (tag : BitVec 10) (s : State) : Res :=
  .next (s.ceRun tag 4 (fun s o =>
    (s.onCe (fun c => { c with arm := Store.set (fun _ => 0) c.arm (o.handle % 1024) (fld (o.arg 0) 0 3) })).ceDone o.tag stOk 0))

/-- MON_SAMPLE (R318): the state now, or in EMBER as captured at the latest tick. -/
def execMonSample (tag : BitVec 10) (s : State) : Res :=
  .next (s.ceRun tag 5 (fun s o =>
    let n := s.chBound (o.handle % 1024)
    let v := if s.pstate == 3 then Store.get (fun _ => 0) s.mon.scan n else s.sampleNow n
    s.ceDone o.tag stOk (BitVec.ofNat 64 v)))

/-- ADC_CONVERT (R306, R307): queued on the named converter or on the one with the shorter queue. -/
def execAdcConvert (tag : BitVec 10) (s : State) : Res :=
  .next (s.ceRun tag 6 (fun s o =>
    let a := o.arg 0
    let s := (s.adcPut 0 (s.adcQ 0)).adcPut 1 (s.adcQ 1)
    let c := if bitOf a 1 then (if (s.adcQ 1).length < (s.adcQ 0).length then 1 else 0) else fld a 0 1
    if !s.is (MON_CFG_EN (s.chBound (o.handle % 1024))) then s.ceDone o.tag stUnavail 0
    else if s.is (ADC_STAT_ISO c) then s.ceDone o.tag stIsolated 0
    else (s.ceMap o.tag (fun o => { o with atUnit := true })).adcPut c (s.adcQ c ++ [o.tag])))

/-! ## Converters -/

/-- The converters run: LIT, out of reset and LIMP, on PLLB's clock (R307, R428). -/
def State.adcRuns (s : State) : Bool := s.lit && !s.core.inReset && !s.limp && s.is CLK_STAT_ECLKPLLB

/-- The codes' mean, rounded half up (R306). -/
def adcMean (l : List (BitVec 14)) : Nat := ((l.map (fun c => c.toNat)).sum + l.length / 2) / l.length

/-- The conversion at the head of a converter's queue. -/
def State.adcHead (s : State) (c : Nat) : Option CeOp := (s.adcQ c).head?.bind s.ceFind

/-- CONVERSION_COMPLETE (R306, R311): the conversions of the operation at the head of the queue have given these codes; as many
as it averages, on a converter that is on and has run its reference check since its power-up. -/
def execConversionComplete (c : BitVec 1) (codes : List (BitVec 14)) (s : State) : Res :=
  let c := c.toNat
  .next (if !s.adcRuns || !s.is (ADC_STAT_ON c) || !s.mon.refd.contains c then s
    else match s.adcHead c with
      | none => s
      | some o =>
        if codes.length ≠ fld (o.arg 0) 4 4 + 1 then s
        else
          let s := (s.adcPut c ((s.adcQ c).drop 1)).bump (ADC_CNT_COUNT c) codes.length
          s.ceDone o.tag stOk (BitVec.ofNat 64 (adcMean codes + c * 65536)))

/-- The event fields of a converter. -/
def adcIrq (c : Nat) : Fld := if c = 0 then ADC_IRQ_V0 else ADC_IRQ_V1

/-- CALIBRATION_STEP (R308, R309, R311): one step of a calibration; the eighth completes it. A step run while conversions wait
was forced. An AD injection withholds it. -/
def execCalibrationStep (c : BitVec 1) (s : State) : Res :=
  let c := c.toNat
  .next (if !s.adcRuns || s.injected 0x43 c then s
    else
      let s := if s.is (ADC_STAT_ON c) && !(s.adcQ c).isEmpty then s.bump (ADC_FORCE_COUNT c) 1 else s
      let k := s.get (ADC_STAT_STEP c)
      if k < 7 then (s.put (ADC_STAT_STEP c) (k + 1)).put (ADC_STAT_CALACT c) 1
      else
        let s := (((s.put (ADC_STAT_STEP c) 0).put (ADC_STAT_CALACT c) 0).put (ADC_STAT_ON c) 1).wr (ADC_CALAGE c) 0
        (s.put (adcIrq c) (s.get (adcIrq c) ||| 1)).monBad 0x43 c false)

/-- The age of a converter's calibration reaches 200 ms: fault 0x43 (R309). -/
def State.calOverdue (s : State) (c : Nat) : State :=
  let inj := s.injected 0x43 c
  let s := if inj then s.injUsed 0x43 c else s
  ((s.wr (ADC_CALAGE c) 200).monBad 0x43 c true).raise ⟨0x43, BitVec.ofNat 32 c, some c, inj, false⟩

/-- CALIBRATION_OVERDUE (R309): the age reaches 200 ms. -/
def execCalibrationOverdue (c : BitVec 1) (s : State) : Res :=
  .next (if !s.lit || s.core.inReset || s.limp then s else s.calOverdue c.toNat)

/-- A millisecond of a converter's calibration age: it counts only in LIT (R309). -/
def State.calAge (s : State) (c : Nat) : State :=
  let k := s.get (ADC_CALAGE_V c)
  if k = 199 then s.calOverdue c else s.put (ADC_CALAGE_V c) (min (k + 1) 65535)

/-- A millisecond passes for the converters. -/
def State.calTick (s : State) : State :=
  if !s.lit || s.core.inReset || s.limp then s else (s.calAge 0).calAge 1

/-- REFERENCE_CHECK (R310): the check bandgap's code, expected from 9,504 to 9,696; an AD injection offsets it. -/
def execReferenceCheck (c : BitVec 1) (code : BitVec 14) (s : State) : Res :=
  let c := c.toNat
  .next (if !s.adcRuns then s
    else
      let inj := s.injected 0x44 (c + 256)
      let s := if inj then s.injUsed 0x44 (c + 256) else s
      let ok := decide (9504 ≤ code.toNat) && decide (code.toNat ≤ 9696) && !inj
      let s := { s with mon := { s.mon with refd := c :: s.mon.refd.filter (fun x => x != c) } }
      let s := (s.wr (ADC_REF c) (code.setWidth 32)).flag (ADC_STAT_REFOK c) ok
      if ok then s.monBad 0x44 c false
      else
        let s := s.put (adcIrq c) (s.get (adcIrq c) ||| 2)
        (s.monBad 0x44 c true).raise ⟨0x44, BitVec.ofNat 32 c, some c, inj, false⟩)

end Sys2Proof.Machine
end

