-- ==== Sys2Proof/Machine/Ports.lean ====
section
/-! DEFINITION. Ports, partners, the link test and the general-purpose pins (spec/12). -/
namespace Sys2Proof.Machine

/-! ## Shapes of transactions -/

/-- What the protocol code makes of a transaction (Table 12.5): the command byte sent first, whether a count byte is sent
before the data, the bytes written and those read (with a leading count where `block`), and whether PEC is used. -/
structure XferShape where
  cmd : Option Nat
  count : Bool
  wlen : Nat
  rlen : Nat
  block : Bool
  pec : Bool
  deriving DecidableEq, Repr

/-- The protocol that a Smart Battery Data command takes (Table 12.6): 1 word, 2 block read, none where reserved. -/
def sbdProto (cmd : Nat) : Option Nat :=
  if cmd ≤ 0x1C || cmd = 0x2F || (decide (0x3C ≤ cmd) && decide (cmd ≤ 0x3F)) then some 1
  else if decide (0x20 ≤ cmd) && decide (cmd ≤ 0x23) then some 2
  else none

/-- SMBus and I2C controllers, codes other than 6: `op` is the opcode, `w` and `r` the lengths. -/
def smbusShape (op proto cmd w r : Nat) (pec : Bool) : Option XferShape :=
  if proto = 0 || proto = 1 then
    (if w + r = proto + 1 && (w = 0 || r = 0) then some ⟨some cmd, false, w, r, false, pec⟩ else none)
  else if proto = 2 then
    (if r = 0 && w ≤ 255 && op != 1 then some ⟨some cmd, true, w, 0, false, pec⟩
     else if w = 0 && 2 ≤ r then some ⟨some cmd, false, 0, r, true, pec⟩
     else none)
  else if proto = 3 then
    (if op = 2 then some ⟨some cmd, false, 0, 0, false, pec⟩
     else if w = 0 && r = 1 then some ⟨none, false, 0, 1, false, pec⟩
     else if w = 0 && r = 0 then some ⟨some cmd, false, 0, 0, false, pec⟩
     else none)
  else if proto = 4 then some ⟨none, false, 0, 0, false, false⟩
  else if op != 3 then none
  else if proto = 5 then
    (if w = 2 && r = 2 then some ⟨some cmd, false, 2, 2, false, pec⟩
     else if w ≤ 255 && 2 ≤ r then some ⟨some cmd, true, w, r, true, pec⟩
     else none)
  else if proto = 7 then some ⟨none, false, w, r, false, false⟩
  else none

/-- The shape of a transaction for a personality (Table 12.5): `arg0` of the operation, the lengths, and word 0 of the record
and PORT_CFGn; none where it completes with BADARG. -/
def xferShape (pers op : Nat) (arg0 rec cfg : Word) (w r : Nat) : Option XferShape :=
  let proto := fld arg0 16 3
  let cmd := fld arg0 0 8
  let pec := pers == 2 && bitOf rec 6
  let first : Option Nat := if bitOf arg0 19 then some cmd else none
  if pers = 2 || pers = 4 then
    (if proto = 6 then
      (match sbdProto cmd with
       | some 1 => if op = 1 || (op = 3 && w = 0) then smbusShape op 1 cmd 0 2 pec else smbusShape op 1 cmd 2 0 pec
       | some _ => if op = 2 || (op = 3 && w != 0) then none else smbusShape 1 2 cmd 0 (if op = 1 then 8 else r) pec
       | none => none)
     else smbusShape op proto cmd w r pec)
  else if pers = 1 then
    (if proto = 1 then
      (if bitOf cfg 6 && w % 2 = 0 && r % 2 = 0 then some ⟨some (cmd % 128), false, w, r, false, false⟩ else none)
     else if proto = 4 then
      (if bitOf rec 15 && w + r = 1 then some ⟨some cmd, false, w, r, false, false⟩ else none)
     else if proto = 7 then (if bitOf rec 15 then some ⟨none, false, w, r, false, false⟩ else none)
     else if proto ≤ 3 then some ⟨some cmd, false, w, r, false, false⟩
     else none)
  else if pers = 6 then
    (if proto ≤ 1 || (proto = 2 && bitOf cfg 7) then some ⟨first, false, w, r, false, false⟩ else none)
  else if pers = 7 then (if proto = 0 then some ⟨first, false, w, r, false, false⟩ else none)
  else none

/-- The write and read lengths that an operation gives. -/
def CeOp.lengths (o : CeOp) : Nat × Nat :=
  if o.op = 1 then (0, fld (o.arg 0) 8 8)
  else if o.op = 2 then (fld (o.arg 0) 8 8, 0)
  else (fld (o.arg 2) 0 16, fld (o.arg 2) 16 16)

/-- Protocols that EMBER does not serve (R344): HDR-DDR and quad. -/
def liteOnly (pers proto : Nat) : Bool := (pers == 1 && proto == 1) || (pers == 6 && proto == 2)

/-! ## The state of a port -/

/-- The port's personality. -/
def State.pers (s : State) (p : Nat) : Nat := s.get (PORT_CFG_PERS p)

/-- The supply of the bank in which the port's pins lie is present (R319, R499). -/
def State.portBank (s : State) (p : Nat) : Bool := if p < 8 then s.pins.vio1 else s.pins.vio2

/-- What a pin of a port carries (Table 12.1): nothing, at high impedance, or a line of the personality. -/
inductive PortPin where
  | hiZ | scl | sda | alertIn | alertOut | sck | io (n : Nat) | cs0 | tx | txRx | rx | rts | cts | prbs (level : Bool)
  deriving DecidableEq, Repr

/-- Table 12.1: what pin `k` (0 Pn_A to 3 Pn_D) carries for a personality, by PORT_CFGn. -/
def persPin (pers : Nat) (cfg : Word) (k : Nat) : PortPin :=
  match pers, k with
  | 1, 0 | 2, 0 | 3, 0 | 4, 0 | 5, 0 => .scl
  | 1, 1 | 2, 1 | 3, 1 | 4, 1 | 5, 1 => .sda
  | 2, 2 => if bitOf cfg 3 then .alertIn else .hiZ
  | 3, 2 => .alertOut
  | 6, 0 => .sck
  | 6, 1 => .io 0
  | 6, 2 => .io 1
  | 6, 3 => .cs0
  | 7, 0 => if bitOf cfg 10 then .txRx else .tx
  | 7, 1 => .rx
  | 7, 2 => if bitOf cfg 12 then .rts else .hiZ
  | 7, 3 => if bitOf cfg 12 then .cts else .hiZ
  | _, _ => .hiZ

/-! ## The link test's sequences (R345) -/

/-- The length of a lane's polynomial and its second tap: PRBS7, PRBS15 or PRBS31 (ITU-T O.150). -/
def State.prbsTaps (s : State) (k : Nat) : Nat × Nat :=
  match s.get (TST_CTL_POLY k) with
  | 0 => (7, 6)
  | 1 => (15, 14)
  | _ => (31, 28)

/-- The next bit of a sequence whose latest bits are `r`, the newest in bit 0. -/
def prbsBit (t : Nat × Nat) (r : Nat) : Bool := (r / 2 ^ (t.1 - 1) + r / 2 ^ (t.2 - 1)) % 2 == 1

/-- The latest bits after one more. -/
def prbsPush (n r : Nat) (b : Bool) : Nat := (2 * r + b2n b) % 2 ^ n

/-- `m` bits of a sequence after the bits `r`, and the bits that stand behind them. -/
def prbsRun (t : Nat × Nat) (r : Nat) : Nat → List Bool × Nat
  | 0 => ([], r)
  | m + 1 => let b := prbsBit t r; let x := prbsRun t (prbsPush t.1 r b) m; (b :: x.1, x.2)

/-- A lane's generator: it starts from all ones. -/
def State.prbsGen (s : State) (k : Nat) : Nat := Store.get (fun _ => 2 ^ 31 - 1) s.ports.gen k % 2 ^ (s.prbsTaps k).1

/-- The level that a lane's generator puts out next, inverted by INV. -/
def State.prbsOut (s : State) (k : Nat) : Bool := prbsBit (s.prbsTaps k) (s.prbsGen k) != s.is (TST_CTL_INV k)

/-- A lane whose generator feeds its checker inside the device, or through its own pad (Table 12.8). -/
def State.prbsLoop (s : State) (k : Nat) : Bool := k == 0x11 || s.get (TST_CTL_LOOP k) != 0

/-- What pin `k` of port `p` carries now (R319, R320, R343, R344, R493, R499): a quad SPI port takes the first two pins of the
next port; a pin of an absent bank, of an isolated port, at a STANDBY (R379), below EMBER, in LIMP (R68) and the Snuffer-only
hold (R69), or whose lane is in an internal loop (R345), carries nothing; a lane's generator drives Pn_A. -/
def State.portPin (s : State) (p k : Nat) : PortPin :=
  if !s.portBank p || s.pstate < 3 || s.limp || s.snf.only || s.get RING_PSTAT_ROLE == 2 || s.is (PORT_STAT_ISO p) ||
      (s.laneTest p && s.get (TST_CTL_LOOP p) == 1) then .hiZ
  else if k = 0 && s.is (TST_CTL_GEN p) then .prbs (s.prbsOut p)
  else if 0 < p && s.pers (p - 1) == 6 && s.is (PORT_CFG_QUAD (p - 1)) && k < 2 then
    (if s.is (PORT_STAT_ISO (p - 1)) then .hiZ else .io (2 + k))
  else persPin (s.pers p) (s.rd (PORT_CFG p)) k

/-- A two-wire bus: I3C, SMBus or I2C. -/
def State.twoWire (s : State) (p : Nat) : Bool := decide (1 ≤ s.pers p) && decide (s.pers p ≤ 5)

/-- The port runs: LIT or EMBER (R344), and not isolated. -/
def State.portRuns (s : State) (p : Nat) : Bool := s.ceOn && !s.is (PORT_STAT_ISO p)

/-- A port status event (PORT_IRQn bit `b`). -/
def State.portIrq (s : State) (p b : Nat) : State := s.wr (PORT_IRQ p) (s.rd (PORT_IRQ p) ||| bit b)

/-- DETAIL of 0x50 to 0x52 (R343). -/
def portDetail (p n : Nat) : Nat := p + n * 16

/-- The record index of an operation's channel. -/
def State.opPartner (s : State) (o : CeOp) : Nat := s.chBound (o.handle % 1024)

/-- The partner of the transaction in progress, 0xFFF where there is none (R335). -/
def State.curPartner (s : State) (p : Nat) : Nat :=
  match s.portCur p with
  | some x => match s.ceFind x.tag with
    | some o => s.opPartner o
    | none => 0xFFF
  | none => 0xFFF

/-- The SELF record's index, 0xFFF where there is none. -/
def State.selfIdx (s : State) (p : Nat) : Nat := (s.selfOf p).getD 0xFFF

/-- A transaction in progress ends: its operation's result, PORT_CNTn, and the port idle. -/
def State.portEnd (s : State) (p tag status : Nat) (data : BitVec 64) : State :=
  let s := ((s.ceDone tag status data).putCur p none).bump (PORT_CNT_DONE p) 1
  if status = stOk then s else s.bump (PORT_CNT_BAD p) 1

/-- A transaction ends with a status and a fault 0x50 to 0x52 against its partner. -/
def State.portFail (s : State) (p tag status id : Nat) (inj : Bool) : State :=
  let n := s.curPartner p
  (s.portEnd p tag status 0).raise
    ⟨id, BitVec.ofNat 32 (portDetail p n), some (if id = 0x52 then n else p), inj, false⟩

/-! ## Running transactions -/

/-- The read data of an operation reaches its result: DATA of PORT_READ, or the buffer of PORT_XFER, which master 2 writes. -/
def State.portData (s : State) (p : Nat) (o : CeOp) (l : List Byte) : State :=
  if o.op = 3 then
    let r := s.mPutBytes .mover (o.arg 3).toNat l
    if r.2 then r.1.portEnd p o.tag stOk (BitVec.ofNat 64 l.length) else r.1.portEnd p o.tag stRefused 0
  else s.portEnd p o.tag stOk (BitVec.ofNat 64 (if o.op = 1 then bytesNat l else 0))

/-- Bytes from the partner; past the last one the undriven bus reads ones. -/
def pad (n : Nat) (l : List Byte) : List Byte := (l ++ List.replicate n 0xFF).take n

/-- The transaction in progress runs to its end with the bytes that the partner sent (R329). -/
def State.portFinish (s : State) (p : Nat) (x : PortXfer) (o : CeOp) (l : List Byte) : State :=
  let badPec := x.inj == some 2 && x.pec
  let l := pad (x.need + 2) l
  if x.need = 0 then
    (if badPec then s.portFail p x.tag stPec 0x52 true else s.portData p o [])
  else
    let c := (l.getD 0 0).toNat
    if x.block && (c == 0 || decide (x.need ≤ c)) then s.portFail p x.tag stProtocol 0x50 false
    else
      let n := if x.block then c + 1 else x.need
      let d := l.take n
      let rx := (l.getD n 0).toNat
      let want := pec (x.head ++ [BitVec.ofNat 8 (2 * x.addr + 1)] ++ d)
      if badPec then s.portFail p x.tag stPec 0x52 true
      else if x.pec && rx != want then s.portFail p x.tag stPec 0x52 false
      else s.portData p o d

/-- The state with the bytes that a port sent last. -/
def State.portSent (s : State) (p : Nat) (l : List Byte) : State :=
  s.onPorts (fun q => { q with sent := Store.set (fun _ => []) q.sent p l })

/-- A waiting injection of method PT for a port (Table 2.6), by whichever of the method's IDs. -/
def State.ptInj (s : State) (p : Nat) : Option Injection :=
  s.flt.inj.find? (fun i => (i.id == 0x34 || (decide (0x50 ≤ i.id) && decide (i.id ≤ 0x52))) && i.arg % 16 == p)

/-- The UART receive FIFO of a port. -/
def State.uartFifo (s : State) (p : Nat) : List Byte := Store.get (fun _ => []) s.ports.fifo p

/-- The state with a UART receive FIFO. -/
def State.putFifo (s : State) (p : Nat) (l : List Byte) : State :=
  s.onPorts (fun q => { q with fifo := Store.set (fun _ => []) q.fifo p l })

/-- A UART read that has all its bytes completes. -/
def State.uartDone (s : State) (p : Nat) : State :=
  match s.portCur p with
  | none => s
  | some x => if x.got.length < x.need || x.inj == some 3 then s
    else match s.ceFind x.tag with
      | some o => s.portData p o x.got
      | none => s

/-- A word of a record is read (R327): a correctable error raises 0x20 and is corrected, an uncorrectable one raises 0x21 and a
wrong-address one 0x22; whether the word can be used. -/
def State.partnerRead (s : State) (n k : Nat) : State × Bool :=
  let s' := s.put PORT_PERRIDX_V n
  let a := PORT_PDATA 0 + 4 * k
  match s.partnerClass n k with
  | .good => (s, true)
  | .check => ((s'.putCode (partnerKey n k) 0).fault 0x20 a, true)
  | .data j =>
    let ws := (s.partner n).set k (s.partnerWord n k ^^^ bit j)
    (((s'.onPorts (fun q => { q with partners := Store.set (fun _ => [0, 0, 0, 0]) q.partners n ws })).putCode (partnerKey n k) 0).fault 0x20 a, true)
  | .wrongAddr => (s'.fault 0x22 a, false)
  | .bad => (s'.fault 0x21 a, false)

/-- The words of a record are read in turn; whether every one can be used. -/
def State.recordRead (s : State) (n : Nat) : List Nat → State × Bool
  | [] => (s, true)
  | k :: t =>
    let r := s.partnerRead n k
    let x := r.1.recordRead n t
    (x.1, r.2 && x.2)

/-- Whether a port has served an interrupt at the header that stands before its next transaction (R338). -/
def State.servedSet (s : State) (p : Nat) (b : Bool) : State :=
  s.onPorts (fun q => { q with served := q.served.filter (fun x => x != p) ++ (if b then [p] else []) })

/-- The transaction of an operation starts with its record as it stands (R326, R328): a record that names another port by now
sends the operation there; PROTOCOL, BADARG and UNAVAIL end it at once; the write bytes of PORT_XFER come through master 2. -/
def State.portStart (s : State) (p : Nat) (o : CeOp) : State :=
  let n := s.opPartner o
  let rr := (s.onPorts (fun q => { q with queue := q.queue.filter (fun e => e.2 != o.tag) })).recordRead n [0, 1, 2, 3]
  let s := rr.1
  let w := s.partnerWord n 0
  let pr := s.pers p
  let a0 := o.arg 0
  let len := o.lengths
  if !rr.2 then s.ceDone o.tag stProtocol 0
  else if s.partnerPort n != p then
    (if s.is (PORT_STAT_ISO (s.partnerPort n)) then s.ceDone o.tag stIsolated 0 else s.handPort (s.partnerPort n) o.tag)
  else if s.is (PORT_STAT_TEST p) then s.ceDone o.tag stUnavail 0
  else if !bitOf w 4 then s.ceDone o.tag stBadarg 0
  else match xferShape pr o.op a0 w (s.rd (PORT_CFG p)) len.1 len.2 with
    | none => s.ceDone o.tag stBadarg 0
    | some sh =>
      if s.pstate == 3 && liteOnly pr (fld a0 16 3) then s.ceDone o.tag stUnavail 0
      else
        let r := if o.op = 3 then s.mBytes .mover (o.arg 1).toNat sh.wlen
          else (s, pad sh.wlen (wordsBytes [o.arg 1, o.arg 2]), true)
        let s := r.1
        if !r.2.2 then s.ceDone o.tag stRefused 0
        else
          let cmd := match sh.cmd with
            | some c => [BitVec.ofNat 8 c]
            | none => []
          let out := cmd ++ (if sh.count then [BitVec.ofNat 8 sh.wlen] else []) ++ r.2.1
          let head := if out.isEmpty then [] else BitVec.ofNat 8 (2 * fld w 8 7) :: out
          let sum := if sh.pec && sh.rlen = 0 then [BitVec.ofNat 8 (pec head)] else []
          let inj := s.ptInj p
          let s := match inj with
            | some i => s.injUsed i.id i.arg
            | none => s
          let met := s.ports.served.contains p
          let s := (s.portSent p (out ++ sum)).servedSet p false
          let f := if pr = 7 then s.uartFifo p else []
          let s := if pr = 7 then s.putFifo p (f.drop sh.rlen) else s
          s.putCur p (some ⟨o.tag, head, fld w 8 7, sh.rlen, sh.block, f.take sh.rlen, sh.pec, 0,
            inj.map (fun i => i.arg / 256 % 4), met, fld (s.partnerWord n 1) 0 16⟩)

/-- An injection holds the transaction (Table 2.6): SCL held low on a two-wire bus of R335, or read data withheld on SPI and UART. -/
def State.heldByInj (s : State) (p : Nat) (x : PortXfer) : Bool :=
  (x.inj == some 1 && decide (2 ≤ s.pers p) && decide (s.pers p ≤ 5)) ||
  (x.inj == some 3 && decide (6 ≤ s.pers p) && x.need != 0)

/-- The transaction cannot end: every line of a two-wire port in an absent bank is at 0 (spec/18, Edges), or an injection holds
it. -/
def State.stuck (s : State) (p : Nat) (x : PortXfer) : Bool := (s.twoWire p && !s.portBank p) || s.heldByInj p x

/-- What happens at the bus to the transaction in progress. -/
def State.portOutcome (s : State) (p : Nat) (x : PortXfer) (o : CeOp) : XferOutcome → State
  | .begins => s
  | .nack => if s.twoWire p && !s.stuck p x then s.portEnd p x.tag stNack 0 else s
  | .pecNack =>
    if x.pec && x.need = 0 && !s.stuck p x then s.portFail p x.tag stPec 0x52 (x.inj == some 2) else s
  | .done l =>
    if s.stuck p x then s
    else if x.inj == some 0 && s.twoWire p then s.portEnd p x.tag stNack 0
    else if s.pers p = 7 && x.need != 0 then s.uartDone p
    else s.portFinish p x o (if s.portBank p then l else List.replicate l.length 0)
  | .unsupported => if s.stuck p x then s else s.portFail p x.tag stProtocol 0x50 false

/-- The oldest operation of the highest priority that waits at a port (R333). -/
def State.portNext (s : State) (p : Nat) : Option CeOp :=
  let l := s.portQueue p
  (List.range 4).findSome? (fun k => l.find? (fun o => o.flags / 4 % 4 == k))

/-- The transaction in progress, and its operation, meet an outcome. -/
def State.portRun (s : State) (p : Nat) (r : XferOutcome) : State :=
  match s.portCur p with
  | none => s
  | some x => match s.ceFind x.tag with
    | some o => s.portOutcome p x o r
    | none => s

/-- A fault of a target port or UART (R332, R341). -/
def State.selfFault (s : State) (p id : Nat) : State :=
  s.raise ⟨id, BitVec.ofNat 32 (portDetail p (s.selfIdx p)), if id = 0x52 then s.selfOf p else some p, false, false⟩

/-- TRANSACTION (R333): at a boundary the port starts the oldest transaction of the highest priority, and what happens at the
bus follows; with one in progress, that one meets the outcome. A hung port starts none (R335), a requested DAA goes first. On
a port without one, a remote device's use of an unsupported part is a protocol error of the port (R16, R321). -/
def execPortTransaction (p : BitVec 4) (r : XferOutcome) (s : State) : Res :=
  let p := p.toNat
  .next (if !s.portRuns p || s.is (PORT_STAT_HUNG p) then s
    else if (s.portCur p).isSome then s.portRun p r
    else if r == .unsupported then (if s.pers p = 0 || !s.portBank p then s else s.selfFault p 0x50)
    else if s.is (PORT_CTL_DAA p) then s
    else match s.portNext p with
      | none => s
      | some o => (s.portStart p o).portRun p r)

/-! ## Operations -/

/-- A port operation leaves the CE for the port of its record (R270, R333). -/
def State.portHand (s : State) (o : CeOp) : State := s.handPort (s.partnerPort (s.opPartner o)) o.tag

/-- PORT_READ (R328, R271): a LOOP channel answers the bytes last written. -/
def execPortRead (tag : BitVec 10) (s : State) : Res :=
  .next (s.ceRun tag 1 (fun s o =>
    if s.chKind (o.handle % 1024) = 4 then s.ceDone o.tag stOk (Store.get (fun _ => 0) s.ce.loop (o.handle % 1024))
    else s.portHand o))

/-- PORT_WRITE (R328, R271): a LOOP channel stores the bytes. -/
def execPortWrite (tag : BitVec 10) (s : State) : Res :=
  .next (s.ceRun tag 2 (fun s o =>
    if s.chKind (o.handle % 1024) = 4 then
      (s.onCe (fun c => { c with
        loop := Store.set (fun _ => 0) c.loop (o.handle % 1024) (o.arg 2 ++ o.arg 1) })).ceDone o.tag stOk 0
    else s.portHand o))

/-- PORT_XFER (R328). -/
def execPortXfer (tag : BitVec 10) (s : State) : Res := .next (s.ceRun tag 3 (fun s o => s.portHand o))

/-! ## Timeouts, recovery and arbitration -/

/-- TXTMO (R334). -/
def execTxtmo (p : BitVec 4) (s : State) : Res :=
  let p := p.toNat
  .next (match s.portCur p with
    | none => s
    | some x =>
      if !s.portRuns p || x.tmo == 0 then s
      else s.portFail p x.tag stTimeout 0x51 (s.heldByInj p x))

/-- BUS_LOW_TIMEOUT (R335): the port releases the bus and is HUNG, 0x51 is raised and the operation in progress ends. -/
def execBusLowTimeout (p : BitVec 4) (s : State) : Res :=
  let p := p.toNat
  .next (if !s.portRuns p || s.is (PORT_STAT_HUNG p) || !(decide (2 ≤ s.pers p) && decide (s.pers p ≤ 5)) then s
    else
      let n := s.curPartner p
      let x := s.portCur p
      let inj := match x with
        | some x => x.inj == some 1
        | none => false
      let s := ((s.put (PORT_STAT_HUNG p) 1).put (PORT_STAT_SCLLOW p) 1).portIrq p 0
      let s := match x with
        | some x => s.portEnd p x.tag stTimeout 0
        | none => s
      (s.ledger (0x500 + p) 4).raise ⟨0x51, BitVec.ofNat 32 (portDetail p n), some p, inj, false⟩)

/-- BUS_RECOVERY (R335): SCL and, after at most nine pulses, SDA are high: the bus is recovered and the queues go on. It is
the 1 ms sample of a hung port, or the recovery that RECOVER requested. -/
def execBusRecovery (p : BitVec 4) (sclHigh sdaHigh : Bool) (s : State) : Res :=
  let p := p.toNat
  .next (if !s.portRuns p || !(s.is (PORT_STAT_HUNG p) || s.is (PORT_CTL_RECOVER p)) then s
    else
      let sclHigh := sclHigh && s.portBank p
      let sdaHigh := sdaHigh && s.portBank p
      let s := (s.flag (PORT_STAT_SCLLOW p) (!sclHigh)).flag (PORT_STAT_SDALOW p) (!sdaHigh)
      if !sclHigh || !sdaHigh then s
      else (((s.put (PORT_STAT_HUNG p) 0).put (PORT_CTL_RECOVER p) 0).portIrq p 1).ledger (0x500 + p) 1)

/-- RECOVER (R335): PORT_CTLn.RECOVER asks for a recovery at once on an idle port of a two-wire bus. -/
def State.portRecover (s : State) (p : Nat) : State :=
  if s.portRuns p && s.twoWire p && !s.portBusy p then s.put (PORT_CTL_RECOVER p) 1 else s

/-- RECOVER (R335). -/
def execPortRecover (p : BitVec 4) (s : State) : Res := .next (s.ownCommand (PORT_CTL p.toNat) (fun s => s.portRecover p.toNat))

/-- ARBITRATION_LOST (R336): the transaction is tried again; the fourth loss ends it with PROTOCOL and 0x50. -/
def execArbitrationLost (p : BitVec 4) (s : State) : Res :=
  let p := p.toNat
  .next (match s.portCur p with
    | none => s
    | some x =>
      if !s.portRuns p || !(s.pers p == 2 || s.pers p == 4) then s
      else
        let s := s.portIrq p 8
        if 3 ≤ x.losses then s.portFail p x.tag stProtocol 0x50 false
        else s.putCur p (some { x with losses := x.losses + 1 }))

/-! ## Restarts -/

/-- A port's isolation ends (R343), never under a hold (R411). -/
def State.portRestart (s : State) (p : Nat) : State :=
  let r := s.heldAt (0x500 + p)
  let s := r.1
  if r.2 then s.clamped (PORT_CTL p)
  else if !s.is (PORT_STAT_ISO p) || s.pend (s.get (PORT_STAT_ISOID p)) then s
  else
    let s := { s with flt := { s.flt with isolated := s.flt.isolated.filter (fun u => u != IsoUnit.port p) } }
    (s.put (PORT_STAT_ISO p) 0).ledger (0x500 + p) 1

/-- PORT_RESTART (R343). -/
def execPortRestart (p : BitVec 4) (s : State) : Res := .next (s.ownCommand (PORT_CTL p.toNat) (fun s => s.portRestart p.toNat))

/-- A partner's isolation ends (R343), never under a hold (R411). -/
def State.partnerRestart (s : State) (n : Nat) : State :=
  let r := s.heldAt (0x600 + n / 8)
  let s := r.1
  if r.2 then s.clamped PORT_PCMD
  else if !s.pIso n || s.pend 0x52 then s
  else
    { s with flt := { s.flt with isolated := s.flt.isolated.filter (fun u => u != IsoUnit.partner n) } }.putIso n false

/-- PORT_PCMD_RESTART (R343). -/
def execPortPcmdRestart (s : State) : Res := .next (s.ownCommand PORT_PCMD (fun s => s.partnerRestart (s.get PORT_PIDX_V)))

/-! ## Partner records -/

/-- PORT_PCMD.RD (R325, R327). -/
def State.pcmdRd (s : State) : State :=
  let s := (s.recordRead (s.get PORT_PIDX_V) [0, 1, 2, 3]).1
  let ws := s.partner (s.get PORT_PIDX_V)
  (((s.wr (PORT_PDATA 0) (ws.getD 0 0)).wr (PORT_PDATA 1) (ws.getD 1 0)).wr (PORT_PDATA 2) (ws.getD 2 0)).wr (PORT_PDATA 3)
    (ws.getD 3 0)

/-- PORT_PCMD_RD (R325). -/
def execPortPcmdRd (s : State) : Res := .next (s.ownCommand PORT_PCMD State.pcmdRd)

/-- Word 0 of a record as written, each field clamped to its Legal column for the personality (Table 12.4); LOCK and ISO come
from the record. -/
def recWord0 (pers : Nat) (old v : Word) : Word :=
  let addr := fld v 8 7
  let a := if pers = 1 then clampLegal [(8, 0x7D, 1)] addr
    else if 2 ≤ pers && pers ≤ 5 then clampLegal [(8, 0x77, 1)] addr
    else if pers = 6 then min addr 3
    else if pers = 7 then 0
    else addr
  let rate := if 1 ≤ pers && pers ≤ 5 then min (fld v 16 4) 2 else fld v 16 4
  putFld (putFld (putFld (putFld (putFld (v &&& 0x03FFFFFF) 8 7 a) 16 4 rate) 5 1 (fld old 5 1)) 26 5 0) 31 1 (fld old 31 1)

/-- PORT_PCMD.WR (R325): a write to a locked record after sealing is ignored and counts once. -/
def State.pcmdWr (s : State) : State :=
  let n := s.get PORT_PIDX_V
  if s.isSealed && s.pField n 5 1 == 1 then s.clamped PORT_PCMD
  else
    let v0 := s.rd (PORT_PDATA 0)
    let v1 := s.rd (PORT_PDATA 1)
    let w0 := recWord0 (s.pers (fld v0 0 4)) (s.partnerWord n 0) v0
    let sa := fld v1 16 7
    let c := if sa = 0 then 0 else nearer sa 0 (clampLegal [(8, 0x77, 1)] sa)
    let w1 := BitVec.ofNat 32 (fld v1 0 16 + c * 65536)
    let old3 := s.partnerWord n 3
    let w3 := BitVec.ofNat 32 (fld (s.rd (PORT_PDATA 3)) 0 16 + fld old3 16 16 * 65536)
    let cl := (w0 &&& 0x007FFF00) != (v0 &&& 0x007FFF00)
    (s.putPartner n [w0, w1, s.rd (PORT_PDATA 2), w3]).clampIf (cl || c != sa) (if c != sa then PORT_PDATA 1 else PORT_PDATA 0)

/-- PORT_PCMD_WR (R325). -/
def execPortPcmdWr (m : Master) (s : State) : Res := .next (s.regCommand m PORT_PCMD State.pcmdWr)

/-- A write of PORT_PCMD: each of its bits acts on the record at PORT_PIDX. -/
def State.pcmdWrite (s : State) (v : Word) : State :=
  let t := if bitOf v 0 then s.pcmdRd else s
  let t := if bitOf v 1 then t.pcmdWr else t
  (if bitOf v 2 then t.partnerRestart (s.get PORT_PIDX_V) else t).onceSince s

/-! ## Events -/

/-- The lowest open PARTNER channel of a record, among `n` from `k` on (R342). -/
def State.partnerChan (s : State) (rec k : Nat) : Nat → Option Nat
  | 0 => none
  | n + 1 => if s.is (CE_CHINFO_OPEN k) && s.chKind k == 1 && s.chBound k == rec then some k else s.partnerChan rec (k + 1) n

/-- A partner's event (R342): without an open channel it is discarded and counted. -/
def State.portEvent (s : State) (rec code : Nat) (data : Nat) : State :=
  match s.partnerChan rec 0 1024 with
  | some ch => s.ceEvent ch code (BitVec.ofNat 64 data)
  | none => (s.bump CE_EVLOST_COUNT 1).ceIrq CE_IRQ_EVLOST

/-- A target personality. -/
def State.target (s : State) (p : Nat) : Bool := s.pers p == 3 || s.pers p == 5

/-- An event of a port's SELF record. -/
def State.selfEvent (s : State) (p code data : Nat) : State :=
  match s.selfOf p with
  | some n => s.portEvent n code data
  | none => (s.bump CE_EVLOST_COUNT 1).ceIrq CE_IRQ_EVLOST

/-- What a target that wins the broadcast header of the transaction in progress, or of a header of its own, has the port do:
one winner at most for each header, and one before each queued transaction (R337, R338). -/
def State.atHeader (s : State) (p : Nat) (f : State → State) : State :=
  match s.portCur p with
  | some x => if x.ibi then s else f (s.putCur p (some { x with ibi := true }))
  | none =>
    let waits := !(s.portQueue p).isEmpty
    if waits && s.ports.served.contains p then s else f (s.servedSet p waits)

/-- An in-band interrupt (R337, R338). -/
def State.bandInterrupt (s : State) (p addr : Nat) (data : List Byte) : State :=
  s.atHeader p (fun s =>
    match findPartner (fun _ w => fld w 0 4 == p && fld w 8 7 == addr && bitOf w 22 && !bitOf w 31) s.ports.partners with
    | some n => s.portEvent n 0x10 (addr + 256 * bytesNat (pad (s.pField n 23 3) data))
    | none => (s.portIrq p 3).put (PORT_STAT_UNKADDR p) addr)

/-- An event of the record of an address, or UNKNOTIFY (R340). -/
def State.notifyEvent (s : State) (p addr code data : Nat) : State :=
  match s.byAddr p addr with
  | some n => s.portEvent n code data
  | none => s.portIrq p 4

/-- A write to a target port (R341): command `c`, then the bytes `l`. -/
def State.targetStore (s : State) (p : Nat) (c : Byte) (l : List Byte) : State :=
  let s := s.onPorts (fun q => { q with cmd := Store.set (fun _ => 0) q.cmd p c })
  let tp := s.is (PORT_CFG_TPEC p)
  let d := if tp && l.length ≤ 32 then l.dropLast else l.take 31
  let sum := if tp then (l.take 32).getLast? else none
  let long := decide ((if tp then 32 else 31) < l.length)
  let a := (s.rd (PORT_TBASE p)).toNat + 0x2000 + 32 * c.toNat
  let addr := BitVec.ofNat 8 (2 * s.get (PORT_TADDR_V p))
  let good := match sum with
    | some x => x.toNat == pec (addr :: c :: d)
    | none => !tp || l.isEmpty
  let s := (s.mPutBytes .mover (a + 1) d).1
  let s := (s.mPutBytes .mover a [BitVec.ofNat 8 (if good then d.length else 0)]).1
  let s := if long then s.selfFault p 0x50 else s
  if !good then s.selfFault p 0x52
  else s.selfEvent p 0x13 (c.toNat + 256 * d.length + 65536 * bytesNat (d.take 6))

/-- A read of a target port (R341): of command `c`, or a receive byte, which takes the command last written; `n` bytes are
clocked: entry bytes 1 to L, the PEC where TPEC is 1, then 0xFF. -/
def State.targetSend (s : State) (p : Nat) (c : Option Byte) (n : Nat) : State :=
  let k := c.getD (Store.get (fun _ => 0) s.ports.cmd p)
  let s := s.onPorts (fun q => { q with cmd := Store.set (fun _ => 0) q.cmd p k })
  let r := s.mBytes .mover ((s.rd (PORT_TBASE p)).toNat + 32 * k.toNat) 32
  let s := r.1
  let e := r.2.1
  let d := (e.drop 1).take (e.getD 0 0).toNat
  let ad := 2 * s.get (PORT_TADDR_V p)
  let head := (match c with
    | some k => [BitVec.ofNat 8 ad, k]
    | none => []) ++ [BitVec.ofNat 8 (ad + 1)]
  let sum := if s.is (PORT_CFG_TPEC p) then [BitVec.ofNat 8 (pec (head ++ d))] else []
  let s := s.portSent p (pad n (d ++ sum))
  s.selfEvent p 0x14 (k.toNat + 256 * (n % 256))

/-- The port of an event. -/
def PortEvent.port : PortEvent → Nat
  | .ibi p _ _ | .hotJoin p | .alert p _ | .notify p _ _ | .write p _ | .read p _ _ => p

/-- The port's personality and settings take the event (R337, R340, R341). -/
def State.portTakes (s : State) : PortEvent → Bool
  | .ibi p _ _ | .hotJoin p => s.pers p == 1
  | .alert p _ => s.pers p == 2 && s.is (PORT_CFG_ALERTEN p)
  | .notify p _ _ => s.pers p == 2 && s.is (PORT_CFG_HNEN p)
  | .write p _ | .read p _ _ => s.target p

/-- What the event does at a port that runs. -/
def State.portAct (s : State) : PortEvent → State
  | .ibi p addr data => s.bandInterrupt p addr data
  | .hotJoin p => s.atHeader p (fun s => if s.is (PORT_CFG_HJEN p) then s.portIrq p 2 else s)
  | .alert p addr =>
    if s.portBusy p then s
    else match addr with
      | some a => s.notifyEvent p a 0x12 a
      | none => s
  | .notify p addr data => if s.portBusy p then s else s.notifyEvent p addr 0x11 (addr + 256 * data)
  | .write p data => match data with
    | [] => s
    | c :: l => s.targetStore p c l
  | .read p c n => s.targetSend p c n

/-- An event on a port's bus (R344, R499): where the port runs it is served; in DIM it is a wake source and is served when the
port runs again; a port of an absent bank sees none. -/
def State.portEvents (s : State) (e : PortEvent) : State :=
  let p := e.port
  if !s.portTakes e || s.is (PORT_STAT_ISO p) || !s.portBank p then s
  else if s.pstate == 4 then (s.wakeBit 9).ceWait (.port e)
  else if s.portRuns p && !s.is (PORT_STAT_HUNG p) then (s.wakeIn [4] 9).portAct e
  else s

/-- IN_BAND_INTERRUPT (R337, R338). -/
def execInBandInterrupt (p : BitVec 4) (addr : BitVec 7) (data : List Byte) (s : State) : Res :=
  .next (s.portEvents (.ibi p.toNat addr.toNat data))

/-- HOT_JOIN (R337). -/
def execHotJoin (p : BitVec 4) (s : State) : Res := .next (s.portEvents (.hotJoin p.toNat))

/-- SMBUS_ALERT (R340): at a boundary the Alert Response Address is read. -/
def execSmbusAlert (p : BitVec 4) (addr : Option (BitVec 7)) (s : State) : Res :=
  .next (s.portEvents (.alert p.toNat (addr.map BitVec.toNat)))

/-- HOST_NOTIFY (R340): received while idle. -/
def execHostNotify (p : BitVec 4) (addr : BitVec 7) (data : BitVec 16) (s : State) : Res :=
  .next (s.portEvents (.notify p.toNat addr.toNat data.toNat))

/-! ## Target ports -/

/-- TARGET_WRITE (R341): the bytes after the address, the command first; a quick command carries none. -/
def execTargetWrite (p : BitVec 4) (data : List Byte) (s : State) : Res := .next (s.portEvents (.write p.toNat data))

/-- TARGET_READ (R341). -/
def execTargetRead (p : BitVec 4) (c : Option Byte) (n : BitVec 9) (s : State) : Res :=
  .next (s.portEvents (.read p.toNat c n.toNat))

/-- What fell due for the CE and the ports in DIM takes effect after the wake, in order (R288, R344). -/
def State.dimRun (s : State) : List CeInput → State
  | [] => s
  | .timeout tag :: t => (s.timeOut tag).dimRun t
  | .expiry ch :: t => (s.timerExpire ch).dimRun t
  | .event ch code data :: t => (if s.is (CE_CHINFO_OPEN ch) then s.ceEvent ch code data else s).dimRun t
  | .port e :: t => (s.portEvents e).dimRun t

/-- The inputs kept in DIM take effect. -/
def State.dimFlush (s : State) : State :=
  let l := s.ce.waits
  (s.onCe (fun c => { c with waits := [] })).dimRun l

/-- SMBALERT_N of a target port: driven low, or released. -/
def State.alertPin (s : State) (p : Nat) (low : Bool) : State :=
  s.onPorts (fun q => { q with alert := q.alert.filter (fun x => x != p) ++ (if low then [p] else []) })

/-- PORT_CTLn.ALERT as written. -/
def State.portAlert (s : State) (p : Nat) (on : Bool) : State :=
  let s := s.flag (PORT_CTL_ALERT p) on
  if s.pers p == 3 then s.alertPin p on else s

/-- ALERT (R341): `on`: the port drives SMBALERT_N low. Not `on`: the controller reads 0x0C, the port answers its address and
releases SMBALERT_N. -/
def execPortAlert (p : BitVec 4) (on : Bool) (s : State) : Res :=
  let p := p.toNat
  .next (if on then s.ownCommand (PORT_CTL p) (fun s => s.portAlert p true)
    else if s.portRuns p && s.ports.alert.contains p then
      (s.portSent p [BitVec.ofNat 8 (2 * s.get (PORT_TADDR_V p))]).alertPin p false
    else s)

/-! ## UART -/

/-- A waiting UART read ends with PROTOCOL (R332). -/
def State.uartBad (s : State) (p : Nat) : State :=
  let s := s.portIrq p 7
  let s := match s.portCur p with
    | some x => if x.need = 0 then s else s.portEnd p x.tag stProtocol 0
    | none => s
  s.selfFault p 0x50

/-- UART_RECEIVE (R332): `bad` says that the character had a framing or parity error. -/
def execUartReceive (p : BitVec 4) (c : Byte) (bad : Bool) (s : State) : Res :=
  let p := p.toNat
  .next (if !s.portRuns p || s.pers p != 7 then s
    else if bad || !s.portBank p then s.uartBad p
    else match s.portCur p with
      | some x =>
        if x.got.length < x.need then (s.putCur p (some { x with got := x.got ++ [c] })).uartDone p
        else if 64 ≤ (s.uartFifo p).length then s.uartBad p else s.putFifo p (s.uartFifo p ++ [c])
      | none => if 64 ≤ (s.uartFifo p).length then s.uartBad p else s.putFifo p (s.uartFifo p ++ [c]))

/-- UART_RECEIVE_EVENT (R332): up to seven gathered bytes leave the FIFO as an event while no read waits. -/
def execUartReceiveEvent (p : BitVec 4) (s : State) : Res :=
  let p := p.toNat
  let l := s.uartFifo p
  let waits := match s.portCur p with
    | some x => x.need != 0
    | none => false
  .next (if !s.portRuns p || s.pers p != 7 || l.isEmpty || waits then s
    else (s.putFifo p (l.drop 7)).selfEvent p 0x15 (min l.length 7 + 256 * bytesNat (l.take 7)))

/-! ## Dynamic address assignment -/

/-- A device's answer in DAA (R339). -/
def State.daaDevice (s : State) (p : Nat) : DaaDevice → State
  | .static a =>
    match findPartner (fun n w => fld w 0 4 == p && a != 0 && fld (s.partnerWord n 1) 16 7 == a.toNat) s.ports.partners with
    | some _ => s.put (PORT_DAA_ASSIGNED p) (s.get (PORT_DAA_ASSIGNED p) + 1)
    | none => s
  | .dynamic pid bcr dcr =>
    let lo := pid.extractLsb' 0 32
    let hi := (pid.extractLsb' 32 16).toNat
    let cls := hi + bcr.toNat * 2 ^ 16 + dcr.toNat * 2 ^ 24
    match findPartner (fun n w => fld w 0 4 == p && s.partnerWord n 2 == lo && fld (s.partnerWord n 3) 0 16 == hi &&
        fld w 8 7 != 0) s.ports.partners with
    | some n =>
      (s.putPartner n [s.partnerWord n 0, s.partnerWord n 1, lo, BitVec.ofNat 32 cls]).put (PORT_DAA_ASSIGNED p)
        (s.get (PORT_DAA_ASSIGNED p) + 1)
    | none =>
      (((s.put (PORT_DAA_UNMATCHED p) (s.get (PORT_DAA_UNMATCHED p) + 1)).wr (PORT_NEWPIDL p) lo).wr (PORT_NEWPIDH p)
        (BitVec.ofNat 32 cls)).portIrq p 6

/-- The devices of a DAA, in the order in which they answer. -/
def State.daaRun (s : State) (p : Nat) : List DaaDevice → State
  | [] => s
  | d :: t => (s.daaDevice p d).daaRun p t

/-- DAA (R339): on an idle I3C port SETDASA and then ENTDAA run; DAADONE is set at the end. -/
def execPortDaa (p : BitVec 4) (devs : List DaaDevice) (s : State) : Res :=
  let p := p.toNat
  .next (if !s.portRuns p || s.pers p != 1 || s.portBusy p then s
    else ((((s.wr (PORT_DAA p) 0).daaRun p devs).put (PORT_CTL_DAA p) 0).put (PORT_STAT_DAAACT p) 0).portIrq p 5)

/-- A write of PORT_CTLn: RESTART, a request for DAA, ALERT and RECOVER. -/
def State.portCtlWrite (s : State) (p : Nat) (v : Word) : State :=
  let s := if bitOf v 0 then s.portRestart p else s
  let s := if bitOf v 1 && s.pers p == 1 && s.portRuns p then
      (s.put (PORT_CTL_DAA p) 1).flag (PORT_STAT_DAAACT p) (!s.portBusy p)
    else s
  let s := s.portAlert p (bitOf v 2)
  if bitOf v 3 then s.portRecover p else s

/-! ## Link test -/

/-- Setting GEN or CHK on a lane is refused (R346, R372, R402): a busy port, a Ring that is enabled, the host port outside the
SPI personality or selected. -/
def State.laneBusy (s : State) (k : Nat) : Bool :=
  if k < 16 then s.portBusy k
  else if k = 16 then s.hostI3c
  else s.is RING_CTL_EN

/-- A lane's checker has no sequence: it seeds itself afresh. -/
def State.prbsUnlock (s : State) (k : Nat) : State :=
  (s.put (TST_STAT_LOCK k) 0).onPorts (fun q => { q with
    checks := Store.set (fun _ => []) q.checks k [], chk := Store.erase q.chk k })

/-- A write of TST_CTLk (R346): a generator that is set starts from all ones. -/
def State.tstWrite (s : State) (m : Master) (k : Nat) (v : Word) : State :=
  if (fld v 0 2 != 0 || (k = 16 && s.hostI3c)) && s.laneBusy k then s.clamped (TST_CTL k)
  else
    let gen := s.is (TST_CTL_GEN k)
    let s := s.plainWrite m (TST_CTL k) v
    let on := s.is (TST_CTL_GEN k) || s.is (TST_CTL_CHK k)
    let s := s.flag (TST_STAT_RUN k) on
    let s := if k < 16 then s.flag (PORT_STAT_TEST k) on else s
    let s := if s.is (TST_CTL_GEN k) && gen then s else s.onPorts (fun q => { q with gen := Store.erase q.gen k })
    if s.is (TST_CTL_CHK k) then s else s.prbsUnlock k

/-- TST_CTL_WRITE (R346). -/
def execTstCtlWrite (m : Master) (k : BitVec 5) (v : Word) (s : State) : Res :=
  .next (if k.toNat ≤ 0x12 then s.regCommand m (TST_CTL k.toNat) (fun s => s.tstWrite m k.toNat v) else s)

/-- The latest bits of a lane's generator. -/
def State.putGen (s : State) (k r : Nat) : State :=
  s.onPorts (fun q => { q with gen := Store.set (fun _ => 2 ^ 31 - 1) q.gen k r })

/-- The latest bits that a lane's checker expects from. -/
def State.putChk (s : State) (k r : Nat) : State := s.onPorts (fun q => { q with chk := Store.set (fun _ => 0) q.chk k r })

/-- PRBS_LOCK (R345): the checker seeds itself from the first bits received and sets LOCK after 64 further bits with no error; the
bits are the generator's own where the lane is looped, else those given. -/
def execPrbsLock (x : LaneBits) (s : State) : Res :=
  let k := x.lane.toNat
  let t := s.prbsTaps k
  .next (if 0x12 < k || !s.is (TST_CTL_CHK k) || s.is (TST_STAT_LOCK k) then s
    else
      let inv := s.is (TST_CTL_INV k)
      let g := prbsRun t (s.prbsGen k) (t.1 + 64)
      let gen := s.is (TST_CTL_GEN k)
      let rx := if s.prbsLoop k then (if gen then g.1 else []) else (x.bits.take (t.1 + 64)).map (fun b => b != inv)
      let s := if gen then s.putGen k g.2 else s
      let seed := (rx.take t.1).foldl (prbsPush t.1) 0
      let w := prbsRun t seed 64
      if rx.drop t.1 == w.1 then (s.put (TST_STAT_LOCK k) 1).putChk k w.2 else s)

/-- PRBS_CHECK (R345): one bit is checked, the generator's own where the lane is looped, else the one received; an injection
inverts the bit generated, and with it the one received. A wrong bit counts and raises 0x58; eight within 64 clear LOCK. -/
def execPrbsCheck (k : BitVec 5) (bit : Bool) (s : State) : Res :=
  let k := k.toNat
  .next (if decide (0x12 < k) || !s.is (TST_CTL_CHK k) || !s.is (TST_STAT_LOCK k) || (s.prbsLoop k && !s.is (TST_CTL_GEN k)) then s
    else
      let t := s.prbsTaps k
      let c := Store.get (fun _ => 0) s.ports.chk k
      let want := prbsBit t c
      let inj := s.injected 0x58 k && s.is (TST_CTL_GEN k)
      let rx := (if s.prbsLoop k then prbsBit t (s.prbsGen k) else bit != s.is (TST_CTL_INV k)) != inj
      let s := if inj then s.injUsed 0x58 k else s
      let s := if s.is (TST_CTL_GEN k) then s.putGen k (prbsRun t (s.prbsGen k) 1).2 else s
      let s := s.putChk k (prbsPush t.1 c want)
      let bad := rx != want
      let h := (bad :: Store.get (fun _ => []) s.ports.checks k).take 64
      let s := s.bump (TST_BITS_COUNT k) 1
      let lost := decide (8 ≤ (h.filter (fun b => b)).length)
      let s := s.onPorts (fun q => { q with checks := Store.set (fun _ => []) q.checks k h })
      if !bad then s
      else
        let s := if lost then s.prbsUnlock k else s
        (s.bump (TST_ERR_COUNT k) 1).raise
          ⟨0x58, BitVec.ofNat 32 (k % 16 + (if k < 16 then 0 else 0xFFF * 16)), none, inj, false⟩)

/-! ## General-purpose pins -/

/-- The register and bit of a pin, as GP_IN lays it out. -/
def gpBit (base0 base1 n : Nat) : Fld := ⟨if n < 32 then base0 else base1, n % 32, 1⟩

/-- The pin raises its GP_IRQ bit (R347): by an edge or by the level. -/
def gpEvent (mode : Nat) (was level : Bool) : Bool :=
  (mode == 1 && !was && level) || (mode == 2 && was && !level) || (mode == 3 && was != level) || (mode == 4 && level) ||
  (mode == 5 && !level)

/-- The level of a pin as admitted (R347); a pin of an absent bank reads 0 (R499). -/
def State.gpInput (s : State) (n : Nat) (pin : Bool) : State :=
  let level := pin && s.gpBank n
  if 40 ≤ n || s.is (GP_CFG_OWNED n) || s.pstate < 3 then s
  else
    let was := s.is (gpBit (GP_IN 0) (GP_IN 1) n)
    let s := s.flag (gpBit (GP_IN 0) (GP_IN 1) n) level
    if gpEvent (s.get (GP_CFG_IRQ n)) was level then s.put (gpBit GP_IRQ0 GP_IRQ1 n) 1 else s

/-- GP_INPUT (R347): the filtered level of a pin. -/
def execGpInput (n : BitVec 6) (level : Bool) (s : State) : Res := .next (s.gpInput n.toNat level)

/-- The pins of GP word `k` that a write may change: those not owned by another function. -/
def State.gpFree (s : State) (k : Nat) : Nat → Word
  | 0 => 0
  | b + 1 => s.gpFree k b ||| (if decide (32 * k + b < 40) && !s.is (GP_CFG_OWNED (32 * k + b)) then bit b else 0)

/-- A write of GP_OUTk, GP_OSETk or GP_OCLRk (mode 0, 1 or 2). -/
def State.gpOut (s : State) (k mode : Nat) (v : Word) : State :=
  let a := if k = 0 then GP_OUT0 else GP_OUT1
  let m := s.gpFree k 32
  let old := s.rd a
  let new := if mode = 0 then v else if mode = 1 then old ||| v else old &&& ~~~ v
  s.wr a ((old &&& ~~~ m) ||| (new &&& m))

/-- The pins of GP word `k` whose level holds in a level mode: their GP_IRQ bits stay set (R45, R347). -/
def State.gpLevels (s : State) (k : Nat) : Nat → Word
  | 0 => 0
  | b + 1 =>
    let n := 32 * k + b
    let mode := s.get (GP_CFG_IRQ n)
    let lv := s.is (gpBit (GP_IN 0) (GP_IN 1) n)
    s.gpLevels k b ||| (if n < 40 && ((mode == 4 && lv) || (mode == 5 && !lv)) then bit b else 0)

/-- A W1C write of GP_IRQk. -/
def State.gpIrqClear (s : State) (k : Nat) (v : Word) : State :=
  let a := if k = 0 then GP_IRQ0 else GP_IRQ1
  s.wr a ((s.rd a &&& ~~~ (v &&& s.gpFree k 32)) ||| (s.gpLevels k 32 &&& s.gpFree k 32))

/-- A write of GP_CFGn: an owned pin ignores it; a level mode sets the pin's GP_IRQ bit while its level holds (R347). -/
def State.gpCfgWrite (s : State) (m : Master) (n : Nat) (v : Word) : State :=
  if s.is (GP_CFG_OWNED n) then s
  else
    let s := s.plainWrite m (GP_CFG n) v
    let level := s.is (gpBit (GP_IN 0) (GP_IN 1) n)
    if gpEvent (s.get (GP_CFG_IRQ n)) level level then s.put (gpBit GP_IRQ0 GP_IRQ1 n) 1 else s

end Sys2Proof.Machine
end

