-- ==== Sys2Proof/Machine/Ring.lean ====
section
/-! DEFINITION. The Ring and pair mode (spec/13): the link, enumeration, heartbeats and global time, requests and responses
at their issuer, RING_SEND and receive slots, the ring-wide snuff, and the mirror. -/
namespace Sys2Proof.Machine

/-! ## Frames -/

/-- The member holds an ID: it has been enumerated, or it is the master. -/
def State.hasId (s : State) : Bool := s.is RING_STAT_ENUMD || s.is RING_STAT_MST

/-- An item came from this member itself and is removed (R353). -/
def State.ownSrc (s : State) (id : Nat) : Bool := s.hasId && s.ringId == id

/-- A frame is forwarded, unless it is this member's own (R353). -/
def State.ringFwd (s : State) (typ : Nat) (f : RingFrame) : State :=
  if s.ownSrc f.src.toNat then s else s.ringOut (.frame typ f)

/-- This member acts on a frame: broadcast, unless it takes no part in the ring (R356), or addressed to it; its own return is
not acted on. -/
def State.ringMine (s : State) (f : RingFrame) : Bool :=
  ((f.bc && !s.is RING_STAT_OVER) || (s.hasId && f.dst.toNat == s.ringId)) && !s.ownSrc f.src.toNat

/-- Fault 0x53 with the upstream member's ID (R354). -/
def State.ringBad (s : State) (inj : Bool) : State := s.raise ⟨0x53, BitVec.ofNat 32 s.upstream, none, inj, false⟩

/-- A bad frame is counted and raises 0x53. -/
def State.badCount (s : State) (inj : Bool) : State := (s.bump RING_CRCCNT_COUNT 1).ringBad inj

/-- Where an item stands in the order of what is due at one moment (R355): ordered sets, forwarded frames, then this member's own:
PAIR, BEAT (and ENUM), RESP, MIRROR, requests and SEND. -/
def State.ringRank (s : State) : RingItem → Nat
  | .frame typ f =>
    if !s.ownSrc f.src.toNat then 1
    else if typ = 6 then 2 else if typ ≤ 1 then 3 else if typ = 4 then 4 else if typ = 7 then 5 else 6
  | .stomped _ => 1
  | _ => 0

/-- The items that become due within one command, newest first, in the order of R355. -/
def State.ringSort (s : State) (l : List RingItem) : List RingItem :=
  [6, 5, 4, 3, 2, 1, 0].flatMap (fun k => l.filter (fun x => s.ringRank x == k))

/-- What a received item makes due on RING_OUT goes out in the order of R355. -/
def State.ringTurn (s : State) (f : State → State) : State :=
  let t := f (s.onRing (fun r => { r with sent := [] }))
  t.onRing (fun r => { r with sent := t.ringSort r.sent ++ s.ring.sent })

/-- A bad frame is forwarded closed by Stomp, not acted on, and raises 0x53 (R354). -/
def State.badFrame (s : State) (typ : Nat) (f : RingFrame) (inj : Bool) : State :=
  (if s.ownSrc f.src.toNat then s else s.ringOut (.stomped (frameBytes typ f))).badCount inj

/-- A frame received: none while the link carries none; one that an injection corrupts (Table 2.6, CC) or whose LEN breaks
Table 13.3 is bad; a copied frame is counted. -/
def State.ringRx (s : State) (typ : Nat) (f : RingFrame) (len : Bool) (body : State → State) : State :=
  if !s.ringIn then s
  else s.ringTurn (fun s =>
    if s.injected 0x53 0x100 then (s.injUsed 0x53 0x100).badFrame typ f true
    else if !len then s.badFrame typ f false
    else body (if s.ringMine f then s.bump RING_FCNT_COUNT 1 else s))

/-- Bytes received are forwarded closed by Stomp, unless they are this member's own (R353, R354). -/
def State.rawFwd (s : State) (raw : List Byte) : State :=
  if (rawSrc raw).any s.ownSrc then s else s.ringOut (.stomped raw)

/-- BAD_FRAME (R354): a frame that is bad, judged by its bytes, or an ordered set with an invalid data code group; one closed by
/V/ upstream is forwarded so and raises nothing (R353). Bytes that make a good frame are none of this command. -/
def execBadFrame (k : BadFrame) (s : State) : Res :=
  .next (if !s.ringIn then s
    else match k with
      | .frame raw groups ended => if !groups && ended && rawGood raw then s else (s.rawFwd raw).badCount false
      | .stomped raw => s.rawFwd raw
      | .orderedSet y => (s.ringOut (.badSet y)).ringBad false)

/-! ## The link -/

/-- A Ring event bit. -/
def State.ringIrq (s : State) (f : Fld) : State := s.put f 1

/-- The device's serial number. -/
def State.uid (s : State) : Nat := (s.rd RING_UIDL).toNat + (s.rd RING_UIDH).toNat * 2 ^ 32

/-- The master sends ENUM with next ID 1 and its UID (R356). -/
def State.enumSend (s : State) : State :=
  if !s.ringEn || !s.is RING_STAT_MST then s
  else
    (s.onRing (fun r => { r with enumOut := true })).ringSend 1
      ⟨true, false, 0, 0, 0, 0, 0, natBytes 8 s.uid ++ [1]⟩

/-- LINKIN (R350, R356): the link is in sync; the master enumerates. -/
def execLinkin (s : State) : Res :=
  .next (if !s.ringIn || s.is RING_STAT_LINKIN then s
    else (((s.put RING_STAT_LINKIN 1).condition 0x54 false).enumSend))

/-! ## Requests at their issuer -/

/-- The frames of a request are sent. -/
def State.ringFrames (s : State) (typ : Nat) : List RingFrame → State
  | [] => s
  | f :: t => (s.ringSend typ f).ringFrames typ t

/-- The free entry among `n` from `k` on. -/
def State.ringFree (s : State) (k : Nat) : Nat → Option Nat
  | 0 => none
  | n + 1 => if (Store.get (fun _ => none) s.ring.reqs k).isNone then some k else s.ringFree (k + 1) n

/-- A request takes a free entry of the eight and is sent, or waits for one (R360). -/
def State.ringIssue (s : State) (r : RingReq) : State :=
  match s.ringFree 0 8 with
  | some i => (s.onRing (fun g => { g with reqs := Store.set (fun _ => none) g.reqs i (some r) })).ringFrames r.typ r.frames
  | none => s.onRing (fun g => { g with wait := g.wait ++ [r] })

/-- An entry is freed and the oldest waiting request takes one. -/
def State.ringRelease (s : State) (i : Nat) : State :=
  let s := s.onRing (fun g => { g with reqs := Store.set (fun _ => none) g.reqs i none })
  match s.ring.wait with
  | [] => s
  | r :: t => (s.onRing (fun g => { g with wait := t })).ringIssue r

/-- The next request SEQ. -/
def State.ringSeqNext (s : State) : State := s.onRing (fun g => { g with seq := (g.seq + 1) % 65536 })

/-- A remote request names another member that exists (spec/13, Edges). -/
def State.ringTarget (s : State) (m : Nat) : Bool := s.ringEn && m != s.ringId && decide (m < s.ringN)

/-- RING_RERR. -/
def State.ringErr (s : State) (st m : Nat) (snd : Bool) : State :=
  s.wr RING_RERR (BitVec.ofNat 32 (st + m * 256 + b2n snd * 65536))

/-- The size and sign that a station's mode keeps of a Ring access. -/
def sizeCode : Size → Nat
  | .byte => 0 | .half => 1 | .word => 2

/-- The size of a code. -/
def codeSize (n : Nat) : Size := if n % 4 = 0 then .byte else if n % 4 = 1 then .half else .word

/-- The station that waits for a response. -/
def State.ringStation (s : State) (n q : Nat) : Option Station :=
  s.core.stations.find? (fun t => t.n == n && (t.kind == .load || t.kind == .store) && t.tag == q && t.result.isNone)

/-- An access is refused after its issue (R10, R360): the instruction has no effect and its precise exception is taken. -/
def State.ringRefused (s : State) (t : Station) : State :=
  let a := t.opA.toNat
  let s := (s.dropStation t.n).onCore (fun c => { c with pc := t.at' })
  let s := s.recordRefusal .cluster (if t.rem then .write else .read) a false s.pset 3
  s.takeException 0x28 (b2n t.rem) a (some a) none

/-- The debug access in progress completes (R517): READY, and the data of a read; a refused read gives 0. -/
def State.dbgDone (s : State) (data : Word) : State :=
  match s.tap.acc with
  | none => s
  | some a => { s with tap := { s.tap with acc := none, ready := true, data := if a.write then s.tap.data else data } }

/-- The debug access through a Ring window ends with a response's status. -/
def State.dbgRinged (s : State) (st m : Nat) (data : Word) : State :=
  match s.tap.acc with
  | none => s
  | some a =>
    if st = 0 then s.dbgDone data
    else ((s.ringErr st m false).refuseOther .debug (if a.write then .write else .read) a.addr.toNat 3).dbgDone 0

/-- What waits for a response receives it: the data of an OK, or the status (15: none came). -/
def State.ringAnswer (s : State) (r : RingReq) (st : Nat) (data : Word) : State :=
  let m := match r.frames with
    | f :: _ => f.dst.toNat
    | [] => 0
  match r.who with
  | .access n =>
    match s.ringStation n r.seq with
    | none => s
    | some t =>
      if st = 0 && t.kind == .store then (s.dropStation t.n).retireOpen
      else if st = 0 then
        let v := widen (codeSize t.mode) t.signed (takeBytes data 0 t.opA.toNat (codeSize t.mode).bytes)
        s.onCore (fun c => { c with
          stations := c.stations.map (fun x => if x.n == t.n then { x with result := some (v.setWidth 64) } else x) })
      else (s.ringErr st m false).ringRefused t
  | .debug => s.dbgRinged st m data
  | .op tag =>
    let d := if st = 15 then 7 else st
    (if st = 0 then s else s.ringErr st m true).ceDone tag stOk (BitVec.ofNat 64 (b2n (st == 0) + d * 256))

/-- The entry whose SEQ and target a response matches. -/
def State.ringMatch (s : State) (f : RingFrame) : Option (Nat × RingReq) :=
  s.ring.reqs.findSome? (fun e => match e.2 with
    | some r =>
      if r.seq == f.seq.toNat && r.frames.any (fun x => x.dst == f.src) then some (e.1, r) else none
    | none => none)

/-- RESP (R360, R363). -/
def execRingResp (f : RingFrame) (s : State) : Res :=
  let len := f.payload.length == 0 || f.payload.length == 4
  .next (s.ringRx 4 f len (fun s =>
    let s := s.ringFwd 4 f
    if !s.ringMine f then s
    else match s.ringMatch f with
      | none => s
      | some (i, r) =>
        let st := f.arg.toNat % 16
        if st = 3 then
          s.onRing (fun g => { g with reqs := Store.set (fun _ => none) g.reqs i (some { r with busy := true }) })
        else (s.ringRelease i).ringAnswer r st (BitVec.ofNat 32 (bytesNat f.payload))))

/-- BUSY_RESEND (R360): every 2 µs a request answered BUSY is sent again. -/
def execBusyResend (i : BitVec 3) (s : State) : Res :=
  .next (match Store.get (fun _ => none) s.ring.reqs i.toNat with
    | none => s
    | some r =>
      if !r.busy || !s.linksOn then s
      else (s.onRing (fun g => { g with
        reqs := Store.set (fun _ => none) g.reqs i.toNat (some { r with busy := false }) })).ringFrames r.typ r.frames)

/-- REMOTE_TIMEOUT (R360, R363): no RESP within RING_RTMO. -/
def execRemoteTimeout (i : BitVec 3) (s : State) : Res :=
  .next (match Store.get (fun _ => none) s.ring.reqs i.toNat with
    | none => s
    | some r => (s.ringRelease i.toNat).ringAnswer r 15 0)

/-- The requests outstanding or waiting when the link falls (R363): accesses are refused, RING_SENDs end with RINGDOWN. -/
def State.ringDownAll (s : State) : List RingReq → State
  | [] => s
  | r :: t =>
    let s := match r.who with
      | .access _ => s.ringAnswer r 15 0
      | .debug => s.ringAnswer r 15 0
      | .op tag => s.ceDone tag stRingdown 0
    s.ringDownAll t

/-- LINKIN clears at once (R350), and what waited for a response ends. -/
def State.linkFall (s : State) : State :=
  let l := s.ring.reqs.filterMap (fun e => e.2) ++ s.ring.wait
  ((s.put RING_STAT_LINKIN 0).onRing (fun g => { g with reqs := [], wait := [] })).ringDownAll l

/-- LOSS_OF_SYNC (R350). -/
def execLossOfSync (s : State) : Res := .next s.linkFall

/-- RING_LINK_LOSS (R350): a loss of sync has lasted 28 µs; an injection brings one about (Table 2.6, RL). -/
def execRingLinkLoss (s : State) : Res :=
  let inj := s.linkHeld
  .next (if !s.ringUp || !s.ringEn || !s.is RING_STAT_ENUMD || (s.is RING_STAT_LINKIN && !inj) then s
    else ((if inj then s.linkFall else s).condition 0x54 true).raise ⟨0x54, BitVec.ofNat 32 s.upstream, none, inj, false⟩)

/-- RING_SEND (R363): the message is read by master 2 and sent as one frame, or as two where it exceeds 56 bytes. -/
def execRingSend (tag : BitVec 10) (s : State) : Res :=
  .next (s.ceRun tag 9 (fun s o =>
    let u := s.chBound (o.handle % 1024)
    let m := u % 64
    let n := (o.arg 1).toNat
    if !s.is RING_STAT_LINKIN || !s.ringEn then s.ceDone o.tag stRingdown 0
    else if !s.ringTarget m then s.ceDone o.tag stRefused 0
    else
      let r := s.mBytes .mover (o.arg 0).toNat n
      let s := r.1
      if !r.2.2 then s.ceDone o.tag stRefused 0
      else
        let q := s.ring.seq
        let arg := BitVec.ofNat 16 (u / 256 % 256 + n * 256)
        let fr (more : Bool) (l : List Byte) : RingFrame :=
          ⟨false, more, BitVec.ofNat 6 m, s.ringSrc, BitVec.ofNat 16 q, arg, 0, l⟩
        let fs := if n ≤ 56 then [fr false r.2.1] else [fr true (r.2.1.take 56), fr false (r.2.1.drop 56)]
        ((s.ceMap o.tag (fun o => { o with atUnit := true })).ringSeqNext).ringIssue ⟨q, 5, fs, .op o.tag, false⟩))

/-! ## Heartbeats -/

/-- The open RING channels bound to member `m`, in index order. -/
def State.ringChans (s : State) (m : Nat) : List Nat :=
  ((s.regs.filter (fun p => decide (CE_CHINFO 0 ≤ p.1) && decide (p.1 < CE_CHINFO 1024))).map
    (fun p => (p.1 - CE_CHINFO 0) / 4)).filter (fun i => s.is (CE_CHINFO_OPEN i) && s.chKind i == 3 && s.chBound i % 64 == m)

/-- An event of every RING channel bound to a member (R365); in DIM it waits for the wake (R288). -/
def State.memberEvent (s : State) (m code : Nat) : State :=
  if s.ceOn || s.pstate == 4 then (s.ringChans m).foldl (fun s i => s.ceEvent i code (BitVec.ofNat 64 m)) s else s

/-- Member `m` in the previous round's map (R359, R365); one that is isolated is not checked. -/
def State.memberSync (s : State) (map m : Nat) : State :=
  let was := s.is (memberBit RING_PRES m)
  let now := map / 2 ^ m % 2 == 1
  let s := s.flag (memberBit RING_PRES m) now
  let s := if now then s.onRing (fun r => { r with lost := r.lost.filter (fun x => x != m) }) else s
  let s := if s.flt.isolated.contains (.member m) then s
    else if now then s.ledger (0x5C0 + m) 1
    else if m < s.ringN then (if s.ring.lost.contains m then s else s.ledger (0x5C0 + m) 4)
    else s.ledger (0x5C0 + m) 0
  if was == now then s else (s.ringIrq RING_IRQ_MEMBER).memberEvent m (if now then 0x22 else 0x21)

/-- The previous round's map reaches RING_PRES, the ledger and the channels. -/
def State.presMap (s : State) (map : Nat) : State :=
  let s := (List.range 64).foldl (fun s m => s.memberSync map m) s
  s.condition 0x55 (s.ring.lost.any (fun m => !s.flt.isolated.contains (.member m)))

/-- The nanoseconds of ECLK since the latest Wick tick's admission. -/
def State.sinceTick (s : State) : Nat := 10 * (s.lock.ecycle - s.ce.tickE)

/-- Global time (R369): the instant of the master's tick, by this member's own counter, whose ticks are 1,953,125/64 ns apart. A
read of RING_GTMCNT holds it. -/
def State.globalTime (s : State) (addr : Word) (eclk : Nat) : State :=
  if s.ring.gtHold then s
  else
    let back := 48 * s.ringId + s.get RING_CDLY_V + 10 * eclk
    let t := s.sinceTick
    let lc := s.rd WK_CNT_LO
    let s := s.wr RING_GTMCNT addr
    if back ≤ t then (s.wr RING_GTLCNT lc).wr RING_GTPH (BitVec.ofNat 32 (min (t - back) 30517))
    else
      let k := (64 * (back - t) + 1953124) / 1953125
      (s.wr RING_GTLCNT (lc - BitVec.ofNat 32 k)).wr RING_GTPH (BitVec.ofNat 32 ((64 * t + 1953125 * k - 64 * back) / 64))

/-- The BEAT is the one that this master has sent and that has not come back: it differs at most in the map (log entry 69). -/
def State.ownBeat (s : State) (f : RingFrame) : Bool :=
  match s.ring.beat with
  | some b => f.src == b.src && f.arg == b.arg && f.addr == b.addr && f.payload.drop 8 == b.payload.drop 8
  | none => false

/-- A BEAT at a member (R358, R369): its bit is set as the frame is forwarded. -/
def State.beatMember (s : State) (f : RingFrame) : State :=
  let map := bytesNat (f.payload.take 8)
  if !s.is RING_STAT_ENUMD then s.ringFwd 0 f
  else
    let own := if map / 2 ^ s.ringId % 2 = 1 then map else map + 2 ^ s.ringId
    let s := s.ringFwd 0 { f with payload := natBytes 8 own ++ f.payload.drop 8 }
    if s.suppressed 0 then s
    else
      let s := (s.put RING_STAT_N (f.arg.toNat % 128)).presMap (bytesNat ((f.payload.drop 8).take 8))
      (if s.is RING_STAT_LINKIN then s.condition 0x54 false else s).globalTime f.addr (bytesNat (f.payload.drop 16))

/-- Another master's BEAT at a master (R357): the frame carries no UID, so the other's is a free value; where it is the lower,
this one becomes a member, which holds no ID before the next ENUM (log entry 69). -/
def State.beatConflict (s : State) (f : RingFrame) : State :=
  let u := s.freeVal.toNat + s.freed.freeVal.toNat * 2 ^ 32
  let s := s.freed.freed.ringIrq RING_IRQ_MSTCONF
  if u < s.uid then ((((s.put RING_STAT_MST 0).put RING_STAT_DEMOTED 1).put RING_STAT_ENUMD 0)).beatMember f else s

/-- BEAT (R357, R358): at its master the map that came back. -/
def execRingBeat (f : RingFrame) (s : State) : Res :=
  .next (s.ringRx 0 f (f.payload.length == 18) (fun s =>
    if !s.is RING_STAT_MST then s.beatMember f
    else if s.ownBeat f then
      (let map := (List.range 64).foldl (fun x m =>
          if s.suppressed m && x / 2 ^ m % 2 == 1 then x - 2 ^ m else x) (bytesNat (f.payload.take 8))
       s.onRing (fun r => { r with ret := map, beat := none }))
    else s.beatConflict f))

/-- BEAT_SEND (R358): the master's beat, with the map that the previous one brought back; a round whose BEAT did not return
shows the master alone (log entry 69). -/
def execBeatSend (s : State) : Res :=
  .next (if !s.linksOn || !s.ringEn || !s.is RING_STAT_MST || !s.is RING_STAT_ENUMD then s
    else
      let prev := s.ring.ret
      let s := (s.presMap prev).globalTime (s.rd WK_CNT_LO) (s.sinceTick / 10)
      let f : RingFrame := ⟨true, false, 0, s.ringSrc, 0, BitVec.ofNat 16 s.ringN, s.rd WK_CNT_LO,
        natBytes 8 1 ++ natBytes 8 prev ++ natBytes 2 (s.sinceTick / 10)⟩
      (s.onRing (fun r => { r with ret := 1, beat := some f })).ringSend 0 f)

/-- RING_MEMBER_LOST (R358): at the master, a member absent from returned BEATs for 30 µs. -/
def execRingMemberLost (id : BitVec 6) (s : State) : Res :=
  let m := id.toNat
  let inj := s.suppressed m
  .next (if !s.linksOn || !s.ringEn || !s.is RING_STAT_MST || !s.is RING_STAT_ENUMD || m = 0 || s.ringN ≤ m ||
      s.flt.isolated.contains (.member m) then s
    else
      let s := (s.onRing (fun r => { r with lost := r.lost.filter (fun x => x != m) ++ [m] })).condition 0x55 true
      (s.ledger (0x5C0 + m) 0).raise ⟨0x55, BitVec.ofNat 32 m, some m, inj, false⟩)

/-- BEAT_TIMEOUT (R358): at a member, no BEAT for 30 µs. -/
def execBeatTimeout (s : State) : Res :=
  let inj := s.suppressed 0
  .next (if !s.linksOn || !s.ringEn || s.is RING_STAT_MST || !s.is RING_STAT_ENUMD then s
    else (s.condition 0x54 true).raise ⟨0x54, 0, none, inj, false⟩)

/-- A member's isolation ends at the master (R359), never under a hold (R411). -/
def State.ringMrst (s : State) (m : Nat) : State :=
  let r := s.heldAt (0x5C0 + m)
  let s := r.1
  if r.2 then s.clamped RING_MRST
  else if !s.is RING_STAT_MST || !s.flt.isolated.contains (.member m) || s.pend 0x55 then s
  else
    let s := { s with flt := { s.flt with isolated := s.flt.isolated.filter (fun u => u != IsoUnit.member m) } }
    let s := s.put (memberBit RING_ISO m) 0
    s.ledger (0x5C0 + m) (if s.is (memberBit RING_PRES m) then 1 else if m < s.ringN && !s.ring.lost.contains m then 4 else 0)

/-- RING_MRST (R359). -/
def execRingMrst (id : BitVec 6) (s : State) : Res := .next (s.ownCommand RING_MRST (fun s => s.ringMrst id.toNat))

/-! ## Enumeration -/

/-- An enumeration: held snuff pairs are forgotten (R367), and the next PAIR of the group tells the partner's ID. -/
def State.enumForget (s : State) : State := s.onRing (fun r => { r with acted := [], refind := true })

/-- A member takes the next ID and forwards the ENUM with one more; at 64 it takes none (R356). -/
def State.enumMember (s : State) (f : RingFrame) : State :=
  let n := bytesNat (f.payload.drop 8)
  let s := s.enumForget
  if 64 ≤ n then ((s.put RING_STAT_OVER 1).put RING_STAT_ENUMD 0).ringOut (.frame 1 f)
  else
    let chg := s.is RING_STAT_ENUMD && s.ringId != n
    let s := ((s.put RING_STAT_ID n).put RING_STAT_ENUMD 1).put RING_STAT_OVER 0
    let s := if chg then s.ringIrq RING_IRQ_IDCHG else s
    s.ringOut (.frame 1 { f with payload := f.payload.take 8 ++ [BitVec.ofNat 8 (n + 1)] })

/-- ENUM (R356, R357). -/
def execRingEnum (f : RingFrame) (s : State) : Res :=
  .next (s.ringRx 1 f (f.payload.length == 9) (fun s =>
    let u := bytesNat (f.payload.take 8)
    if !s.is RING_STAT_MST then s.enumMember f
    else if u = s.uid then
      ((((s.put RING_STAT_N (bytesNat (f.payload.drop 8))).put RING_STAT_ENUMD 1).ringIrq RING_IRQ_ENUMDONE).enumForget).onRing
        (fun r => { r with enumOut := false })
    else if u < s.uid then
      ((s.put RING_STAT_MST 0).put RING_STAT_DEMOTED 1).ringIrq RING_IRQ_MSTCONF |>.enumMember f
    else s.ringIrq RING_IRQ_MSTCONF))

/-- ENUM_RESEND (R356): an ENUM that has not returned is sent again while LINKIN is 1. -/
def execEnumResend (s : State) : Res :=
  .next (if s.ring.enumOut && s.is RING_STAT_LINKIN && s.linksOn then s.enumSend else s)

/-- NOENUM (R357). -/
def execNoenum (s : State) : Res :=
  .next (if s.linksOn && s.ringEn && !s.is RING_STAT_MST && !s.is RING_STAT_ENUMD then s.ringIrq RING_IRQ_NOENUM else s)

/-- RING_ENUM_WRITE (R356). -/
def execRingEnumWrite (s : State) : Res := .next (if s.linksOn then s.enumSend else s)

/-- A write of RING_CTL (R356, R366, R371). -/
def State.ringCtlWrite (s : State) (v : Word) : State :=
  let was := s.is RING_CTL_EN
  let s := s.put RING_CTL_EN (fld v 0 1)
  let s := if !was && bitOf v 0 && s.is RING_STAT_LINKIN && s.linksOn then s.enumSend else s
  let s := if bitOf v 1 && s.linksOn then s.enumSend else s
  if bitOf v 2 then s.ringSnuffOut else s

/-- RING_CTL_EN (R371, R456): a write of RING_CTL. -/
def execRingCtlEn (m : Master) (v : Word) (s : State) : Res := .next (s.regCommand m RING_CTL (fun s => s.ringCtlWrite v))

/-! ## Ring-wide snuff -/

/-- A ring-wide snuff is acted on (R367): outputs with RINGRX are snuffed, SNOTICE is set, an entry of kind 3 is written. -/
def State.ringSnuffAct (s : State) (id q : Nat) : State :=
  let m := s.ocfgMask SNF_OCFG_RINGRX 24
  let fresh := s.newly m
  let s := (s.snuff m).flag FLT_STAT_SNOTICE true
  let s := (s.put RING_SNF_LASTID id).put RING_SNF_LASTSEQ q
  (s.log ⟨3, id, 0, fresh == 0, false, BitVec.ofNat 32 id, fresh⟩).logCheck s

/-- SNUFF (R366, R367): this member's own /X/ has come back, or another's is forwarded and acted on if it is new. -/
def execRingSnuff (id : BitVec 6) (seq : BitVec 2) (s : State) : Res :=
  let i := id.toNat
  let q := seq.toNat
  .next (if !s.ringIn then s
    else if s.ownSrc i then
      (if s.ring.xsends != 0 && q == (s.ring.xseq + 3) % 4 then
        (s.onRing (fun r => { r with xsends := 0 })).put RING_SNF_OWNRET 1
       else s)
    else
      let s := s.ringOut (.snuff i q)
      let new := Store.get (fun _ => none) s.ring.acted i != some q
      let s := s.onRing (fun r => { r with acted := Store.set (fun _ => none) r.acted i (some q) })
      if new then s.ringSnuffAct i q else s)

/-- SNUFFTX (R366). -/
def execSnufftx (s : State) : Res := .next s.ringSnuffOut

/-- SNUFF_REPEAT (R366): the same /X/ again, at most 8 sends; then SNFLOST. -/
def execSnuffRepeat (s : State) : Res :=
  .next (if s.ring.xsends = 0 || !s.linksOn then s
    else if 8 ≤ s.ring.xsends then (s.onRing (fun r => { r with xsends := 0 })).ringIrq RING_IRQ_SNFLOST
    else (s.ringOut (.snuff s.ringId ((s.ring.xseq + 3) % 4))).onRing (fun r => { r with xsends := r.xsends + 1 }))

/-- SNUFF_FORGET (R367): 32 µs after the last valid /X/ of an originator. -/
def execSnuffForget (id : BitVec 6) (s : State) : Res :=
  .next (s.onRing (fun r => { r with acted := Store.set (fun _ => none) r.acted id.toNat none }))

/-! ## Receive slots -/

/-- The lowest slot free among `n` from `k` on. -/
def State.slotFree (s : State) (k : Nat) : Nat → Option Nat
  | 0 => none
  | n + 1 => if s.is (memberBit RING_RXMAP k) then s.slotFree (k + 1) n else some k

/-- A RESP to the sender of a frame. -/
def State.ringReply (s : State) (f : RingFrame) (st : Nat) (data : List Byte) : State :=
  s.ringSend 4 ⟨false, false, f.src, s.ringSrc, f.seq, BitVec.ofNat 16 st, 0, data⟩

/-- A complete SEND (R364): slot, event entry to queue q, and the answer; a slot that cannot be written answers REFUSED and stays
free (log entry 69). -/
def State.ringTake (s : State) (f : RingFrame) (l : List Byte) : State :=
  let q := f.arg.toNat % 256
  match s.slotFree 0 64 with
  | none => s.ringReply f 4 []
  | some k =>
    if s.get (CE_QCFG_TYPE q) != 3 || !s.is (CE_QCFG_EN q) then s.ringReply f 5 []
    else if (s.get (CE_QPTR_TAIL q) + 1) % s.qDepth q == s.get (CE_QPTR_HEAD q) || s.ce.events.any (fun e => e.q == q) then
      s.ringReply f 6 []
    else
      let w := s.mPutBytes .mover ((s.rd RING_RXBASE).toNat + 64 * k) l
      let s := w.1
      if !w.2 then s.ringReply f 1 []
      else
      let s := s.put (memberBit RING_RXMAP k) 1
      let h := match s.ringChans f.src.toNat with
        | i :: _ => s.handleOf i
        | [] => 0
      let d := f.src.toNat + k * 256 + l.length * 65536 + bytesNat (l.take 4) * 2 ^ 32
      let s := match s.cePost 3 q (BitVec.ofNat 32 (h + 0x20 * 65536)) 31 (BitVec.ofNat 64 d) s.ceTime with
        | some s => s
        | none => s
      s.ringReply f 0 []

/-- SEND (R364): one frame, or the first or second of two. -/
def execRingMsg (f : RingFrame) (s : State) : Res :=
  let len := decide (1 ≤ f.payload.length) && decide (f.payload.length ≤ 56)
  .next (s.ringRx 5 f len (fun s =>
    let s := s.ringFwd 5 f
    let src := f.src.toNat
    if !s.ringMine f then s
    else if f.more then s.onRing (fun r => { r with frag := Store.set (fun _ => none) r.frag src (some f) })
    else match Store.get (fun _ => none) s.ring.frag src with
      | some g =>
        if g.seq == f.seq then
          (s.onRing (fun r => { r with frag := Store.set (fun _ => none) r.frag src none })).ringTake f (g.payload ++ f.payload)
        else if 56 < f.arg.toNat / 256 % 128 then s else s.ringTake f f.payload
      | none => if 56 < f.arg.toNat / 256 % 128 then s else s.ringTake f f.payload))

/-- SEND_FRAGMENT_TIMEOUT (R364). -/
def execSendFragmentTimeout (src : BitVec 6) (s : State) : Res :=
  .next (s.onRing (fun r => { r with frag := Store.set (fun _ => none) r.frag src.toNat none }))

/-! ## Applying mirrored state -/

/-- A CE register that class 3 carries (Table 13.7). -/
def mirrorCeReg (a : Nat) : Bool :=
  a == CE_DLWIN || (decide (0x40011000 ≤ a) && decide (a < 0x40012400) && (decide (0x40012000 ≤ a) || a % 16 != 8))

/-- The Wick counter takes a value (R435). -/
def State.setWick (s : State) (v : Nat) : State :=
  (s.wr WK_CNT_LO (BitVec.ofNat 32 v)).wr WK_CNT_HI (BitVec.ofNat 32 (v / 2 ^ 32 % 65536))

/-- One mirrored word is applied (Table 13.7). -/
def State.mirrorWord (s : State) (cls a : Nat) (w : Word) : State :=
  if cls = 0 then
    (if inSram a && s.inMirror a then (s.memStore (a / 4 * 4) w).dinval (a / 32 * 32) (a / 32 * 32 + 32) else s)
  else if cls = 1 then (if ledgerMirrored a then (s.wr (CE_LEDGER a) w).putCode (CE_LEDGER a) 0 else s)
  else if cls = 3 then
    (if a = CE_CTL then s.onRing (fun r => { r with mrun := bitOf w 0 }) else if mirrorCeReg a then s.wr a w else s)
  else s

/-- A channel table record is applied (Table 13.7): CE_CHINFO, and the default timeout and the bound unit where the record has
them (log entry 70). -/
def State.mirrorChan (s : State) (a : Nat) (ws : List Word) : State :=
  let w := ws.getD 0 0
  if 1024 ≤ a then s
  else
    let open' := bitOf w 6
    let s := s.wr (CE_CHINFO a) w
    let s := s.onCore (fun c => { c with
      chans := Store.set (fun _ => 0) c.chans a (if open' then chanEntry (fld w 0 6) (fld w 7 3 + 1) else 0) })
    s.onCe (fun c => { c with
      chTmo := Store.set (fun _ => 0) c.chTmo a (if open' then fld (ws.getD 1 0) 0 16 else 0)
      chUnit := Store.set (fun _ => 0) c.chUnit a (if open' then (ws.getD 2 (BitVec.ofNat 32 (fld w 10 12))).toNat else 0) })

/-- The words of a MIRROR frame are applied from its ADDR upward. -/
def State.mirrorWords (s : State) (cls a : Nat) : List Word → State
  | [] => s
  | w :: t => (s.mirrorWord cls a w).mirrorWords cls (a + (if cls = 0 || cls = 3 then 4 else 1)) t

/-- How far a sync has come at STANDBY (R377) once a record has been applied: its classes come in ascending order, each from its
first item on (log entry 70). -/
def State.syncStage (s : State) (cls a : Nat) : Nat :=
  let k := s.ring.stage
  let none' := s.get RING_PCFG_MWSIZE == 0
  if cls = 0 && a == (s.rd RING_MWBASE).toNat then max k 1
  else if cls = 1 && a == 0 && (k == 1 || (none' && k == 0)) then 2
  else if cls = 2 && a == 0 && k == 2 then 3
  else if cls = 3 && a == CE_CTL && k == 3 then 4
  else k

/-- A STANDBY applies a MIRROR frame (R376, R377): a gap in SEQ clears SYNCED and asks for a new sync; the Wick counter is
the last item of a sync, and a write of it at ACTIVE ends none. -/
def State.mirrorApply (s : State) (f : RingFrame) : State :=
  let q := f.seq.toNat
  let gap := !s.ring.fresh && q != (s.get RING_MSEQ_SENT + 1) % 65536
  let s := s.onRing (fun r => { r with fresh := false })
  let s := if gap then (s.put RING_PSTAT_SYNCED 0).onRing (fun r => { r with resync := true, stage := 0 }) else s
  let s := s.put RING_MSEQ_SENT q
  let cls := f.arg.toNat % 8
  if cls = 4 then
    let s := s.setWick (bytesNat (f.payload.take 6))
    if s.ring.stage != 4 then s
    else
      let s := s.onRing (fun r => { r with resync := false, stage := 0 })
      if s.is RING_PSTAT_SYNCED then s else (s.put RING_PSTAT_SYNCED 1).put RING_PIRQ_SYNCED 1
  else
    let a := f.addr.toNat
    let s := s.onRing (fun r => { r with stage := s.syncStage cls a })
    if cls = 2 then s.mirrorChan a (bytesWords f.payload) else s.mirrorWords cls a (bytesWords f.payload)

/-- The MIRROR frames that waited in DIM are applied after the exit, or at a takeover
(Table 13.8). -/
def State.mirrorDrain (s : State) : List RingFrame → State
  | [] => s
  | f :: t => (s.mirrorApply f).mirrorDrain t

/-! ## Pair mode -/

/-- The device is a member of a pair group (R373). -/
def State.pairMode (s : State) : Bool := s.get RING_PCFG_GROUP != 0

/-- A STANDBY takes over (Table 13.8), also out of DIM, once every frame received is applied; one that is not synced does
not (R382). -/
def State.takeover (s : State) (why : Nat) : State :=
  if s.role != 2 then s
  else if !s.is RING_PSTAT_SYNCED then (s.put RING_PSTAT_REASON 7).put RING_PIRQ_ROLE 1
  else
    let s := s.mirrorDrain s.ring.rx
    let run := s.ring.mrun
    let s := (s.onCe (fun c => { c with ops := [], lane := [], late := [], events := [], full := [] })).onRing
      (fun r => { r with peerStandby := false, resync := false, rx := [] })
    let s := (s.flag CE_CTL_RUN run).toActive why
    (s.put RING_PSTAT_SYNCED 0).wakeBit 12

/-- PAIR_SEND (R373). -/
def execPairSend (s : State) : Res :=
  .next (if !s.pairMode || !s.ringEn || !s.is RING_STAT_ENUMD || !s.linksOn then s
    else
      let arg := s.get RING_MSEQ_SENT
      let fl := b2n (s.is RING_PSTAT_SYNCED) + 2 * b2n s.ring.resync
      s.ringSend 6 ⟨true, false, 0, s.ringSrc, 0, BitVec.ofNat 16 arg, s.rd WK_CNT_LO,
        [BitVec.ofNat 8 (s.get RING_PCFG_GROUP), BitVec.ofNat 8 s.role, BitVec.ofNat 8 fl, 0]⟩)

/-- The flush point has been reported applied (R378). -/
def State.flushCheck (s : State) : State :=
  match s.ring.flush with
  | some q =>
    if (s.get RING_MSEQ_APPLIED + 65536 - q) % 65536 < 32768 then
      (s.put RING_PSTAT_FLUSHED 1).onRing (fun r => { r with flush := none })
    else s
  | none => s

/-- Both members show ACTIVE (R384). -/
def State.splitBrain (s : State) (peer : Nat) : State :=
  let s := (s.put RING_PSTAT_SPLIT 1).put RING_PIRQ_SPLIT 1
  if s.ringId < peer then s
  else
    let m := s.used
    let fresh := s.newly m
    let s := (s.wr SNF_SWSNUFF (s.rd SNF_SWSNUFF ||| m)).snuff m
    let s := (s.log ⟨2, 0, 0, fresh == 0, false, m, fresh⟩).logCheck s
    (s.toStandby 4).fault 0x56 peer

/-- A PAIR frame of the partner (R373, R374, R376–R378, R384). -/
def State.pairFrom (s : State) (f : RingFrame) : State :=
  let peer := f.src.toNat
  let role := (f.payload.getD 1 0).toNat
  let fl := (f.payload.getD 2 0).toNat
  let s := ((s.put RING_PSTAT_PEER 1).put RING_PSTAT_PARTNER peer).condition 0x56 false
  if s.role = 0 then
    (if role = 1 then s.toStandby 1
     else if role = 2 || s.ringId < peer then s.toActive 1
     else s.toStandby 1)
  else if s.role = 1 then
    (if role = 1 then s.splitBrain peer
     else if role = 2 then
      let sync := !s.ring.peerStandby || fl / 2 % 2 = 1
      let s := s.onRing (fun r => { r with peerStandby := true, syncing := r.syncing || sync })
      ((s.put RING_MSEQ_APPLIED f.arg.toNat).put RING_PSTAT_SYNCED (fl % 2)).flushCheck
     else s.onRing (fun r => { r with peerStandby := false }))
  else s

/-- PAIR (R373). -/
def execRingPair (f : RingFrame) (s : State) : Res :=
  .next (s.ringRx 6 f (f.payload.length == 4) (fun s =>
    let s := s.ringFwd 6 f
    let peer := f.src.toNat
    if !s.ringMine f || !s.pairMode || (f.payload.getD 0 0).toNat != s.get RING_PCFG_GROUP then s
    else if s.suppressed peer then s
    else match s.ring.partner with
      | some p =>
        if p = peer || s.ring.refind then (s.onRing (fun r => { r with partner := some peer, refind := false })).pairFrom f
        else s.put RING_PIRQ_GRPCONF 1
      | none => (s.onRing (fun r => { r with partner := some peer, refind := false })).pairFrom f))

/-- PAIR_FORMATION_TIMEOUT (R373): no partner found, the member becomes ACTIVE. -/
def execPairFormationTimeout (s : State) : Res :=
  .next (if s.pairMode && s.role = 0 && s.ring.partner.isNone then s.toActive 1 else s)

/-- PAIR_HEARTBEAT_LOSS (R374, R382). -/
def execPairHeartbeatLoss (s : State) : Res :=
  .next (match s.ring.partner with
    | none => s
    | some p =>
      if !s.pairMode || !s.linksOn || !s.is RING_PSTAT_PEER then s
      else
        let inj := s.suppressed p
        let s := ((s.put RING_PSTAT_PEER 0).put RING_PIRQ_PEERLOST 1).condition 0x56 true
        let s := s.onRing (fun r => { r with peerStandby := false })
        let s := s.raise ⟨0x56, BitVec.ofNat 32 p, none, inj, false⟩
        s.takeover 2)

/-- YIELD (R353, R382): a /Y/ is forwarded, this member's own too; the partner's is admitted. -/
def execRingYield (id : BitVec 6) (s : State) : Res :=
  let i := id.toNat
  .next (if !s.ringIn then s
    else
      let s := s.ringOut (.yield i)
      if s.ring.partner == some i then s.takeover 3 else s)

/-- RING_PCTL_YIELD (R381). -/
def execRingPctlYield (s : State) : Res := .next (s.ownCommand RING_PCTL (fun s => s.yieldNow 6))

/-- A RESYNC request (R376): valid at STANDBY. -/
def State.pairResync (s : State) : State :=
  if s.role = 2 then (s.put RING_PSTAT_SYNCED 0).onRing (fun r => { r with resync := true }) else s

/-- RING_PCTL_RESYNC (R376). -/
def execRingPctlResync (s : State) : Res := .next (s.ownCommand RING_PCTL State.pairResync)

/-- RING_MFLUSH (R378): FLUSHED sets at once where a STANDBY has reported that SEQ already. -/
def State.mflush (s : State) : State :=
  let s := s.put RING_PSTAT_FLUSHED 0
  if s.role = 1 then
    (let s := s.onRing (fun r => { r with flush := some (s.get RING_MSEQ_SENT) })
     if s.ring.peerStandby then s.flushCheck else s)
  else s

/-- RING_MFLUSH (R378). -/
def execRingMflush (s : State) : Res := .next (s.ownCommand RING_MFLUSH State.mflush)

/-! ## The mirror -/

/-- MIRROR (R376): in DIM the frame waits and is a wake source. -/
def execRingMirror (f : RingFrame) (s : State) : Res :=
  let n := f.payload.length
  .next (s.ringRx 7 f (decide (4 ≤ n) && decide (n ≤ 56) && n % 4 == 0) (fun s =>
    let s := s.ringFwd 7 f
    if !s.ringMine f || s.role != 2 || s.ring.partner != some f.src.toNat then s
    else if s.pstate = 4 then (s.onRing (fun r => { r with rx := r.rx ++ [f] })).wakeBit 12
    else (s.wakeIn [4] 12).mirrorApply f))

/-- Words of the window are sent, from `a` upward. -/
def State.mirrorMem (s : State) (a : Nat) : Nat → State
  | 0 => s
  | n + 1 => (s.mirror 0 a [s.goodWord a]).mirrorMem (a + 4) n

/-- The items of classes 1 to 4 in ascending order. -/
def State.mirrorRest (s : State) : State :=
  let s := ((List.range 0x800).filter ledgerMirrored).foldl (fun s i => s.mirror 1 i [s.rd (CE_LEDGER i)]) s
  let s := (List.range 1024).foldl (fun s i => s.mirror 2 i (s.chanRecord i)) s
  let s := (s.mirrorReg CE_CTL).mirrorReg CE_DLWIN
  let s := (List.range 256).foldl (fun s q =>
    ((s.mirrorReg (CE_QBASE q)).mirrorReg (CE_QCFG q)).mirrorReg (CE_QPTR q)) s
  let s := (List.range 256).foldl (fun s q => s.mirrorReg (CE_TWIN q)) s
  s.mirror 4 0 [s.rd WK_CNT_LO, s.rd WK_CNT_HI]

/-- MIRROR_SYNC (R377): ACTIVE reads every mirrored item into the send FIFO, the Wick counter last. -/
def execMirrorSync (s : State) : Res :=
  .next (if !s.mirrors || !s.ring.syncing then s
    else
      let s := s.mirrorMem (s.rd RING_MWBASE).toNat (1024 * s.get RING_PCFG_MWSIZE)
      s.mirrorRest.onRing (fun r => { r with syncing := false }))

end Sys2Proof.Machine
end

