-- ==== Sys2Proof/Machine/Power.lean ====
section
/-! DEFINITION. The power ladder, supplies, clocks and the Wick domain (spec/15). -/
namespace Sys2Proof.Machine

/-! ## Requests and entry -/

/-- The refusal of a request for state `t` (R416): the RESULT, or 0. -/
def State.reqRefusal (s : State) (t : Nat) : Nat :=
  if t < 4 && s.pairMode then 3
  else if (t = 3 || t = 2) && s.limp then 4
  else if t < s.get PM_LADDER_DEEPEST then 6
  else 0

/-- A write of PM_REQ (R416): DARK is written as WICK, LIT disarms, a refusal is shown at once. -/
def State.pmReq (s : State) (v : Word) : State :=
  let x := fld v 0 3
  let c := min x 5
  let t := if c = 0 then 1 else c
  let s := (s.clampIf (c != x) PM_REQ).put PM_REQ_TARGET t
  if t = 5 then s.put PM_REQ_ARMED 0
  else
    let k := s.reqRefusal t
    if k = 0 then s.put PM_REQ_ARMED 1
    else ((s.put PM_REQ_ARMED 0).put PM_STAT_RESULT k).put PM_IRQ_DONE 1

/-- PM_REQ_WRITE (R416). -/
def execPmReqWrite (m : Master) (v : Word) (s : State) : Res := .next (s.regCommand m PM_REQ (fun s => s.pmReq v))

/-- Some port has a transaction in progress. -/
def State.anyPortBusy (s : State) : Bool := (List.range 16).any (fun p => s.portBusy p)

/-- The entry can start or go on (R417): the cluster waits in a WFI at which, as the entry starts, nothing is eligible; no flash
operation runs unless the target is DIM, no port transaction and no interconnect transfer is outstanding. -/
def State.entryReady (s : State) : Bool :=
  s.lit && s.core.wfi && (s.pm.phase || s.chosen.isNone) && !s.core.inReset &&
  (s.get PM_REQ_TARGET == 4 || !s.is FLC_STAT_BUSY) && !s.anyPortBusy && !s.inShadow

/-- Steps 1 to 4 (R417): deep entries cancel every operation in flight, whose completions are then written. -/
def State.entryPrepare (s : State) : State :=
  let s := if s.deep then s.ceEnd (fun _ => true) stCancelled 0 else s
  s.onPm (fun p => { p with phase := true })

/-- The completions of cancelled operations have been written (R288): what is left is held for a CHWAIT. -/
def State.ceQuiet (s : State) : Bool := s.ce.ops.all (fun o => o.held) && s.ce.late.isEmpty

/-- The converters stop: they calibrate again before their next conversion (R311, R428). -/
def State.adcStop (s : State) : State :=
  let s := { s with mon := { s.mon with adc0 := [], adc1 := [], refd := [] } }
  (List.range 2).foldl (fun s c =>
    (((s.put (ADC_STAT_ON c) 0).put (ADC_STAT_STEP c) 0).put (ADC_STAT_CALACT c) 0).put (ADC_STAT_QLEN c) 0) s

/-- The links stop: LINKIN clears (R363, R428). -/
def State.ringStop (s : State) : State := s.linkFall

/-- The converters are off and lose their state (R20), isolation with it (log entry 112); the conditions of 0x43 and 0x44 stay
(R309, R310). -/
def State.adcOff (s : State) : State :=
  let s := s.adcStop
  { s.pagesReset (fun p => p == 0x40060) with flt := { s.flt with isolated := s.flt.isolated.filter (fun u => u != .converter 0 && u != .converter 1) } }

/-- The unit is a Ring member. -/
def isMember : IsoUnit → Bool
  | .member _ => true
  | _ => false

/-- The Ring is off and loses its state (R20, R370), isolation with it (log entry 112); its members show OFF (Table 10.12). -/
def State.ringOff (s : State) : State :=
  let lo := s.rd RING_UIDL
  let hi := s.rd RING_UIDH
  let s := s.ringStop.pagesReset (fun p => p == 0x40040)
  let s := ((s.wr RING_UIDL lo).wr RING_UIDH hi).flag RING_STAT_MST (s.is SYS_STRAP_RING_MST)
  let s := { s with flt := { s.flt with isolated := s.flt.isolated.filter (fun u => !isMember u) } }
  s.onRing (fun r => { Ring.init with sent := r.sent }) |>.membersShow 5

/-- The PLLs stop and their clocks fall to AOCLK (Table 15.2). -/
def State.clocksDown (s : State) : State :=
  (((s.put CLK_STAT_CCLKPLLA 0).put CLK_STAT_ECLKPLLB 0).put CLK_STAT_PLLALOCK 0).put CLK_STAT_PLLBLOCK 0

/-- The units of a state below DIM go off (Table 1.2): ADC_CONVERT and RING_SEND in flight complete UNAVAIL (R288). -/
def State.unitsDown (s : State) : State :=
  let s := s.ceEnd (fun o => o.op == 6 || o.op == 9) stUnavail 0
  s.adcOff.ringOff.clocksDown

/-- The ports are off: their ledger entries show OFF (R344). -/
def State.portsOff (s : State) : State := (List.range 16).foldl (fun s p => s.ledger (0x500 + p) 5) s

/-- The cluster is off: the ledger entries of the copies in service show OFF (Table 10.12). -/
def State.copiesOff (s : State) : State :=
  (List.range 3).foldl (fun s c => if s.ledgerSt (0x590 + c) = 6 then s else s.ledger (0x590 + c) 5) s

/-- The SRAM banks that SMOULDER does not retain lose their contents; the warm start clears them (R254, R257). -/
def State.sramLost (s : State) : State :=
  let lo := if s.is PM_LADDER_B0RET then 0x10030000 else 0x10000000
  let gone (a : Nat) : Bool := decide (lo ≤ a) && decide (a < 0x100C0000)
  { s with mem := s.mem.filter (fun c => !gone c.1), syn := s.syn.filter (fun c => !gone c.1) }

/-- Steps 5 to 7 (R417): the commit point and the conditions of Tables 1.2, 9.6 and 15.2. A group whose output becomes 1 as
its unwatched members count otherwise (R315) acts at once. -/
def State.entryCommit (s : State) : State :=
  let o := s
  let t := s.get PM_REQ_TARGET
  let s := (s.put PM_REQ_ARMED 0).onPm (fun p => { p with phase := false })
  let s := if t = 3 then s.scanCapture else if t ≤ 2 then s.slicesFreeze else s
  let s := if t ≤ 3 then s.unitsDown else s
  let s := if t ≤ 2 then s.portsOff.copiesOff.sramLost.rngLost else s
  let s := s.put PM_STAT_STATE t
  if t = 2 then s.groupRise o (List.range 32) else s

/-- Some IC vector with EN 1 is requested by a source that runs in the power state (Table 15.4). -/
def State.anyVector (s : State) : Nat → Bool
  | 0 => false
  | n + 1 => s.anyVector n || (vectorListed (32 + n) && s.vecSource (32 + n) && vecRuns s.wakeState (32 + n) && s.is (IC_VCFG_EN (32 + n)))

/-- The wake source is present (R420). -/
def State.wakeNow (s : State) (k : Nat) : Bool :=
  bitOf s.pm.wake k || (k == 7 && (s.wakeState == 4 || s.wakeState == 3) && s.anyVector 224)

/-- POWER_STATE_ENTRY (R417): the steps before the commit point, and then, the completions written, the commit;
a wake source that has arisen before it aborts the entry (R418). -/
def execPowerStateEntry (s : State) : Res :=
  .next (if !s.is PM_REQ_ARMED || !s.entryReady then s
    else if !s.pm.phase then s.entryPrepare
    else if s.pm.wake != 0 || s.wakeNow 7 then (s.entryAbort 2).heldFlush
    else if s.deep && !s.ceQuiet then s
    else s.entryCommit)

/-! ## Wake and exit -/

/-- PLL `p` (0 A, 1 B) has been started (R426): its clock runs from it, or stays on AOCLK with fault 0x64. -/
def State.pllStart (s : State) (p : Nat) (ok : Bool) : State :=
  let s := (s.relockOver p).flag (if p = 0 then CLK_STAT_PLLALOCK else CLK_STAT_PLLBLOCK) ok
  let s := s.flag (if p = 0 then CLK_STAT_CCLKPLLA else CLK_STAT_ECLKPLLB) ok
  let s := if p = 0 && ok then s.put CLK_STAT_MULT (s.get CLK_PLLA_MULT) else s
  let s := s.flag ⟨CLK_MON, 4 + p, 1⟩ (!ok)
  if ok then s else (s.condition 0x64 true).fault 0x64 0

/-- What the exit from EMBER runs (R422): the PLLs start, and the copies' signatures over the full scan list are compared before
the first instruction. -/
def State.emberExit (s : State) (r : WakeRun) : State :=
  let s := (s.pllStart 0 r.pllA).pllStart 1 r.pllB
  s.signatures (BitVec.ofNat 32 (crc32 (wordsBytes (s.scanList 0 128)))) r.sigA r.sigB r.sigC

/-- The exit from DIM or EMBER (R422): the WFI ends, changes that waited are admitted, an ACTIVE's mirror frames applied. -/
def State.exitResume (s : State) (r : WakeRun) : State :=
  let ember := s.pstate = 3
  let s := if ember then s.retake else s
  let s := (s.exitRegs 1).wfiWait.onCore (fun c => { c with wfi := false })
  let s := if ember then s.emberExit r else s
  let l := s.ring.rx
  (((s.sliceFlush.onRing (fun r => { r with rx := [] })).mirrorDrain l).heldFlush).dimFlush.haltPending

/-- WAKE (R418, R420, R422): an entry before its commit point is aborted; DIM and EMBER resume; SMOULDER starts warm, WICK
cold. -/
def execWake (r : WakeRun) (s : State) : Res :=
  let k := r.src.toNat
  .next (if !s.wakeNow k then s
    else
      let s := if k = 7 then s.onPm (fun p => { p with wake := p.wake ||| bit 7 }) else s
      if s.pm.phase then (s.entryAbort 2).heldFlush
      else if s.pstate = 4 || s.pstate = 3 then s.exitResume r
      else if s.pstate = 2 then s.warmReset
      else if s.pstate = 1 && k ≤ 4 then
        (s.wr PM_WAKESRC (s.rd PM_WAKESRC ||| s.pm.wake)).onPm (fun p => { p with due := 2 })
      else s)

/-- WAKE_PIN (R421): in LIT the event sets its PM_WAKESRC bit and nothing more. -/
def execWakePin (n : BitVec 2) (s : State) : Res :=
  .next (if !bitOf (s.rd PM_WAKECFG) n.toNat || s.pstate = 0 then s
    else if s.lit then (s.wr PM_WAKESRC (s.rd PM_WAKESRC ||| bit n.toNat)).wakeBit n.toNat
    else s.wakeBit n.toNat)

/-! ## Supplies -/

/-- A supervisor's reading: fault `id` while it is out of its threshold, or an injection moves the threshold (Table 2.6, SV). -/
def State.supervise (s : State) (id : Nat) (bad : Bool) : State :=
  let inj := s.injWaits id
  let s := s.condition id bad
  if bad || inj then s.raise ⟨id, 0, none, inj && !bad, false⟩ else s

/-- VMAIN_WARNING (R423): runs from LIT to SMOULDER. -/
def execVmainWarning (bad : Bool) (s : State) : Res :=
  .next (if s.pstate < 2 then s else (s.flag ⟨PM_SUPPLY, 0, 1⟩ (!bad)).supervise 0x68 bad)

/-- VCORE is within its range when neither monitor reports it out. -/
def State.vcoreSync (s : State) : State := s.flag ⟨PM_SUPPLY, 1, 1⟩ (!(s.flt.cond.contains 0x65 || s.flt.cond.contains 0x66))

/-- CORE_UNDERVOLTAGE (R423): runs in LIT, DIM and EMBER. -/
def execCoreUndervoltage (bad : Bool) (s : State) : Res :=
  .next (if s.pstate < 3 then s else ((s.condition 0x65 bad).vcoreSync).supervise 0x65 bad)

/-- CORE_OVERVOLTAGE (R423): runs in LIT, DIM and EMBER. -/
def execCoreOvervoltage (bad : Bool) (s : State) : Res :=
  .next (if s.pstate < 3 then s else ((s.condition 0x66 bad).vcoreSync).supervise 0x66 bad)

/-- DIE_OVER_TEMPERATURE (R423): sampled from LIT to SMOULDER. -/
def execDieOverTemperature (bad : Bool) (s : State) : Res :=
  .next (if s.pstate < 2 then s else (s.flag ⟨PM_SUPPLY, 2, 1⟩ (!bad)).supervise 0x67 bad)

/-- VMAIN_RESET (R423): every unit except the Wick domain is off, and the state is DARK. -/
def execVmainReset (s : State) : Res :=
  let s := (s.put PM_STAT_STATE 0).flag ⟨PM_SUPPLY, 0, 1⟩ false
  .next ((s.onPm (fun p => { p with wake := 0, phase := false, held := [], due := 0 })).onCore (fun c => { c with inReset := true }))

/-- POWER_ON (R461): VMAIN returns with PWRGOOD and RESET_N high; a cold start is due. -/
def execPowerOn (s : State) : Res :=
  .next (if s.pstate != 0 then s
    else
      let s := (s.wr PM_WAKESRC 0x4000).wr PM_SUPPLY ((s.rd PM_SUPPLY) ||| 0x11)
      s.onPm (fun p => { p with due := 2 }))

/-- WICK_SWITCHOVER (R423). -/
def execWickSwitchover (onVbat : Bool) (s : State) : Res :=
  .next ((s.flag WK_STAT_ONVBAT onVbat).flag ⟨PM_SUPPLY, 3, 1⟩ onVbat)

/-! ## Clocks -/

/-- CCLK falls back to AOCLK (R428). -/
def State.cclkFallback (s : State) : State := s.put CLK_STAT_CCLKPLLA 0

/-- ECLK falls back to AOCLK, and the Ring links and the converters stop (R428). -/
def State.eclkFallback (s : State) : State :=
  let s := s.put CLK_STAT_ECLKPLLB 0
  (s.ceEnd (fun o => o.op == 6 || o.op == 9) stUnavail 0).adcStop.ringStop

/-- The fallback of a clock fault (R428): `k` is the clock in the numbering of injection method CM. -/
def State.clockFallback (s : State) (k : Nat) : State :=
  if k = 0 || k = 4 then s.cclkFallback
  else if k = 1 || k = 5 then s.eclkFallback
  else if k = 3 then s.cclkFallback.eclkFallback
  else s

/-- The monitor of a clock runs in the present state (R427, Table 15.2). -/
def State.monRuns (s : State) (k : Nat) : Bool :=
  if k ≤ 1 then s.lit else if k = 2 then decide (2 ≤ s.pstate) else if k = 3 then decide (3 ≤ s.pstate)
  else decide (4 ≤ s.pstate)

/-- The fault of a clock (Table 15.5). -/
def clockFault (k : Nat) : Nat := if k < 4 then 0x60 + k else 0x64

/-- A clock monitor's window: out of limits, by the clock or by an injection, it raises the fault and drives the fallback. -/
def State.clockWindow (s : State) (k : Nat) (bad : Bool) : State :=
  let id := clockFault k
  let inj := s.injected id k
  let s := if inj then s.injUsed id k else s
  let out := bad || inj
  let s := s.flag ⟨CLK_MON, k, 1⟩ out
  let s := if k = 2 then s.flag CLK_STAT_XTAL32OK (!out) else if k = 3 then s.flag CLK_STAT_XTALMOK (!out) else s
  let s := s.condition id (if k < 4 then bad else fld (s.rd CLK_MON) 4 2 != 0)
  if out then (s.raise ⟨id, 0, none, inj && !bad, false⟩).clockFallback k else s

/-- A PLL relocks and has not locked yet. -/
def State.relocking (s : State) (pll : Nat) : Bool := if pll = 0 then s.pm.relA else s.pm.relB

/-- A PLL out of lock for 1 µs, except during a relock before its lock (R427). -/
def State.pllLost (s : State) (pll : Nat) (bad : Bool) : State :=
  if s.relocking pll then s
  else
    let s := if bad then s.put (if pll = 0 then CLK_STAT_PLLALOCK else CLK_STAT_PLLBLOCK) 0 else s
    s.clockWindow (4 + pll) bad

/-- CLOCK_MONITOR (R427). -/
def execClockMonitor (k : BitVec 3) (bad : Bool) (s : State) : Res :=
  let k := k.toNat
  .next (if 6 ≤ k || !s.monRuns k then s else if k < 4 then s.clockWindow k bad else s.pllLost (k - 4) bad)

/-- PLL_LOSS_OF_LOCK (R427). -/
def execPllLossOfLock (pll : BitVec 1) (s : State) : Res := .next (if s.monRuns 4 then s.pllLost pll.toNat true else s)

/-- A write of CLK_PLLA.MULT (R429): CCLK moves to AOCLK and PLLA relocks; a relock that has not locked takes the new MULT. -/
def State.relock (s : State) (v : Word) : State :=
  let x := fld v 0 5
  let c := clampLegal [(2, 16, 1)] x
  let s := (s.clampIf (c != x) CLK_PLLA).put CLK_PLLA_MULT c
  (((s.put CLK_STAT_RELOCK 1).put CLK_STAT_CCLKPLLA 0).put CLK_STAT_PLLALOCK 0).onPm (fun p => { p with relA := true })

/-- RELOCK (R429, R456): where the PLLs are off (Table 15.2) the new MULT waits for the next start of PLLA. -/
def execRelock (m : Master) (v : Word) (s : State) : Res :=
  .next (s.regCommand m CLK_PLLA (fun s => if 4 ≤ s.pstate then s.relock v else s.plainWrite m CLK_PLLA v))

/-- A write of CLK_CTL.PLLBRST (R428): PLLB restarts, ECLK on AOCLK meanwhile. -/
def State.pllbRestart (s : State) : State :=
  ((s.eclkFallback.put CLK_STAT_PLLBLOCK 0).put CLK_CTL_PLLBRST 1).onPm (fun p => { p with relB := true })

/-- PLLBRST (R428). -/
def execPllbrst (s : State) : Res := .next (s.ownCommand CLK_CTL (fun s => if 4 ≤ s.pstate then s.pllbRestart else s))

/-- PLL_LOCK (R428, R429): the PLL has locked and, 256 XTALM cycles later, its clocks are switched back. -/
def execPllLock (pll : BitVec 1) (cyc : BitVec 16) (s : State) : Res :=
  let p := pll.toNat
  .next (if !s.relocking p then s
    else
      let s := (s.put CLK_IRQ_RELOCK 1).put CLK_RELOCKCYC_V cyc.toNat
      let s := s.flag ⟨CLK_MON, 4 + p, 1⟩ false
      let s := s.condition 0x64 (fld (s.rd CLK_MON) 4 2 != 0)
      if p = 0 then
        (((s.put CLK_STAT_PLLALOCK 1).put CLK_STAT_CCLKPLLA 1).put CLK_STAT_MULT (s.get CLK_PLLA_MULT)).relockOver 0
      else ((s.put CLK_STAT_PLLBLOCK 1).put CLK_STAT_ECLKPLLB 1).relockOver 1)

/-- LOCKFAIL (R428): no lock within 100 µs: 0x64, and the clocks stay on AOCLK. -/
def execLockfail (pll : BitVec 1) (s : State) : Res :=
  let p := pll.toNat
  .next (if !s.relocking p then s
    else
      let s := s.put CLK_IRQ_LOCKFAIL 1
      let s := s.relockOver p
      let s := (s.flag ⟨CLK_MON, 4 + p, 1⟩ true).condition 0x64 true
      s.raise ⟨0x64, 0, none, false, false⟩)

/-- CLK_CLKOUT_WRITE (R431, R432). -/
def execClkClkoutWrite (m : Master) (v : Word) (s : State) : Res :=
  .next (s.regCommand m CLK_CLKOUT (fun s => s.plainWrite m CLK_CLKOUT v))

/-! ## The Wick counter -/

/-- The counter. -/
def State.wick (s : State) : Nat := (s.rd WK_CNT_LO).toNat + (s.rd WK_CNT_HI).toNat * 2 ^ 32

/-- The counter advances by `d` (R433): the value is admitted as the Wick tick (R434), and a carry into bit K is a periodic
event (R436). -/
def State.wickAdvance (s : State) (d : Nat) : State :=
  let old := s.wick
  let s := s.setWick ((old + d) % 2 ^ 48)
  let s := s.onCe (fun c => { c with tickW := (old + d) % 65536, tickE := s.lock.ecycle })
  let k := s.get WK_WAKE_K
  if s.is WK_WAKE_EN && (old + d) / 2 ^ k != old / 2 ^ k then
    (if s.lit then (s.put WK_IRQ_PWAKE 1).wakeBit 4 else if 1 ≤ s.pstate then s.wakeBit 4 else s)
  else s

/-- A passed edge: the prescaler counts it, and at every N-th Wick second trim adds or skips a tick (R438). -/
def State.wickCount (s : State) : State :=
  let wrap := decide (32767 ≤ s.pm.pre)
  let sec := if wrap then s.pm.sec + 1 else s.pm.sec
  let trim := wrap && s.is WK_TRIM_EN && decide (s.get WK_TRIM_N ≤ sec)
  let s := s.onPm (fun p => { p with pre := if wrap then 0 else p.pre + 1, sec := if trim then 0 else sec })
  s.wickAdvance (if trim then (if s.is WK_TRIM_DIR then 0 else 2) else 1)

/-- One XTAL32 rising edge (R433, R435): a HALT that has arrived holds the counter and counts the edges; a release lets it
go on. -/
def State.wickEdge (s : State) : State :=
  let s := s.put WK_STAT_WPEND 0
  if s.is WK_CTL_HALT then
    (if s.is WK_STAT_HALTED then s.bump WK_HCNT_V 1 else (s.put WK_STAT_HALTED 1).wr WK_HCNT 1)
  else if s.is WK_STAT_HALTED then
    (if !s.is WK_CTL_RELSRC || s.pm.relGo then
      ((s.put WK_STAT_HALTED 0).onPm (fun p => { p with relGo := false })).wickCount
     else s.bump WK_HCNT_V 1)
  else s.wickCount

/-- WICK_TICK (R433): an XTAL32 rising edge. -/
def execWickTick (s : State) : Res := .next s.wickEdge

/-- The counter passes edges now. -/
def State.wickRuns (s : State) : Bool := !s.is WK_STAT_HALTED && !s.is WK_CTL_HALT

/-- PERIODIC_WAKE (R436): the XTAL32 edge that carries into bit K; nothing where the next edge does not. -/
def execPeriodicWake (s : State) : Res :=
  let k := s.get WK_WAKE_K
  .next (if s.wickRuns && s.is WK_WAKE_EN && (s.wick + 1) / 2 ^ k != s.wick / 2 ^ k then s.wickEdge else s)

/-- TRIM_CORRECTION (R438): the XTAL32 edge that ends the N-th Wick second; nothing where the next edge does not. -/
def execTrimCorrection (s : State) : Res :=
  .next (if s.wickRuns && decide (32767 ≤ s.pm.pre) && s.is WK_TRIM_EN && decide (s.get WK_TRIM_N ≤ s.pm.sec + 1) then s.wickEdge
    else s)

/-- A read of WK_CNT_LO (R434): the high half is latched for the reading master. -/
def State.wickLow (s : State) (m : Master) : State :=
  let h := s.rd WK_CNT_HI
  (s.onPm (fun p => { p with hi := Store.set (fun _ => 0) p.hi m.id h })).answer (s.rd WK_CNT_LO)

/-- WK_CNT_LO_READ (R434). -/
def execWkCntLoRead (m : Master) (s : State) : Res := .next (s.regAccess m false WK_CNT_LO .word (fun s => s.wickLow m))

/-- A write of WK_CTL (R435): it reaches the Wick domain before the next edge. -/
def State.wkCtl (s : State) (v : Word) : State :=
  (((s.put WK_CTL_HALT (fld v 0 1)).put WK_CTL_RELSRC (fld v 1 1)).put WK_STAT_WPEND 1).onPm (fun p => { p with relGo := false })

/-- WK_CTL_WRITE (R435). -/
def execWkCtlWrite (m : Master) (v : Word) (s : State) : Res := .next (s.regCommand m WK_CTL (fun s => s.wkCtl v))

/-- TRIM_IN_RELEASE (R435): the TRIM_IN edge after which a counter released with RELSRC 1 goes on. -/
def execTrimInRelease (s : State) : Res :=
  .next (if s.is WK_STAT_HALTED && !s.is WK_CTL_HALT && s.is WK_CTL_RELSRC then
      s.onPm (fun p => { p with relGo := true })
    else s)

/-- A write of WK_CNT_LO or WK_CNT_HI (R435): only while HALTED; a changed counter is mirrored (Table 13.7). -/
def State.wkCnt (s : State) (hi : Bool) (v : Word) : State :=
  if !s.is WK_STAT_HALTED then s.clamped (if hi then WK_CNT_HI else WK_CNT_LO)
  else
    let s := if hi then s.wr WK_CNT_HI (v &&& 0xFFFF) else s.wr WK_CNT_LO v
    (s.put WK_STAT_WPEND 1).mirror 4 0 [s.rd WK_CNT_LO, s.rd WK_CNT_HI]

/-- WK_CNT_WRITE (R435). -/
def execWkCntWrite (m : Master) (hi : Bool) (v : Word) (s : State) : Res :=
  .next (s.regCommand m (if hi then WK_CNT_HI else WK_CNT_LO) (fun s => s.wkCnt hi v))

/-- A write of WK_TRIM: the seconds to the next correction count from here. -/
def State.wkTrim (s : State) (m : Master) (v : Word) : State :=
  (s.plainWrite m WK_TRIM v).onPm (fun p => { p with sec := 0 })

/-! ## Trim measurement and calendar -/

/-- START of a measurement (R437), but in the Snuffer-only hold (R69). -/
def State.trimStart (s : State) : State :=
  if s.lit && !s.snf.only then ((s.put WK_STAT_MDONE 0).put WK_STAT_MERR 0).onPm (fun p => { p with meas := true }) else s

/-- TRIM_MEASUREMENT (R437). -/
def execTrimMeasurement (s : State) : Res := .next s.trimStart

/-- A write of WK_TRIMCFG. -/
def State.trimCfg (s : State) (m : Master) (v : Word) : State :=
  let s := s.plainWrite m WK_TRIMCFG (v &&& 0xFFFFFEFF)
  if bitOf v 8 then s.trimStart else s

/-- The reference periods that rises of TRIM_IN mark off: a rise less than 1 ms after the one before it is ignored, and its XTAL32
edges and its time count with the next (R437). `e` and `t` are those carried over. -/
def refPeriods (e t : Nat) : List TrimRise → List (Nat × Nat)
  | [] => []
  | r :: l =>
    let t' := t + r.micros.toNat
    let e' := e + r.edges.toNat
    if t' < 1000 then refPeriods e' t' l else (e', t') :: refPeriods 0 0 l

/-- The reference period that REF names, in µs; REF 0 is outside its Legal column and names none. -/
def refPeriod (ref : Nat) : Nat := if ref = 1 then 20000 else if ref = 2 then 16670 else 1000000

/-- The period is within 10 % of the reference (R437). -/
def periodOk (ref t : Nat) : Bool := decide (9 * ref ≤ 10 * t) && decide (10 * t ≤ 11 * ref)

/-- TRIM_MEASUREMENT_DONE (R437): the rises of TRIM_IN since the one that began the measurement, each with the raw XTAL32 edges and
the µs since the rise before it. A period more than 10 % off ends the measurement with MERR; after WIN of them the edges of all
go to WK_TRIMMEAS. -/
def execTrimMeasurementDone (rises : List TrimRise) (s : State) : Res :=
  .next (if !s.pm.meas then s
    else
      let l := (refPeriods 0 0 rises).take (s.get WK_TRIMCFG_WIN)
      let done := s.onPm (fun p => { p with meas := false })
      if l.any (fun p => !periodOk (refPeriod (s.get WK_TRIMCFG_REF)) p.2) then done.put WK_STAT_MERR 1
      else if l.length < s.get WK_TRIMCFG_WIN then s
      else (done.wr WK_TRIMMEAS (BitVec.ofNat 32 (l.foldl (fun n p => n + p.1) 0))).put WK_STAT_MDONE 1)

/-- The year (offset from 2000) is a leap year, for offsets 0 to 199. -/
def leapYear (y : Nat) : Bool := y % 4 == 0 && y != 100

/-- The days of a year. -/
def yearDays (y : Nat) : Nat := if leapYear y then 366 else 365

/-- The days of a month, 1 to 12. -/
def monthDays (y m : Nat) : Nat :=
  if m = 2 then (if leapYear y then 29 else 28) else if m = 4 || m = 6 || m = 9 || m = 11 then 30 else 31

/-- The days before year `y`. -/
def daysBefore : Nat → Nat
  | 0 => 0
  | y + 1 => daysBefore y + yearDays y

/-- The days of year `y` before month `m + 1`. -/
def daysToMonth (y : Nat) : Nat → Nat
  | 0 => 0
  | m + 1 => daysToMonth y m + monthDays y (m + 1)

/-- The year of a day, among `n` years from `y` on, and the day within it. -/
def yearOf (d : Nat) (y : Nat) : Nat → Option (Nat × Nat)
  | 0 => none
  | n + 1 => if d < yearDays y then some (y, d) else yearOf (d - yearDays y) (y + 1) n

/-- The month of a day of year `y`, from month `m` on, and the day of the month. -/
def monthOf (y d m : Nat) : Nat → Nat × Nat
  | 0 => (m, d + 1)
  | n + 1 => if d < monthDays y m then (m, d + 1) else monthOf y (d - monthDays y m) (m + 1) n

/-- The calendar registers hold a result out of range: every output 0 and RANGE set. -/
def State.calRange (s : State) (outs : List Nat) : State := (outs.foldl (fun s a => s.wr a 0) s).put WK_CALCTL_RANGE 1

/-- TODATE (R439). -/
def State.toDate (s : State) : State :=
  let n := (s.rd WK_CALTLO).toNat + s.get WK_CALTHI_V * 2 ^ 32
  let sec := n / 32768
  match yearOf (sec / 86400) 0 200 with
  | none => s.calRange [WK_CALDATE, WK_CALTIME, WK_CALSUB]
  | some (y, d) =>
    let md := monthOf y d 1 11
    let t := sec % 86400
    let s := s.wr WK_CALDATE (BitVec.ofNat 32 (y + md.1 * 256 + md.2 * 65536 + (sec / 86400 + 6) % 7 * 2 ^ 24))
    let s := s.wr WK_CALTIME (BitVec.ofNat 32 (t % 60 + t / 60 % 60 * 256 + t / 3600 * 65536))
    (s.wr WK_CALSUB (BitVec.ofNat 32 (n % 32768))).put WK_CALCTL_RANGE 0

/-- TOCNT (R439). -/
def State.toCnt (s : State) : State :=
  let y := s.get WK_CALDATE_YEAR
  let m := s.get WK_CALDATE_MONTH
  let d := s.get WK_CALDATE_DAY
  if decide (199 < y) || m = 0 || decide (12 < m) || d = 0 || decide (monthDays y m < d) then s.calRange [WK_CALTLO, WK_CALTHI]
  else
    let days := daysBefore y + daysToMonth y (m - 1) + (d - 1)
    let sec := days * 86400 + s.get WK_CALTIME_HOUR * 3600 + s.get WK_CALTIME_MIN * 60 + s.get WK_CALTIME_SEC
    let n := sec * 32768 + s.get WK_CALSUB_V
    ((s.wr WK_CALTLO (BitVec.ofNat 32 n)).wr WK_CALTHI (BitVec.ofNat 32 (n / 2 ^ 32))).put WK_CALCTL_RANGE 0

/-- The calendar service runs in LIT and DIM (R439), and not in the Snuffer-only hold (R69). -/
def State.calOn (s : State) : Bool := decide (4 ≤ s.pstate) && !s.snf.only

/-- The conversion in progress ends (R439). -/
def State.calEnd (s : State) : State := (s.put WK_CALCTL_BUSY 0).onPm (fun p => { p with cal := none })

/-- TODATE (R439): the conversion, asked for by now, is made. While the other one runs the request is ignored and counts. -/
def execTodate (s : State) : Res :=
  .next (if !s.calOn then s
    else match s.pm.cal with
      | some (2, _) => s.clamped WK_CALCTL
      | _ => s.calEnd.toDate)

/-- TOCNT (R439). -/
def execTocnt (s : State) : Res :=
  .next (if !s.calOn then s
    else match s.pm.cal with
      | some (1, _) => s.clamped WK_CALCTL
      | _ => s.calEnd.toCnt)

/-- A write of WK_CALCTL (R439): a conversion starts and takes at most 200 AOCLK; with both bits set TODATE is the one (log entry
61). While BUSY is 1 the write is ignored and counts. -/
def State.calCtl (s : State) (v : Word) : State :=
  if s.is WK_CALCTL_BUSY then s.clamped WK_CALCTL
  else if (bitOf v 0 || bitOf v 1) && s.calOn then
    (s.put WK_CALCTL_BUSY 1).onPm (fun p => { p with cal := some (if bitOf v 0 then 1 else 2, 200) })
  else s

/-- A write of another calendar register (R439): ignored while BUSY is 1, and counted. -/
def State.calWrite (s : State) (m : Master) (a : Nat) (v : Word) : State :=
  if s.is WK_CALCTL_BUSY then s.clamped a else s.plainWrite m a v

/-- One AOCLK of the calendar service: with its last the conversion is made (R439). -/
def State.calStep (s : State) : State :=
  match s.pm.cal with
  | none => s
  | some (op, n) =>
    if !s.calOn then s
    else if 1 < n then s.onPm (fun p => { p with cal := some (op, n - 1) })
    else if op = 1 then s.calEnd.toDate else s.calEnd.toCnt

/-- WICK_POWER_LOSS (R440): on VBAT below 1.6 V the Wick domain loses its state; nothing records it. -/
def execWickPowerLoss (s : State) : Res :=
  .next (if !s.is WK_STAT_ONVBAT then s
    else
      let s := { s with regs := s.regs.filter (fun p => p.1 / 4096 != 0x4000C) }
      (s.put WK_STAT_ONVBAT 1).onPm (fun p => { p with pre := 0, sec := 0, hi := [], relGo := false, meas := false, cal := none }))


end Sys2Proof.Machine
end

