-- ==== Sys2Proof/Machine/Image.lean ====
section
/-! DEFINITION. The structure image (spec/16): its format, how a slot is examined, how one is applied and sealed. -/
namespace Sys2Proof.Machine

/-! ## Reading a slot -/

/-- The first byte of slot A or B (R441). -/
def slotBase (k : Nat) : Nat := 0x200000 * k

/-- A flash word as the Lamplighter reads it: a line that it cannot read without an uncorrectable or wrong-address error
reads as zeros (log entry 17). -/
def State.lampWord (s : State) (a : Nat) : Word :=
  let c := s.unitClass a
  if c == .bad || c == .wrongAddr then 0 else s.goodWord a

/-- `n` flash words from an address upward. -/
def State.lampWords (s : State) (a : Nat) : Nat → List Word
  | 0 => []
  | n + 1 => s.lampWord a :: s.lampWords (a + 4) n

/-- The reads of `n` flash lines from `l` upward are recorded and raise their faults (R232, R237). -/
def State.lampLines (s : State) (l : Nat) : Nat → State
  | 0 => s
  | n + 1 => (s.memRead l false false).st.lampLines (l + 32) n

/-! ## The header (Table 16.1) -/

/-- The header of a slot as read. -/
structure Header where
  words : List Word
  deriving DecidableEq, Repr

/-- Header word `k`. -/
def Header.w (h : Header) (k : Nat) : Word := h.words.getD k 0

/-- ROT: the image names two key slots. -/
def Header.rot (h : Header) : Bool := bitOf (h.w 1) 16

/-- IVER. -/
def Header.iver (h : Header) : Nat := (h.w 3).toNat

/-- RBVAL. -/
def Header.rbval (h : Header) : Nat := fld (h.w 4) 0 8

/-- KEY0. -/
def Header.key0 (h : Header) : Nat := fld (h.w 4) 8 8

/-- KEY1. -/
def Header.key1 (h : Header) : Nat := fld (h.w 4) 16 8

/-- NSECT. -/
def Header.nsect (h : Header) : Nat := fld (h.w 4) 24 8

/-- BODYLEN. -/
def Header.bodyLen (h : Header) : Nat := (h.w 5).toNat

/-- Check 2 of Table 16.8: MAGIC, HFMT, FLAGS, the zero fields, NSECT, BODYLEN, KEY0 and KEY1 follow Table 16.1. -/
def Header.ok (h : Header) : Bool :=
  h.w 0 == 0x47524D31 && fld (h.w 1) 0 16 == 1 && decide (fld (h.w 1) 16 16 ≤ 1) && fld (h.w 2) 24 8 == 0 &&
  fld (h.w 6) 2 30 == 0 && h.w 7 == 0 && ((h.words.drop 32).all (fun w => w == 0)) &&
  decide (1 ≤ h.nsect) && decide (h.nsect ≤ 32) && h.bodyLen % 4 == 0 && decide (8 ≤ h.bodyLen) &&
  decide (h.bodyLen ≤ 0x3FE80) && decide (h.key0 ≤ 3) &&
  (if h.rot then decide (h.key1 ≤ 3) && h.key1 != h.key0 else h.key1 == 0xFF)

/-- The header of slot `k`. -/
def State.slotHeader (s : State) (k : Nat) : Header := ⟨s.lampWords (slotBase k) 64⟩

/-! ## Sections (R443, R444) -/

/-- A section: TYPE, VER, LEN and its body with its padding as words. -/
structure Sect where
  typ : Nat
  ver : Nat
  len : Nat
  body : List Word
  deriving DecidableEq, Repr

/-- The outcome of walking the sections: all of them, or the TYPE at which the walk fails. -/
inductive SectWalk where
  | all (l : List Sect)
  | fails (typ : Nat)
  deriving DecidableEq, Repr

/-- The walk over `n` sections (R443); they must fill the body exactly. `last` is the TYPE of the section before. -/
def walkSects (bodyLen : Nat) : Nat → List Word → Nat → List Sect → SectWalk
  | 0, rest, last, acc => if rest.isEmpty then .all acc.reverse else .fails last
  | n + 1, w0 :: w1 :: t, _, acc =>
    let typ := fld w0 0 8
    let len := w1.toNat
    let k := (len + 3) / 4
    if fld w0 16 16 != 0 || len = 0 || bodyLen - 8 < len || t.length < k then .fails typ
    else walkSects bodyLen n (t.drop k) typ (⟨typ, fld w0 8 8, len, t.take k⟩ :: acc)
  | _ + 1, _, last, _ => .fails last

/-- A type that no image may hold (R444). -/
def typeReserved (t : Nat) : Bool := t == 0 || (decide (0xD ≤ t) && decide (t ≤ 0x7F))

/-- The first section whose type is reserved or repeated. -/
def badType : List Nat → List Sect → Option Nat
  | _, [] => none
  | seen, c :: t => if typeReserved c.typ || seen.contains c.typ then some c.typ else badType (c.typ :: seen) t

/-- The types of Skip class (Table 16.4). -/
def skipClass (t : Nat) : Bool := t == 5 || t == 6 || t == 7 || t == 11 || t == 12 || decide (0x80 ≤ t)

/-- The order of apply (R454), in which sections are judged too. -/
def applyOrder : List Nat := [1, 10, 9, 8, 4, 2, 3, 7, 5, 6, 12, 11]

/-- The section of a type. -/
def sectOf (l : List Sect) (t : Nat) : Option Sect := l.find? (fun c => c.typ == t)

/-! ## Structural checks (R446, Table 16.7) -/

/-- Only bits of the mask are set. -/
def within (w mask : Word) : Bool := (w &&& ~~~ mask) == 0

/-- Each word keeps within its mask. -/
def withinAll : List Word → List Word → Bool
  | w :: t, m :: u => within w m && withinAll t u
  | [], [] => true
  | _, _ => false

/-- `n` records of `k` words each. -/
def records (k : Nat) : Nat → List Word → List (List Word)
  | 0, _ => []
  | n + 1, l => l.take k :: records k n (l.drop k)

/-- The padding bytes after LEN are zero. -/
def paddingOk (c : Sect) : Bool :=
  c.len % 4 == 0 || decide ((c.body.getLastD 0).toNat < 256 ^ (c.len % 4))

/-- The number in the low `b` bits of each record's first word. -/
def recNums (b : Nat) (l : List (List Word)) : List Nat := l.map (fun r => fld (r.getD 0 0) 0 b)

/-- The slice records of a SLICEGRAPH body. -/
def sliceRecs (b : List Word) : List (List Word) := records 5 (fld (b.getD 0 0) 0 8) (b.drop 1)

/-- The group records of a SLICEGRAPH body. -/
def groupRecs (b : List Word) : List (List Word) :=
  records 2 (fld (b.getD 0 0) 8 8) (b.drop (1 + 5 * fld (b.getD 0 0) 0 8))

/-- The members that MON_GRPCg names (R299). -/
def groupMembers (c : Word) : List Nat :=
  if fld c 0 2 = 1 then [fld c 3 7, fld c 10 7, fld c 17 7]
  else (List.range (fld c 10 3 + 1)).map (fun i => fld c 3 7 + i)

/-- A SLICEGRAPH slice record among the slices `l` (Table 16.7). -/
def sliceRecOk (l : List Nat) (r : List Word) : Bool :=
  let n := fld (r.getD 0 0) 0 7
  let cfg := r.getD 1 0
  let mode := fld cfg 1 2
  withinAll r [0x7F, 0x100FF, 0x03FF03FF, 0x01FFFF1F, 0x03FF03FF] && bitOf cfg 0 && mode != 3 &&
  (!bitOf cfg 3 || decide (120 ≤ n)) && (mode != 2 || (n % 2 == 1 && l.contains (n - 1) && fld (r.getD 3 0) 16 8 != 0))

/-- A SLICEGRAPH group record among the slices `l` (Table 16.7). -/
def groupRecOk (l : List Nat) (r : List Word) : Bool :=
  let c := r.getD 1 0
  let m := groupMembers c
  withinAll r [0x1F, 0xFFFFFB] && fld c 0 2 != 0 &&
  (if fld c 0 2 = 1 then decide m.Nodup else fld c 10 3 != 0 && decide (fld c 3 7 + fld c 10 3 ≤ 127)) && m.all l.contains

/-- SLICEGRAPH (Tables 16.5 and 16.7). -/
def slicegraphOk (c : Sect) : Bool :=
  let w := c.body.getD 0 0
  let ns := fld w 0 8
  let ng := fld w 8 8
  let l := recNums 7 (sliceRecs c.body)
  within w 0xFFFF && decide (ns ≤ 128) && decide (ng ≤ 32) && c.len == 4 + 20 * ns + 8 * ng && decide l.Nodup &&
  decide (recNums 5 (groupRecs c.body)).Nodup && (sliceRecs c.body).all (sliceRecOk l) && (groupRecs c.body).all (groupRecOk l)

/-- PINMUX. -/
def pinmuxOk (c : Sect) : Bool :=
  let f := c.body.map (fun w => fld w 8 8)
  c.len % 4 == 0 && decide (c.len ≤ 160) && c.body.all (fun w => within w 0xFF3F && decide (fld w 0 6 ≤ 39)) &&
  f.all (fun x => decide (x ≤ 2)) && decide ((c.body.map (fun w => fld w 0 6)).Nodup) &&
  decide ((f.filter (fun x => x == 1)).length ≤ 1)

/-- REACTION, with the slices and groups that SLICEGRAPH records. -/
def reactionOk (sl gr : List Nat) (c : Sect) : Bool :=
  let w := c.body.getD 0 0
  let nf := fld w 0 8
  let ns := fld w 8 8
  let ng := fld w 16 8
  let fs := records 2 nf (c.body.drop 2)
  let ss := records 3 ns (c.body.drop (2 + 2 * nf))
  let gs := records 3 ng (c.body.drop (2 + 2 * nf + 3 * ns))
  within w 0xFFFFFF && decide (nf ≤ 128) && decide (ns ≤ 128) && decide (ng ≤ 32) && c.len == 8 + 8 * nf + 12 * ns + 12 * ng &&
  within (c.body.getD 1 0) 0x107 && fs.all (fun r => withinAll r [0xFFF, 0xFFFFFF] && faultListed (fld (r.getD 0 0) 0 8)) &&
  ss.all (fun r => withinAll r [0x7F, 0xFFFFFF, 0xFFFFFF] && sl.contains (fld (r.getD 0 0) 0 7)) &&
  gs.all (fun r => withinAll r [0x1F, 0xFFFFFF, 0xFFFFFF] && gr.contains (fld (r.getD 0 0) 0 5)) &&
  decide (recNums 8 fs).Nodup && decide (recNums 7 ss).Nodup && decide (recNums 5 gs).Nodup

/-- PARTNERS. -/
def partnersOk (c : Sect) : Bool :=
  let w := c.body.getD 0 0
  let n := fld w 0 13
  let rs := records 5 n (c.body.drop 1)
  within w 0x1FFF && decide (n ≤ 4096) && c.len == 4 + 20 * n &&
  rs.all (fun r => withinAll r [0xFFF, 0x03FFFFFF, 0x007FFFFF, 0xFFFFFFFF, 0xFFFF]) && decide (recNums 12 rs).Nodup

/-- RING (Table 16.7). -/
def ringOk (c : Sect) : Bool :=
  let p := c.body.getD 1 0
  let base := (c.body.getD 2 0).toNat
  let size := fld p 16 6
  c.len == 12 && withinAll c.body [1, 0x003F7F0F, 0xFFFFFFFF] &&
  (fld p 0 4 == 0 || (decide (1 ≤ size) && decide (size ≤ 32) && base % 4096 == 0 && inSram base &&
    inSram (base + 4096 * size - 1))) &&
  (!bitOf p 14 || decide (fld p 8 6 ≤ 39))

/-- The bytes of an MCW body. -/
def mcwBytes (c : Sect) : List Byte := (wordsBytes c.body).take c.len

/-- The microwords of an MCW body. -/
def mcwWords (c : Sect) : List MWord :=
  let b := (mcwBytes c).drop (8 + 4 * fld (c.body.getD 0 0) 0 16)
  (List.range (fld (c.body.getD 0 0) 16 16)).map (fun k => BitVec.ofNat 144 (bytesNat ((b.drop (18 * k)).take 18)))

/-- The entries of an MCW body. -/
def mcwEntries (c : Sect) : List Word := (c.body.drop 2).take (fld (c.body.getD 0 0) 0 16)

/-- MCW: no rejection of R172 applies. -/
def mcwOk (c : Sect) : Bool :=
  let nx := fld (c.body.getD 0 0) 0 16
  let nw := fld (c.body.getD 0 0) 16 16
  let es := mcwEntries c
  decide (nx ≤ 64) && decide (nw ≤ 1024) && c.len == 8 + 4 * nx + 18 * nw && c.body.getD 1 0 == 0 &&
  es.all (fun e => fld e 28 4 == 0 && decide (fld e 6 10 < nw) && fld e 16 12 != 0) &&
  decide (es.map (fun e => fld e 0 6)).Nodup && (mcwWords c).all (fun w => mf w 0 8 == 0 && mwCustomer w)

/-- The masks of a section of fixed length. -/
def fixedMasks (t : Nat) : List Word :=
  if t = 4 then [0xFFFFFFFF, 0xFFFFFFFF, 1] ++ List.replicate 24 0x03FF000F
  else if t = 5 then (List.replicate 16 [0x1FFF, 0xFF, 0xFFFFF, 0xFFFFF, 0x7F, 0x7F7F7F, 0, 0]).flatten
  else if t = 7 then [0x107, 0x1F, 0x7F] ++ List.replicate 4 0xFFFFFFFF
  else if t = 8 then [0xFF]
  else if t = 9 then 1 :: (List.replicate 32 [0xFFFFFF1D, 0x01FFFF3F]).flatten
  else [0x103, 0x3FFF]

/-- A section of a known type is not structurally bad (R446), given the sections of the image. -/
def sectOk (l : List Sect) (c : Sect) : Bool :=
  let sg := (sectOf l 2).map (fun g => g.body)
  let sl := (sg.map (fun b => recNums 7 (sliceRecs b))).getD []
  let gr := (sg.map (fun b => recNums 5 (groupRecs b))).getD []
  paddingOk c &&
  (if c.typ = 1 then pinmuxOk c
   else if c.typ = 2 then slicegraphOk c
   else if c.typ = 3 then reactionOk sl gr c
   else if c.typ = 6 then partnersOk c
   else if c.typ = 11 then mcwOk c
   else if c.typ = 12 then ringOk c
   else c.len == 4 * (fixedMasks c.typ).length && withinAll c.body (fixedMasks c.typ) &&
     (c.typ != 10 || fld (c.body.getD 0 0) 0 2 != 3))

/-- A section that can be used: its VER is supported and it is not structurally bad. -/
def usable (l : List Sect) (c : Sect) : Bool := c.ver == 1 && sectOk l c

/-- The first Reject-class section, in the order of apply, that cannot be used. -/
def rejected (l : List Sect) : List Nat → Option Sect
  | [] => none
  | t :: u => match sectOf l t with
    | some c => if !skipClass t && !usable l c then some c else rejected l u
    | none => rejected l u

/-! ## Examining a slot (R448, Table 16.8) -/

/-- The result of a slot: the code, the key slot whose signature failed, the type of the failing section, and the sections. -/
structure SlotResult where
  code : Nat
  kslot : Nat
  sect : Nat
  sects : List Sect
  deriving DecidableEq, Repr

/-- A result without sections. -/
def slotFails (code kslot sect : Nat) : SlotResult := ⟨code, kslot, sect, []⟩

/-- The public key in key slot `k` of the active journal record, x then y (Table 17.8); none where it holds no key (R449,
R477). -/
def Ks.keyOf (ks : Ks) (k : Nat) : Option (List Byte) :=
  let r := ks.record.drop (0x20 + 0x60 * k)
  if bytesNat (r.take 4) = 1 then some ((r.drop 0x20).take 64) else none

/-- A signature by the key of slot `k` over a digest verifies (R449). -/
def Ks.verifies (ks : Ks) (k : Nat) (dig sig : List Byte) : Bool :=
  match ks.keyOf k with
  | some q => ecdsaVerify q dig sig
  | none => false

/-- Checks 7 and 8: the sections. -/
def sectChecks (h : Header) (body : List Word) : SlotResult :=
  match walkSects h.bodyLen h.nsect body 0 [] with
  | .fails t => slotFails 8 0 t
  | .all l => match badType [] l with
    | some t => slotFails 8 0 t
    | none => match rejected l applyOrder with
      | some c => slotFails (if c.ver == 1 then 8 else 9) 0 c.typ
      | none => ⟨2, 0, 0, l⟩

/-- The result of slot `k` by the checks of Table 16.8 in order. -/
def State.examine (s : State) (k : Nat) : SlotResult :=
  let b := slotBase k
  let h := s.slotHeader k
  if h.w 0 == 0xFFFFFFFF then slotFails 1 0 0
  else if !h.ok then slotFails 3 0 0
  else if fld (h.w 2) 0 16 != 0x6400 || fld (s.rd SYS_ID) 8 8 < fld (h.w 2) 16 8 then slotFails 4 0 0
  else if !bitOf (h.w 6) (s.get KS_LC_STATE - 1) then slotFails 5 0 0
  else if h.rbval < s.get KS_RBCNT_COUNT then slotFails 6 0 0
  else
    let body := s.lampWords (b + 256) (h.bodyLen / 4)
    let dig := sha256 (wordsBytes (h.words ++ body))
    let sig := wordsBytes (s.lampWords (b + 256 + h.bodyLen) 32)
    if !s.ks.verifies h.key0 dig (sig.take 64) then slotFails 7 h.key0 0
    else if h.rot && !s.ks.verifies h.key1 dig ((sig.drop 64).take 64) then slotFails 7 h.key1 0
    else sectChecks h body

/-- The lines of slot `k` that its checks read: the first line, the header, or the whole image. -/
def slotLines (h : Header) (r : SlotResult) : Nat :=
  if r.code = 1 then 1
  else if 3 ≤ r.code && r.code ≤ 6 then 8
  else (256 + h.bodyLen + 128 + 31) / 32

/-- Slot `k` is examined: KS_IMGA or KS_IMGB, KS_IVERx, and fault 0x72 for a slot neither empty nor valid (R450). -/
def State.slotNote (s : State) (k : Nat) (h : Header) (r : SlotResult) : State :=
  let s := s.lampLines (slotBase k) (slotLines h r)
  let s := s.wr (if k = 0 then KS_IMGA else KS_IMGB) (BitVec.ofNat 32 (r.code + r.kslot * 16 + r.sect * 256))
  let s := s.wr (KS_IVER k) (if r.code = 1 || r.code = 3 then 0 else h.w 3)
  if r.code = 1 || r.code = 2 then s else s.fault 0x72 k

/-- The slot that is applied (R450): the valid one with the higher IVER, slot A where they are equal. -/
def chooseSlot (ha hb : Header) (ra rb : SlotResult) : Option Nat :=
  if ra.code = 2 then (if rb.code = 2 && ha.iver < hb.iver then some 1 else some 0)
  else if rb.code = 2 then some 1 else none

/-! ## Applying (R445, R447, R454) -/

/-- One field of an image-carried register as the Lamplighter writes it: clamped to its Legal column (R447). -/
def imgField (v : Word) (p : Word × Bool) (f : FieldD) : Word × Bool :=
  match f.acc with
  | .wo => p
  | .rc => p
  | .w1c => p
  | .w1s => p
  | _ =>
    let x := fld v f.lo f.len
    let c := clampLegal f.legal x
    (putFld p.1 f.lo f.len c, p.2 || c != x)

/-- A clamp at apply is counted and shown in CLAMPED (R447). -/
def State.imgClamp (s : State) (b : Bool) (a : Nat) : State := if b then (s.clamped a).put KS_IMGSEL_CLAMPED 1 else s

/-- What an unlisted structure latch holds: the values of Table 16.4. -/
def latchReset (a : Nat) : Word := if a < 0x40000000 then csrReset a else regReset a

/-- A register and its structure latch hold a value (R456). -/
def State.imgSet (s : State) (a : Nat) (v : Word) : State :=
  { s.wr a v with latch := Store.set latchReset s.latch a v }

/-- A word of a section applied to the register at `a`. -/
def State.imgWrite (s : State) (a : Nat) (v : Word) : State :=
  match regRow a with
  | none => s
  | some r =>
    let p := r.fields.foldl (imgField v) (s.rd a, false)
    (s.imgSet a p.1).imgClamp p.2 a

/-- A GP pin passes to a function (R455): 0 leaves it GPIO. -/
def State.ownPin (s : State) (n f : Nat) : State :=
  if f = 0 then s
  else
    { (s.imgSet (GP_CFG n) (putFld (s.rd (GP_CFG n)) 16 1 1)).put (gpBit (GP_IN 0) (GP_IN 1) n) 0 with ks := { s.ks with pins := Store.set (fun _ => 0) s.ks.pins n f } }

/-- PINMUX (Table 16.6). -/
def State.applyPinmux (s : State) (b : List Word) : State := b.foldl (fun s w => s.ownPin (fld w 0 6) (fld w 8 8)) s

/-- LANTERN: SINGLE outside DEVELOP is applied as PAIR, which is no clamp (R74). -/
def State.applyLantern (s : State) (b : List Word) : State :=
  let w := b.getD 0 0
  let w := if fld w 0 2 = 0 && !s.develop then putFld w 0 2 1 else w
  (s.imgWrite LNT_MODE w).imgWrite LNT_STPER (b.getD 1 0)

/-- Words applied to registers `step` bytes apart. -/
def State.imgRun (s : State) (a step : Nat) : List Word → State
  | [] => s
  | w :: t => (s.imgWrite a w).imgRun (a + step) step t

/-- PROTECT: STRICT in PRODUCTION and RETIRED whatever the section holds (R213); the map commits. -/
def State.applyProtect (s : State) (b : List Word) : State :=
  let w := b.getD 0 0
  let strict := 2 ≤ s.get KS_LC_STATE
  let s := (s.imgWrite MPU_CTL (if strict then 1 else w)).imgRun (MPU_BASE 0) 4 (b.drop 1)
  { s with mpu := s.latch.filter (fun p => p.1 / 4096 == 0x40007) }

/-- LIMITS. -/
def State.applyLimits (s : State) (b : List Word) : State :=
  { s.csrPut 0x013 (b.getD 0 0) with latch := Store.set latchReset s.latch 0x013 (b.getD 0 0) }

/-- A watchdog's limits, OPEN within 0 to CLOSE − 1 (R447). -/
def State.imgWd (s : State) (a : Nat) (v : Word) : State :=
  let s := s.imgWrite a v
  let c := fld (s.rd a) 0 16
  if fld (s.rd a) 16 16 < c then s else (s.imgSet a (putFld (s.rd a) 16 16 (c - 1))).imgClamp true a

/-- SNUFFER. -/
def State.applySnuffer (s : State) (b : List Word) : State :=
  ({ s with snf := { s.snf with applied := true } }.imgWd SNF_WWDCFG (b.getD 0 0) |>.imgWd SNF_QAWCFG (b.getD 1 0) |>.imgWrite SNF_WDCTL (b.getD 2 0)).imgRun (SNF_OCFG 0) 4
    (b.drop 3)

/-- A threshold within its limits (R295, R447): in rate mode 1 to ULIM and 1 to LLIM, else 0 to ULIM and LLIM to 1,023. -/
def thrClamp (mode : Nat) (lim v : Word) : Word :=
  let u := fld v 0 10
  let l := fld v 16 10
  if mode = 2 then BitVec.ofNat 32 (max 1 (min u (fld lim 0 10)) + max 1 (min l (fld lim 16 10)) * 65536)
  else BitVec.ofNat 32 (min u (fld lim 0 10) + max l (fld lim 16 10) * 65536)

/-- A slice record. -/
def State.applySlice (s : State) (r : List Word) : State :=
  let n := fld (r.getD 0 0) 0 7
  let s := ((s.imgWrite (MON_CFG n) (r.getD 1 0)).imgWrite (MON_FILT n) (r.getD 3 0)).imgWrite (MON_LIM n) (r.getD 4 0)
  let v := r.getD 2 0
  let c := thrClamp (fld (r.getD 1 0) 1 2) (r.getD 4 0) v
  (s.imgSet (MON_THR n) c).imgClamp (c != v) (MON_THR n)

/-- SLICEGRAPH. -/
def State.applyGraph (s : State) (b : List Word) : State :=
  let s := (sliceRecs b).foldl State.applySlice s
  (groupRecs b).foldl (fun s r => s.imgWrite (MON_GRPC (fld (r.getD 0 0) 0 5)) (r.getD 1 0)) s

/-- A fault record: the class is raised to a permitted one (R41), which counts as a clamp. -/
def State.applyClass (s : State) (r : List Word) : State :=
  let w := r.getD 0 0
  let id := fld w 0 8
  let c0 := fld w 8 3
  let c := match faultRow id with
    | some row => classFix row c0
    | none => c0
  let a := FLT_CLS (id / 4)
  let s := s.imgSet a (putFld (putFld (s.rd a) (8 * (id % 4)) 3 c) (8 * (id % 4) + 3) 1 (fld w 11 1))
  (s.imgClamp (c != c0) a).imgWrite (FLT_OSET id) (r.getD 1 0)

/-- REACTION. -/
def State.applyReaction (s : State) (b : List Word) : State :=
  let w := b.getD 0 0
  let nf := fld w 0 8
  let ns := fld w 8 8
  let s := s.imgWrite FLT_CFG (b.getD 1 0)
  let s := (records 2 nf (b.drop 2)).foldl State.applyClass s
  let s := (records 3 ns (b.drop (2 + 2 * nf))).foldl (fun s r =>
    (s.imgWrite (MON_RTEU (fld (r.getD 0 0) 0 7)) (r.getD 1 0)).imgWrite (MON_RTEL (fld (r.getD 0 0) 0 7)) (r.getD 2 0)) s
  (records 3 (fld w 16 8) (b.drop (2 + 2 * nf + 3 * ns))).foldl (fun s r =>
    (s.imgWrite (MON_GRPRU (fld (r.getD 0 0) 0 5)) (r.getD 1 0)).imgWrite (MON_GRPRL (fld (r.getD 0 0) 0 5)) (r.getD 2 0)) s

/-- A watch-set register applied, at most 16 slices with EN 1 in all (R313). -/
def State.applyWset (s : State) (k : Nat) (v : Word) : State :=
  let r := s.watchAdd k v 0 32
  let a := MON_WSET k
  let s := (r.1.put MON_GCTL_WCOUNT (r.1.watchCount 128)).imgClamp r.2 a
  (s.imgSet MON_GCTL (s.rd MON_GCTL)).imgSet a (s.rd a)

/-- LADDER. -/
def State.applyLadder (s : State) (b : List Word) : State :=
  let s := ((s.imgWrite PM_LADDER (b.getD 0 0)).imgWrite CLK_PLLA (b.getD 1 0)).imgWrite MON_GCTL (b.getD 2 0)
  (((s.applyWset 0 (b.getD 3 0)).applyWset 1 (b.getD 4 0)).applyWset 2 (b.getD 5 0)).applyWset 3 (b.getD 6 0)

/-- The chip selects that PORT_SPICFGn enables. -/
def chipSelects (w : Word) : List Nat :=
  (if bitOf w 6 then [fld w 0 6] else []) ++ (if bitOf w 14 then [fld w 8 6] else []) ++
  (if bitOf w 22 then [fld w 16 6] else [])

/-- A port record that R320 does not allow: QUAD on P15 or beside a port in use, or a chip select on a pin that is held. -/
def State.portClash (s : State) (n : Nat) (cfg next spi : Word) : Bool :=
  fld cfg 0 3 == 6 &&
  ((bitOf cfg 7 && (n == 15 || fld next 0 3 != 0)) ||
   (chipSelects spi).any (fun p => decide (39 < p) || Store.get (fun _ => 0) s.ks.pins p != 0) || !decide (chipSelects spi).Nodup)

/-- A port record (R320, R455); `slot` is the image slot that fault 0x72 names. -/
def State.applyPort (s : State) (slot n : Nat) (r : List Word) (next : Word) : State :=
  let cfg := r.getD 0 0
  let spi := r.getD 5 0
  let clash := s.portClash n cfg next spi
  let s := if clash then s.fault 0x72 slot
    else if fld cfg 0 3 = 6 then (chipSelects spi).foldl (fun s p => s.ownPin p 3) s
    else s
  let cfg := if clash then putFld cfg 0 3 0 else cfg
  let tmo := if (fld cfg 0 3 = 2 || fld cfg 0 3 = 3) then putFld (r.getD 1 0) 0 8 25 else r.getD 1 0
  let s := (s.imgWrite (PORT_CFG n) cfg).imgWrite (PORT_TMO n) tmo
  let s := s.imgClamp (tmo != r.getD 1 0) (PORT_TMO n)
  (((s.imgWrite (PORT_BAUD n) (r.getD 2 0)).imgWrite (PORT_BAUDE n) (r.getD 3 0)).imgWrite (PORT_TADDR n) (r.getD 4 0)).imgWrite
    (PORT_SPICFG n) spi

/-- PORTS: the records from port `n` on, in order. -/
def State.applyPorts (s : State) (slot n : Nat) : List (List Word) → State
  | [] => s
  | r :: t => (s.applyPort slot n r ((t.headD []).getD 0 0)).applyPorts slot (n + 1) t

/-- A partner record, each field clamped to its Legal column (R325, R447). -/
def State.applyPartner (s : State) (r : List Word) : State :=
  let n := fld (r.getD 0 0) 0 12
  let v0 := r.getD 1 0
  let v1 := r.getD 2 0
  let w0 := recWord0 (s.pers (fld v0 0 4)) v0 v0
  let sa := fld v1 16 7
  let c := if sa = 0 then 0 else nearer sa 0 (clampLegal [(8, 0x77, 1)] sa)
  let ws := [w0, putFld v1 16 7 c, r.getD 3 0, r.getD 4 0]
  let s := { s.putPartner n ws with
    ks := { s.ks with sealedPartners := Store.set (fun _ => []) s.ks.sealedPartners n ws } }
  (s.imgClamp (w0 != v0) (PORT_PDATA 0)).imgClamp (c != sa) (PORT_PDATA 1)

/-- RING (R455): PAIR_ACT on a pin that is held is not used. -/
def State.applyRing (s : State) (slot : Nat) (b : List Word) : State :=
  let p := b.getD 1 0
  let taken := bitOf p 14 && Store.get (fun _ => 0) s.ks.pins (fld p 8 6) != 0
  let s := if taken then s.fault 0x72 slot else if bitOf p 14 then s.ownPin (fld p 8 6) 4 else s
  let s := { s with ks := { s.ks with ringSet := true } }
  ((s.imgWrite RING_CTL (b.getD 0 0)).imgWrite RING_PCFG (if taken then putFld p 14 1 0 else p)).imgWrite RING_MWBASE (b.getD 2 0)

/-- Microwords loaded from a micro-address upward with CHK computed (R152). -/
def State.loadWords (s : State) (a : Nat) : List MWord → State
  | [] => s
  | w :: t => (s.putMword a (mwSeal w a)).loadWords (a + 1) t

/-- MCW (R171). -/
def State.applyMcw (s : State) (c : Sect) : State :=
  let s := s.loadWords 0x1400 (mcwWords c)
  let s := (mcwEntries c).foldl (fun s e =>
    s.wrMc (MC_XOP (fld e 0 6)) (BitVec.ofNat 32 (fld e 6 10 + 2 ^ 15 + fld e 16 12 * 65536))) s
  ((s.put MC_CWSTAT_LOADED 1).put MC_CWSTAT_NXOP (fld (c.body.getD 0 0) 0 16)).put MC_CWSTAT_NWORDS (fld (c.body.getD 0 0) 16 16)

/-- A usable section applied. -/
def State.applyBody (s : State) (slot : Nat) (c : Sect) : State :=
  let b := c.body
  if c.typ = 1 then s.applyPinmux b
  else if c.typ = 10 then s.applyLantern b
  else if c.typ = 9 then s.applyProtect b
  else if c.typ = 8 then s.applyLimits b
  else if c.typ = 4 then s.applySnuffer b
  else if c.typ = 2 then s.applyGraph b
  else if c.typ = 3 then s.applyReaction b
  else if c.typ = 7 then s.applyLadder b
  else if c.typ = 5 then s.applyPorts slot 0 (records 8 16 b)
  else if c.typ = 6 then (records 5 (fld (b.getD 0 0) 0 13) (b.drop 1)).foldl State.applyPartner s
  else if c.typ = 12 then s.applyRing slot b
  else s.applyMcw c

/-- A Skip-class section that cannot be used (R454, R172). -/
def State.skipSect (s : State) (slot t : Nat) : State :=
  let s := (s.wr KS_IMGSKIP (s.rd KS_IMGSKIP ||| bit t)).put KS_IMGSEL_SKIP 1
  (if t = 11 then s.put MC_CWSTAT_REJECTED 1 else s).fault 0x72 slot

/-- The sections applied in the order of R454; an absent PROTECT still sets MODE (R213). -/
def State.applySects (s : State) (slot : Nat) (l : List Sect) : List Nat → State
  | [] => s
  | t :: u => match sectOf l t with
    | some c => (if usable l c then s.applyBody slot c else s.skipSect slot t).applySects slot l u
    | none => (if t = 9 then s.applyProtect [0] else s).applySects slot l u

/-- The classes of the faults captured before sealing are applied (R18). -/
def State.applyPresealed (s : State) : List Nat → State
  | [] => s
  | id :: t => match faultRow id with
    | none => s.applyPresealed t
    | some row =>
      let cls := s.appliedClass (s.get (clsFld id))
      let s := { s with flt := { s.flt with applied := Store.set (fun _ => 0) s.flt.applied id cls } }
      (if s.limp then s else s.classActions ⟨id, 0, none, false, false⟩ row cls).applyPresealed t

/-- The slot's sections are applied and the structure sealed (R454, R456); the slices are powered and the classes of the
faults captured so far take effect. -/
def State.applyImage (s : State) (slot : Nat) (h : Header) (l : List Sect) : State :=
  let s := (s.put KS_IMGSEL_SLOT slot).put KS_IMGSEL_APPLIED 1
  let s := s.put KS_RBCNT_RBVAL h.rbval
  let s := s.wr KS_IMGKEY (BitVec.ofNat 32 (h.key0 + (if h.rot then h.key1 * 4 + 16 else 0)))
  let s := s.applySects slot l applyOrder
  let s := if l.any (fun c => decide (0x80 ≤ c.typ)) then s.wr KS_IMGSKIP (s.rd KS_IMGSKIP ||| bit 31) else s
  let s := (s.put KS_IMGSEL_SEALED 1).slicesUp
  let pre := s.flt.presealed
  ({ s with flt := { s.flt with presealed := [] } }).applyPresealed pre

/-- The signer recorded for key slot `k` (R481): the active slot with the same key and the highest SGEN, `k` itself where no
other is higher. -/
def Ks.signer (ks : Ks) (k : Nat) : Nat :=
  let gen (j : Nat) : Nat := bytesNat ((ks.record.drop (0x24 + 0x60 * j)).take 4)
  [0, 1, 2, 3].foldl (fun b j => if (ks.keyOf j).isSome && ks.keyOf j == ks.keyOf k && decide (gen b < gen j) then j else b) k

/-- KS_SIGNER (R481). -/
def State.signers (s : State) (h : Header) : State :=
  let a := s.ks.signer h.key0
  let b := if h.rot then s.ks.signer h.key1 else 0
  s.wr KS_SIGNER (BitVec.ofNat 32 (a + b * 4 + b2n (a != h.key0 || (h.rot && b != h.key1)) * 16))

/-- C9 (R448, R450, R451, R473): both slots examined, one applied and sealed; with none valid the structure stays unsealed. -/
def State.imageStep (s : State) : State :=
  let lc := s.get KS_LC_STATE
  if lc = 0 || lc = 3 then (s.applyProtect [0]).put KS_IMGSEL_NOIMAGE 1
  else
    let ha := s.slotHeader 0
    let ra := s.examine 0
    let s := s.slotNote 0 ha ra
    let hb := s.slotHeader 1
    let rb := s.examine 1
    let s := s.slotNote 1 hb rb
    match chooseSlot ha hb ra rb with
    | none => (s.applyProtect [0]).put KS_IMGSEL_NOIMAGE 1
    | some 0 => (s.applyImage 0 ha ra.sects).signers ha
    | some _ => (s.applyImage 1 hb rb.sects).signers hb

/-! ## The rollback counter (R452, R453) -/

/-- The rollback count: consecutive programmed bits from bit 0. -/
def thermoCount (t : Nat) : Nat → Nat → Nat
  | 0, c => c
  | n + 1, c => if t / 2 ^ c % 2 = 1 then thermoCount t n (c + 1) else c

/-- A write of KS_RBADV (R453). -/
def State.rollbackWrite (s : State) (m : Master) (v : Word) : State :=
  if fld v 16 16 != 0x52B1 then s.clamped KS_RBADV
  else if m != .cluster then s
  else if s.is KS_RBCNT_BUSY || !s.is KS_IMGSEL_APPLIED then s
  else
    let c := s.get KS_RBCNT_COUNT
    let x := fld v 0 7
    let t := max c (min x (s.get KS_RBCNT_RBVAL))
    let s := s.clampIf (t != x) KS_RBADV
    if t = c then s else { s.put KS_RBCNT_BUSY 1 with ks := { s.ks with target := some t } }

/-- ROLLBACK_ADVANCE (R453). -/
def execRollbackAdvance (m : Master) (v : Word) (s : State) : Res :=
  .next (s.regCommand m KS_RBADV (fun s => s.rollbackWrite m v))

/-- The thermometer with its first `t` bits programmed. -/
def Ks.fill (ks : Ks) (t : Nat) : Ks := { ks with target := none, otp := { ks.otp with thermo := ks.otp.thermo ||| (2 ^ t - 1) } }

/-- ROLLBACK_ADVANCE_DONE (R453). -/
def execRollbackAdvanceDone (s : State) : Res :=
  .next (match s.ks.target with
    | none => s
    | some t => ({ s with ks := s.ks.fill t }.put KS_RBCNT_BUSY 0).put KS_RBCNT_COUNT (thermoCount (s.ks.fill t).otp.thermo 64 0))

end Sys2Proof.Machine
end

