-- ==== Sys2Proof/Machine/Rng.lean ====
section
/-! DEFINITION. The entropy source and its DRBG (spec/17, R486 to R490). -/
namespace Sys2Proof.Machine

/-- A change of the entropy internals. -/
def State.onRng (s : State) (f : Rng → Rng) : State := { s with rng := f s.rng }

/-- RNG_STAT follows the FIFO. -/
def State.rngSync (s : State) : State :=
  (s.put RNG_STAT_WORDS s.rng.fifo.length).flag RNG_STAT_AVAIL (!s.rng.fifo.isEmpty)

/-- The source and the DRBG run (R490). -/
def State.rngOn (s : State) : Bool := s.pstate == 5 || s.pstate == 4

/-- The DRBG generates (R488, R489): in service, running and not stopped by a reseed that waits. -/
def State.rngReady (s : State) : Bool := s.is RNG_STAT_READY && s.rngOn && !s.rng.wait

/-- The four words of the DRBG's next generate request (R488; log entry 135). -/
def Rng.block (r : Rng) : List Word := bytesWords (drbgOutput r.drbg)

/-- READY rises (R487). -/
def State.rngRise (s : State) : State := (s.put RNG_STAT_READY 1).put RNG_IRQ_READY 1

/-- The DRBG reseeds from seed material (R489). -/
def State.reseedNow (s : State) (b : List Byte) : State :=
  let s := s.onRng (fun r => { r with drbg := drbgReseed r.drbg b, reqs := 0, wait := false, buf := none })
  let s := ((s.put RNG_STAT_SEEDING 0).put RNG_CTL_RESEED 0).bump RNG_RESEEDS_V 1
  if s.is RNG_STAT_READY then s else s.rngRise

/-- A reseed falls due (R489): it takes place from a full buffer, and waits for one that is not. -/
def State.reseedDue (s : State) : State :=
  match s.rng.buf with
  | some b => s.reseedNow b
  | none => (s.put RNG_STAT_SEEDING 1).onRng (fun r => { r with wait := true })

/-- A generate request has been served; after 4,096 of them a reseed falls due (R489). -/
def State.rngServed (s : State) : State :=
  let s := s.onRng (fun r => { r with drbg := drbgNext r.drbg, reqs := r.reqs + 1 })
  if 4096 ≤ s.rng.reqs then s.reseedDue else s

/-- One generate block goes to the FIFO where it has room for one (R488). -/
def State.rngFill (s : State) : State :=
  if s.rngReady && decide (s.rng.fifo.length ≤ 12) then
    (s.onRng (fun r => { r with fifo := r.fifo ++ r.block })).rngServed.rngSync
  else s

/-! ## The noise source and its health tests (R486) -/

/-- The bits of raw words, the lowest first. -/
def rawBits : List Word → List Bool
  | [] => []
  | w :: t => (List.range 32).map (bitOf w) ++ rawBits t

/-- The repetition count test with cutoff 41: `n` bits equal to `b` have come in a row. -/
def rctFails (b : Bool) (n : Nat) : List Bool → Bool
  | [] => decide (41 ≤ n)
  | x :: t => decide (41 ≤ n) || (if x == b then rctFails b (n + 1) t else rctFails x 1 t)

/-- The adaptive proportion test with cutoff 794 in windows of 1,024 bits: the first bit of the window, how often it has come, and
the bits the window has left. -/
def aptFails (b : Bool) (n left : Nat) : List Bool → Bool
  | [] => decide (794 ≤ n)
  | x :: t => decide (794 ≤ n) || (if left = 0 then aptFails x 1 1023 t else aptFails b (if x == b then n + 1 else n) (left - 1) t)

/-- The health test that raw bits fail: the repetition count (false) or the adaptive proportion test (true). -/
def healthFails (l : List Bool) : Option Bool :=
  if rctFails false 0 l then some false else if aptFails false 0 0 l then some true else none

/-- The next 1,280 raw bits, each a free value: two groups of 640. -/
def State.rawGroups (s : State) : List Word := (List.range 40).map (fun k => Config.free (s.freeCtr + k))

/-- The raw bits have been taken from the source. -/
def State.rawTaken (s : State) : State := { s with freeCtr := s.freeCtr + 40 }

/-- The two conditioned outputs of 1,280 raw bits, 32 bytes each (R487). -/
def conditioned (ws : List Word) : List Byte :=
  sha256 (wordsBytes (ws.take 20)) ++ sha256 (wordsBytes (ws.drop 20))

/-- A health failure (R486): all entropy is discarded, and the source stops until it is restarted. -/
def State.healthFail (s : State) (apt : Bool) : State :=
  let s := ((s.put RNG_STAT_HFAIL 1).put (if apt then RNG_STAT_APTFAIL else RNG_STAT_RCTFAIL) 1).put RNG_STAT_READY 0
  let s := (s.put RNG_STAT_SEEDING 0).put RNG_IRQ_HFAIL 1
  (s.onRng (fun _ => ⟨false, ([], []), 0, [], false, none⟩)).rngSync

/-- The material that instantiates the DRBG (R487): the 384-bit entropy input and the 128-bit nonce, which are the two outputs in
order, and the personalisation string. -/
def State.instMaterial (s : State) : List Byte :=
  conditioned s.rawGroups ++ sha256 (s.ks.otp.duk ++ natBytes 8 s.ks.otp.uid)

/-- INSTANTIATE (R486, R487): the first 1,280 raw bits are the start-up test; where they pass, the DRBG is instantiated from their
two conditioned outputs. -/
def execInstantiate (s : State) : Res :=
  .next (if !s.rng.run || s.is RNG_STAT_READY || s.rng.wait || !s.rngOn then s
    else match healthFails (rawBits s.rawGroups) with
      | some apt => s.rawTaken.healthFail apt
      | none =>
        let m := s.instMaterial
        (((s.rawTaken.onRng (fun r => { r with drbg := drbgInstantiate m, reqs := 0, fifo := [] })).put RNG_STAT_SEEDING 0).wr RNG_RESEEDS
          0).rngRise.rngSync)

/-- RESEED (R489): the source has filled the 384-bit buffer; a reseed that waits for it takes place. -/
def execReseed (s : State) : Res :=
  .next (if !(s.is RNG_STAT_READY || s.rng.wait) || !s.rng.run || !s.rngOn then s
    else match healthFails (rawBits s.rawGroups) with
      | some apt => s.rawTaken.healthFail apt
      | none =>
        let b := (conditioned s.rawGroups).take 48
        if s.rng.wait then s.rawTaken.reseedNow b else s.rawTaken.onRng (fun r => { r with buf := some b }))

/-- RESEED_TIMEOUT (R489): a reseed has waited 100 ms; READY clears. -/
def execReseedTimeout (s : State) : Res := .next (if s.rng.wait then s.put RNG_STAT_READY 0 else s)

/-- HEALTH_TEST_FAILURE (R486): a later raw bit fails the repetition count test, or the adaptive proportion test. -/
def execHealthTestFailure (apt : Bool) (s : State) : Res := .next (if !s.rng.run || !s.rngOn then s else s.healthFail apt)

/-- RNG_CTL.RESTART (R486): after a health failure the start-up test runs again. -/
def State.rngRestart (s : State) : State := if s.is RNG_STAT_HFAIL then s.rngReset else s

/-- RESTART (R486). -/
def execRngRestart (s : State) : Res := .next (s.ownCommand RNG_CTL State.rngRestart)

/-- A write of RNG_CTL: RESEED makes a reseed due where the DRBG is in service, RESTART acts. -/
def State.rngCtl (s : State) (v : Word) : State :=
  let s := if bitOf v 0 && s.is RNG_STAT_READY then (s.put RNG_CTL_RESEED 1).reseedDue else s
  if bitOf v 1 then s.rngRestart else s

/-- A read of RNG_DATA (R488): one word, or 0 with the read counted. -/
def State.rngPop (s : State) : State :=
  match s.rng.fifo with
  | w :: t =>
    if s.is RNG_STAT_READY then ((s.onRng (fun r => { r with fifo := t })).rngSync).answer w
    else (s.bump RNG_UNDER_COUNT 1).answer 0
  | [] => (s.bump RNG_UNDER_COUNT 1).answer 0

/-- RNG_DATA (R488). -/
def execRngData (m : Master) (s : State) : Res := .next (s.regAccess m false RNG_DATA .word State.rngPop)

/-- AUTH_NONCE (R488): 8 bytes of a generate request of its own; it waits until the DRBG generates. -/
def execAuthNonce (tag : BitVec 10) (s : State) : Res :=
  .next (if !s.rngReady then s
    else s.ceRun tag 10 (fun s o =>
      let b := s.rng.block
      s.rngServed.ceDone o.tag stOk ((b.getD 1 0) ++ (b.getD 0 0))))

end Sys2Proof.Machine
end

