-- ==== Sys2Proof/Machine/Snuffer.lean ====
section
/-! DEFINITION. The commands of the Snuffer, the watchdogs, the fault collector and error injection (spec/02). -/
namespace Sys2Proof.Machine

/-! ## The fault collector -/

/-- FAULT_CAPTURE (R45): a synchronised fault request is captured and its class carried out. -/
def execFaultCapture (id : BitVec 8) (detail : Word) (unit : BitVec 16) (s : State) : Res :=
  .next (s.raise ⟨id.toNat, detail, some unit.toNat, false, false⟩)

/-- RSTCNT_CLEAR (R38): 1 s has passed without a Reset reaction. -/
def execRstcntClear (s : State) : Res := .next (s.ownCommand FLT_STAT (fun s => s.put FLT_STAT_RSTCNT 0))

/-- LOG_BUFFER_FLUSH (R49). -/
def execLogBufferFlush (s : State) : Res := .next (s.logFlush.logCheck s)

/-- The bits of FLT_PENDn whose detecting condition persists (R45). -/
def condMask (n : Nat) : List Nat → Word
  | [] => 0
  | id :: t => (if id / 32 = n && faultConditional id then bit (id % 32) else 0) ||| condMask n t

/-- The pending bits of one register that a W1C clears: all but those whose condition persists (R45). -/
def State.pendClear (s : State) (n : Nat) (w : Word) : State :=
  let s := s.wr (FLT_PEND n) (s.rd (FLT_PEND n) &&& ~~~ (w &&& ~~~ condMask n s.flt.cond))
  s.faultyDrop s.flt.faulty

/-- FLT_PEND_CLEAR (R45). -/
def execFltPendClear (n : BitVec 2) (w : Word) (s : State) : Res := .next (s.ownCommand (FLT_PEND n.toNat) (fun s => s.pendClear n.toNat w))

/-! ## Readback, self-check and clock loss -/

/-- The output's commanded level as its pin shows it: the safe level while snuffed, else its SNF_OPLVL bit; an open-drain
output's safe level is released, so high on its pull-up (R51, R52). -/
def State.outLevel (s : State) (n : Nat) : Bool :=
  if !s.is (SNF_OCFG_USED n) || bitOf s.snuffed n then
    (if s.is (SNF_OCFG_OD n) then true else s.is (SNF_OCFG_SAFE n))
  else bitOf (s.rd SNF_OPLVL) n

/-- Output `n` is compared in this cycle (R54): it is used, its bank is present (R499) and its commanded level has stood for 16
AOCLK. -/
def State.readBack (s : State) (n : Nat) : Bool :=
  s.is (SNF_OCFG_USED n) && s.outBank n && decide (16 ≤ Store.get (fun _ => 0) s.snf.levelAge n)

/-- The consecutive compared cycles in which output `n` has not agreed with its commanded level (R54). -/
def State.mismatches (s : State) (n : Nat) : Nat := Store.get (fun _ => 0) s.snf.mismatch n

/-- One compared cycle of one output (R54). -/
def State.readbackOut (s : State) (pins : BitVec 24) (n : Nat) : State :=
  if !s.readBack n then s
  else
    let c := if (pins.getLsbD n != s.outLevel n) || s.injected 0x75 n then satAdd (s.mismatches n) 1 17 else 0
    { s with snf := { s.snf with mismatch := Store.set (fun _ => 0) s.snf.mismatch n c } }

/-- Compared cycles of the outputs below `n`. -/
def State.readbackAll (s : State) (pins : BitVec 24) : Nat → State
  | 0 => s
  | n + 1 => (s.readbackAll pins n).readbackOut pins n

/-- The condition of 0x75 is present while some output's mismatch stands. -/
def State.readbackCond (s : State) : State :=
  s.condition 0x75 (s.snf.mismatch.any (fun p => decide (16 ≤ p.2)))

/-- The outputs whose 16th consecutive mismatch this cycle was (R54). -/
def State.readbackFails (s : State) : List Nat := (List.range 24).filter (fun n => s.readBack n && s.mismatches n == 16)

/-- Fault 0x75 with each output's index (R54). -/
def State.readbackRaise (s : State) : List Nat → State
  | [] => s
  | n :: t => (s.raise ⟨0x75, BitVec.ofNat 32 n, none, s.injected 0x75 n, false⟩).readbackRaise t

/-- SNUFFER_READBACK (R54): the pin levels of one AOCLK cycle are compared with the commanded levels; the outputs' counts move,
and then each that reached 16 raises 0x75. -/
def execSnufferReadback (pins : BitVec 24) (s : State) : Res :=
  let s := ((s.wr SNF_RDBK (pins.setWidth 32)).readbackAll pins 24).readbackCond
  .next (s.readbackRaise s.readbackFails)

/-- SNUFFER_SELF_CHECK (R55): a failure, real or injected, raises 0x76. -/
def execSnufferSelfCheck (ok : Bool) (s : State) : Res :=
  let inj := s.flt.inj.any (fun i => i.id == 0x76)
  if ok && !inj then .next (s.condition 0x76 false)
  else
    let s := { s with flt := { s.flt with inj := s.flt.inj.filter (fun i => i.id != 0x76) } }
    .next ((s.condition 0x76 (!ok)).raise ⟨0x76, 0, none, inj && ok, false⟩)

/-- SNUFFER_ONLY_HOLD (R69): every output is snuffed, FAULT_N is low and no master issues transfers until a cold start. -/
def State.snufferOnly (s : State) : State :=
  ({ s.snuff 0xFFFFFF with snf := { (s.snuff 0xFFFFFF).snf with only := true } }).faultNSync

/-- CLOCK_LOSS (R53, R69): the detector drives every used output to its safe level; AOCLK is lost, so the Snuffer-only hold
follows. -/
def execClockLoss (s : State) : Res :=
  .next { s.snufferOnly with snf := { s.snufferOnly.snf with clockLost := true } }

/-- SNUFFER_SUPPLY_OUT_OF_RANGE (R53): outputs and FAULT_N are undriven while the Snuffer's regulator is out of range. -/
def execSnufferSupplyOutOfRange (bad : Bool) (s : State) : Res := .next { s with snf := { s.snf with supplyBad := bad } }

/-- The driver of output `n` is supplied (R53, R497, R499): the Snuffer's supply is good, its bank is present and the device is
not in WICK or DARK. -/
def State.outSupplied (s : State) (n : Nat) : Bool := !s.snf.supplyBad && s.outBank n && decide (2 ≤ s.pstate)

/-- The Snuffer drives output `n`: none until the SNUFFER section is applied, as the board pull holds the safe level (R17, R493). -/
def State.outDriven (s : State) (n : Nat) : Bool := s.outSupplied n && s.snf.applied

/-! ## Software snuff and unsnuff -/

/-- The effect of SNF_SWSNUFF (R57): used outputs named are snuffed as a software request, with a kind-2 log entry; unused ones have no
effect (spec/02, Edges). -/
def State.swSnuff (s : State) (v : Word) : State :=
  let m := v &&& s.used &&& 0xFFFFFF
  if m = 0 then s
  else
    let fresh := s.newly m
    let s := (s.wr SNF_SWSNUFF (s.rd SNF_SWSNUFF ||| m)).snuff m
    (s.log ⟨2, 0, 0, fresh == 0, false, m, fresh⟩).logCheck s

/-- SNF_SWSNUFF (R57). -/
def execSnfSwsnuff (v : Word) (s : State) : Res := .next (s.ownCommand SNF_SWSNUFF (fun s => s.swSnuff v))

/-- The unsnuff sequence ends with a result code (R61). -/
def State.unsResult (s : State) (code fault out : Nat) : State :=
  (s.wr SNF_UNSRES (BitVec.ofNat 32 (code + fault * 256 + out * 65536))).flag SNF_STAT_ARMED false

/-- A refused unsnuff: the reason is recorded, the sequence disarmed and fault 0x77 raised (R61). -/
def State.unsRefuse (s : State) (code fault out : Nat) : State :=
  let s := s.unsResult code fault out
  s.raise ⟨0x77, s.rd SNF_UNSRES, none, false, false⟩

/-- The effect of SNF_UNSNUFF (R59, R61): the arming value arms with a fresh challenge, a free value (the LFSR's state is not given, log
entry 2); any other raises 0x77 with code 2. -/
def State.unsnuffArm (s : State) (v : Word) : State :=
  if v = 0x5A5AC3C3 then
    { (((s.wr SNF_CHAL s.freeVal).freed).flag SNF_STAT_ARMED true) with snf := { s.snf with armAge := 0 } }
  else (s.unsRefuse 2 0 0)

/-- SNF_UNSNUFF (R59, R61). -/
def execSnfUnsnuff (v : Word) (s : State) : Res := .next (s.ownCommand SNF_UNSNUFF (fun s => s.unsnuffArm v))

/-- A watchdog is healthy (R60): served since cold start and its fault not pending. -/
def State.wwdOk (s : State) : Bool := s.snf.wwd.served && !s.pend 0x70

/-- The Q&A watchdog is healthy (R60). -/
def State.qawOk (s : State) : Bool := s.snf.qaw.served && !s.pend 0x71

/-- A pending fault blocks an unsnuff (R60): its applied class is Snuff or above, or it is a latent fault. -/
def State.blocks (s : State) (id : Nat) : Bool :=
  s.pend id && (decide (5 ≤ Store.get (fun _ => 0) s.flt.applied id) || latentIds.contains id)

/-- The lowest blocking fault from `id` on. -/
def State.blockFrom (s : State) : Nat → Nat → Option Nat
  | 0, _ => none
  | n + 1, id => if s.blocks id then some id else s.blockFrom n (id + 1)

/-- A released output takes its operating level: SNUFFED clears (R62); FAULT_N's hold through the start ends once no used
output is snuffed (R56). -/
def State.releaseOut (s : State) (n : Nat) : State :=
  let s := (s.wr SNF_STAT (s.rd SNF_STAT &&& ~~~ bit n)).ledger (0x5A0 + n) 8
  let s : State := { s.levelMoved (bit n &&& s.levelDiffers) with snf := { (s.levelMoved (bit n &&& s.levelDiffers)).snf with
    holding := s.snf.holding &&& ~~~ bit n } }
  let s := if s.used &&& s.snuffed == 0 then { s with snf := { s.snf with startLow := false } } else s
  s.faultNSync

/-- The outputs of a mask below `n` begin their hold-off, or take their level at once where it is 0 (R62). -/
def State.releaseMask (s : State) (m : Word) : Nat → State
  | 0 => s
  | n + 1 =>
    let s := s.releaseMask m n
    if !bitOf m n then s
    else
      let h := s.get (SNF_OCFG_HOLDOFF n) * 16
      if h = 0 then s.releaseOut n
      else { s with snf := { s.snf with
        holding := s.snf.holding ||| bit n, holdLeft := Store.set (fun _ => 0) s.snf.holdLeft n h } }

/-- A successful unsnuff (R60–R62): code 1, a kind-4 log entry, the software requests and the power-up state of the released
outputs cleared, and the hold-offs begun. -/
def State.unsRelease (s : State) (m : Word) : State :=
  let rel := m &&& s.snuffed
  let s := (s.unsResult 1 0 0).flag SNF_STAT_RELEASED true
  let s := s.wr SNF_SWSNUFF (s.rd SNF_SWSNUFF &&& ~~~ m)
  let s := { s with snf := { s.snf with powerUp := s.snf.powerUp &&& ~~~ m } }
  let s := (s.log ⟨4, 0, 0, false, false, 0, rel⟩).logCheck s
  s.releaseMask rel 24

/-- The effect of SNF_CHALRSP (R60, R61): the response is judged; the first reason of R61's order refuses it. -/
def State.unsnuffAnswer (s : State) (v : Word) : State :=
  let m := s.rd SNF_RELMASK &&& s.used &&& 0xFFFFFF
  if !s.is SNF_STAT_ARMED then (s.unsRefuse 5 0 0)
  else if 1600 < s.snf.armAge then (s.unsRefuse 4 0 0)
  else if v ≠ ~~~ s.rd SNF_CHAL then (s.unsRefuse 3 0 0)
  else if !s.isSealed then (s.unsRefuse 10 0 0)
  else if s.limp then (s.unsRefuse 9 0 0)
  else if m = 0 then (s.unsRefuse 11 0 0)
  else if !(s.wwdOk && s.qawOk) then (s.unsRefuse 6 0 0)
  else match s.blockFrom 128 0 with
    | some id => (s.unsRefuse 7 id 0)
    | none => match lowestBit 24 0 (m &&& s.activeCauses).toNat with
      | some o => (s.unsRefuse 8 0 o)
      | none => (s.unsRelease m)

/-- SNF_CHALRSP (R60, R61). -/
def execSnfChalrsp (v : Word) (s : State) : Res := .next (s.ownCommand SNF_CHALRSP (fun s => s.unsnuffAnswer v))

/-- UNSNUFF_LATE (R61): the armed sequence was not answered within 1,600 AOCLK. -/
def execUnsnuffLate (s : State) : Res := .next (if s.is SNF_STAT_ARMED then s.unsRefuse 4 0 0 else s)

/-- HOLDOFF_EXPIRY (R62): a released output's hold-off ends. -/
def execHoldoffExpiry (n : BitVec 5) (s : State) : Res :=
  .next (if bitOf s.snf.holding n.toNat then s.releaseOut n.toNat else s)

/-! ## Watchdogs -/

/-- The window that a restart of the windowed watchdog latches (R65). -/
def State.wwdRestart (s : State) (served : Bool) : State :=
  { s.wr SNF_WWDCNT 0 with snf := { s.snf with
    wwd := ⟨0, s.get SNF_WWDCFG_OPEN, s.get SNF_WWDCFG_CLOSE, s.snf.wwd.served || served⟩ } }

/-- The window that a restart of the Q&A watchdog latches (R65). -/
def State.qawRestart (s : State) (served : Bool) : State :=
  { s.wr SNF_QAWCNT 0 with snf := { s.snf with
    qaw := ⟨0, s.get SNF_QAWCFG_OPEN, s.get SNF_QAWCFG_CLOSE, s.snf.qaw.served || served⟩ } }

/-- The watchdogs count (R66): started, in LIT or DIM, and not frozen by a debug halt. -/
def State.wdCounts (s : State) : Bool :=
  s.snf.wdRun && decide (4 ≤ s.pstate) &&
  !(s.is DBG_STAT_HALTED && s.is SNF_WDCTL_DBGFRZ && (s.develop || s.unlocked))

/-- The effect of SNF_WWDKICK (R63): the right value inside the window restarts the count; anything else raises 0x70 and restarts it. -/
def State.wwdKick (s : State) (v : Word) : State :=
  let c := s.get ⟨SNF_WWDCNT, 0, 16⟩
  if !s.snf.wdRun || s.pstate < 4 then s
  else if v = 0xA5C3 && decide (s.snf.wwd.openAt ≤ c) && decide (c < s.snf.wwd.closeAt) then (s.wwdRestart true)
  else ((s.wwdRestart false).fault 0x70 c)

/-- SNF_WWDKICK (R63). -/
def execSnfWwdkick (v : Word) (s : State) : Res := .next (s.ownCommand SNF_WWDKICK (fun s => s.wwdKick v))

/-- The windowed watchdog's count reaches CLOSE (R63). -/
def State.wwdClose (s : State) : State := (s.wwdRestart false).fault 0x70 s.snf.wwd.closeAt

/-- WINDOWED_WATCHDOG_CLOSE (R63). -/
def execWindowedWatchdogClose (s : State) : Res := .next (if s.wdCounts then s.wwdClose else s)

/-- The answer that a question calls for (R64). -/
def qaAnswer (q : BitVec 8) : Word :=
  let a : BitVec 8 := q ^^^ 0x3C
  let b : BitVec 8 := ~~~ q
  let c : BitVec 8 := (q.rotateLeft 1) ^^^ 0x5A
  let d : BitVec 8 := q + 0x69
  d ++ c ++ b ++ a

/-- The next question (R64). -/
def qaNext (q : BitVec 8) : BitVec 8 :=
  (q <<< 1) ||| (BitVec.ofBool ((q.getLsbD 7).xor ((q.getLsbD 5).xor ((q.getLsbD 4).xor (q.getLsbD 3))))).setWidth 8

/-- The question offered. -/
def State.question (s : State) : BitVec 8 := (s.rd SNF_QAWQ).setWidth 8

/-- The effect of SNF_QAWANS (R64): the right answer inside the window advances the question and restarts the count; anything else raises
0x71, restarts the count and leaves the question. -/
def State.qawAnswer (s : State) (v : Word) : State :=
  let c := s.get ⟨SNF_QAWCNT, 0, 16⟩
  if !s.snf.wdRun || s.pstate < 4 then s
  else if v = qaAnswer s.question && decide (s.snf.qaw.openAt ≤ c) && decide (c < s.snf.qaw.closeAt) then
    ((s.qawRestart true).wr SNF_QAWQ ((qaNext s.question).setWidth 32))
  else ((s.qawRestart false).fault 0x71 c)

/-- SNF_QAWANS (R64). -/
def execSnfQawans (v : Word) (s : State) : Res := .next (s.ownCommand SNF_QAWANS (fun s => s.qawAnswer v))

/-- The Q&A watchdog's count reaches CLOSE (R64). -/
def State.qawClose (s : State) : State := (s.qawRestart false).fault 0x71 s.snf.qaw.closeAt

/-- QA_WATCHDOG_CLOSE (R64). -/
def execQaWatchdogClose (s : State) : Res := .next (if s.wdCounts then s.qawClose else s)

/-- A write of watchdog limits (R65): CLOSE and then OPEN, OPEN Legal from 0 to CLOSE − 1, each clamped to the sealed value;
the running count keeps the window latched at its restart. -/
def State.wdCfgWrite (s : State) (a : Nat) (v : Word) : State :=
  if !s.isSealed then s.clamped a
  else
    let c0 := fld v 0 16
    let c1 := min (max c0 1) (fld (s.latched a) 0 16)
    let o0 := fld v 16 16
    let o1 := max (min o0 (c1 - 1)) (fld (s.latched a) 16 16)
    (s.wr a (BitVec.ofNat 32 (c1 + o1 * 65536))).clampIf (c1 != c0 || o1 != o0) a

/-- SNF_WDCFG_WRITE (R65). -/
def execSnfWdcfgWrite (m : Master) (qa : Bool) (v : Word) (s : State) : Res :=
  let a := if qa then SNF_QAWCFG else SNF_WWDCFG
  .next (s.regCommand m a (fun s => s.wdCfgWrite a v))

/-! ## Error injection -/

/-- The effect of FLT_INJKEY (R70): the key opens the window; any other value closes it. -/
def State.injKey (s : State) (v : Word) : State := { s with flt := { s.flt with keyOpen := v == 0x1A7E } }

/-- FLT_INJKEY (R70). -/
def execFltInjkey (v : Word) (s : State) : Res := .next (s.ownCommand FLT_INJKEY (fun s => s.injKey v))

/-- INJKEY_EXPIRY (R70): the window closes 16 CCLK after the key. -/
def execInjkeyExpiry (s : State) : Res := .next { s with flt := { s.flt with keyOpen := false } }

/-- The argument names only what Table 2.6 gives the method, and a unit that is in service (R71). With bit [8] at 1 (RL, SN) the
unit bits name no unit and are not judged (DESIGN CHOICE, log entry 122). -/
def State.injLegal (s : State) (row : FaultRow) (arg : Nat) : Bool :=
  let copy := arg / 256 % 4
  match row.inject with
  | .lv =>
    if row.id == 0x08 then decide (arg < 1024) && decide (arg % 256 < 128) && decide (copy < 2)
    else decide (arg < (if row.id == 0x02 then 2048 else 1024)) && decide (copy < 3) && s.copyIn copy
  | .ls => arg % 256 / 32 == 0 && decide (arg < 1024) && decide (copy < 3) && s.copyIn copy
  | .lt => decide (arg < 2)
  | .rk => decide (arg < 256)
  | .dr => decide (arg < 4096)
  | .be => arg == 0
  | .mc => decide (arg < 8192)
  | .ec => decide (1 ≤ arg) && decide (arg ≤ 3)
  | .ie => arg == 0
  | .cc => if arg == 0x100 then true else decide (arg < 256) && s.is (CE_QCFG_EN arg) && s.get (CE_QCFG_TYPE arg) != 0
  | .pt => decide (arg < 1024) && arg / 16 % 16 == 0 && s.get (PORT_CFG_PERS (arg % 16)) != 0
  | .sc => decide (arg < 512) && arg / 128 % 2 == 0 && s.is (MON_CFG_EN (arg % 128))
  | .ad => arg / 2 % 128 == 0 && decide (arg < 512)
  | .rl => decide (arg < 512) && arg / 64 % 4 == 0 && (arg / 256 == 1 || decide (arg % 64 < s.get RING_STAT_N))
  | .ts => decide (arg ≤ 0x12) && (decide (16 ≤ arg) || s.get (PORT_CFG_PERS arg) != 0)
  | .cm => decide (arg ≤ 5)
  | .sv => arg == 0
  | .sn => arg / 32 % 8 == 0 && decide (arg < 512) && (decide (256 ≤ arg) || (decide (arg < 24) && s.is (SNF_OCFG_USED arg)))
  | .co => arg == 0

/-- The injection as its method and argument select it (Table 2.6): the selectors of LT, CC, SC, AD, RL, CM and SN name the
mechanism, whichever of the method's IDs was written. -/
def injSelect (row : FaultRow) (arg : Nat) : Injection :=
  match row.inject with
  | .lt => ⟨if arg = 1 then 0x09 else 0x04, arg⟩
  | .cc => ⟨if arg = 0x100 then 0x53 else 0x30, arg⟩
  | .sc => ⟨if 256 ≤ arg then 0x41 else 0x42, arg⟩
  | .ad => ⟨if 256 ≤ arg then 0x44 else 0x43, arg⟩
  | .rl => ⟨if 256 ≤ arg then 0x54 else 0x55, arg⟩
  | .cm => ⟨if arg < 4 then 0x60 + arg else 0x64, arg⟩
  | .sn => ⟨if 256 ≤ arg then 0x76 else 0x75, arg⟩
  | _ => ⟨row.id, arg⟩

/-- The effect of FLT_INJ (R70, R71): inside the key's window the injection takes effect: method CO raises the ID at the collector, the
others wait for the checked data. Three points the spec leaves open are the model's choice (log entry 90): an ID whose row says
Precise is raised by CO as not precise, so it takes no exception and sets FLT_STAT.NINT; a CO injection names no unit, so
a class of Isolate isolates nothing; and the record of a CO-injected ID carries DETAIL 0. -/
def State.inject (s : State) (v : Word) : State :=
  let s' := { s with flt := { s.flt with keyOpen := false } }
  if !s.flt.keyOpen then s
  else if !s.is FLT_CFG_INJEN || !(s.get KS_LC_STATE == 1 || s.get KS_LC_STATE == 2) then s'
  else match faultRow (fld v 0 8) with
    | none => s'
    | some row =>
      let arg := fld v 16 16
      if !s.injLegal row arg then (s'.clamped FLT_INJ)
      else if row.inject = .co then (s'.raise ⟨row.id, 0, none, true, false⟩)
      else { s' with flt := { s'.flt with inj := s'.flt.inj ++ [injSelect row arg] } }

/-- FLT_INJ (R70, R71). -/
def execFltInj (m : Master) (v : Word) (s : State) : Res := .next (s.regCommand m FLT_INJ (fun s => s.inject v))

/-- The waiting injections that end with a timed injection. -/
def timedOf (k : TimedInj) (i : Injection) : Bool :=
  match k with
  | .heartbeats => i.id == 0x54 || i.id == 0x55 || i.id == 0x56
  | .supply => decide (0x65 ≤ i.id) && decide (i.id ≤ 0x68)
  | .mismatch o => i.id == 0x75 && i.arg == o.toNat

/-- INJECTION_EXPIRY (R71, Table 2.6): a timed injection ends and the checked path is as before. -/
def execInjectionExpiry (k : TimedInj) (s : State) : Res :=
  .next { s with flt := { s.flt with inj := s.flt.inj.filter (fun i => !timedOf k i) } }

/-! ## The Snuffer's AOCLK cycle -/

/-- One AOCLK of one watchdog: 256 make a unit, and the unit that reaches CLOSE closes the window. -/
def State.wwdTick (s : State) : State :=
  if !s.wdCounts then s
  else if s.snf.wwd.sub + 1 < 256 then { s with snf := { s.snf with wwd := { s.snf.wwd with sub := s.snf.wwd.sub + 1 } } }
  else
    let c := s.get ⟨SNF_WWDCNT, 0, 16⟩ + 1
    if s.snf.wwd.closeAt ≤ c then s.wwdClose
    else { s.wr SNF_WWDCNT (BitVec.ofNat 32 c) with snf := { s.snf with wwd := { s.snf.wwd with sub := 0 } } }

/-- One AOCLK of the Q&A watchdog. -/
def State.qawTick (s : State) : State :=
  if !s.wdCounts then s
  else if s.snf.qaw.sub + 1 < 256 then { s with snf := { s.snf with qaw := { s.snf.qaw with sub := s.snf.qaw.sub + 1 } } }
  else
    let c := s.get ⟨SNF_QAWCNT, 0, 16⟩ + 1
    if s.snf.qaw.closeAt ≤ c then s.qawClose
    else { s.wr SNF_QAWCNT (BitVec.ofNat 32 c) with snf := { s.snf with qaw := { s.snf.qaw with sub := 0 } } }

/-- One AOCLK of an armed unsnuff (R61). -/
def State.armTick (s : State) : State :=
  if !s.is SNF_STAT_ARMED then s
  else
    let s := { s with snf := { s.snf with armAge := s.snf.armAge + 1 } }
    if 1600 < s.snf.armAge then s.unsRefuse 4 0 0 else s

/-- One AOCLK of the outputs below `n`: hold-offs count down and commanded levels age. -/
def State.outsTick (s : State) : Nat → State
  | 0 => s
  | n + 1 =>
    let s := s.outsTick n
    let s := { s with snf := { s.snf with
      levelAge := Store.set (fun _ => 0) s.snf.levelAge n (satAdd (Store.get (fun _ => 0) s.snf.levelAge n) 1 16) } }
    if !bitOf s.snf.holding n then s
    else
      let l := Store.get (fun _ => 0) s.snf.holdLeft n
      if l ≤ 1 then s.releaseOut n
      else { s with snf := { s.snf with holdLeft := Store.set (fun _ => 0) s.snf.holdLeft n (l - 1) } }

/-- One AOCLK since the last Reset reaction: RSTCNT clears at 16,000,000 (R38). -/
def State.rstTick (s : State) : State :=
  let a := s.flt.rstAge + 1
  let s := { s with flt := { s.flt with rstAge := a } }
  if a = 16000000 then s.put FLT_STAT_RSTCNT 0 else s

/-- One AOCLK of the Snuffer and the collector; none where AOCLK is lost or the device is in WICK or DARK. -/
def State.snfTick (s : State) : State :=
  if s.snf.clockLost || s.pstate < 2 then s
  else ((((s.armTick).outsTick 24).wwdTick).qawTick).rstTick

end Sys2Proof.Machine
end

