-- ==== Sys2Proof/Machine/Boot.lean ====
section
/-! DEFINITION. Starts, self-tests, OTP and lifecycle, the key journal and its update, the vendor patch and its update, and debug
unlock (spec/17; the patch container spec/06, R166 to R168). -/
namespace Sys2Proof.Machine

/-- A change of the KS block's internals. -/
def State.onKs (s : State) (f : Ks → Ks) : State := { s with ks := f s.ks }

/-! ## OTP (R470 to R475) -/

/-- The lifecycle (R471): the highest group with a bit programmed. -/
def Otp.state (o : Otp) : Nat :=
  if o.lc / 256 % 16 ≠ 0 then 3 else if o.lc / 16 % 16 ≠ 0 then 2 else if o.lc % 16 ≠ 0 then 1 else 0

/-- Root `r` is programmed. -/
def Otp.hasRoot (o : Otp) (r : Nat) : Bool := o.roots / 2 ^ r % 2 == 1

/-- Root `r` is revoked. -/
def Otp.isRevoked (o : Otp) (r : Nat) : Bool := o.revoked / 2 ^ r % 2 == 1

/-- Root `r` is programmed and not revoked. -/
def Otp.rootGood (o : Otp) (r : Nat) : Bool := o.hasRoot r && !o.isRevoked r

/-- The hash of root `r`. -/
def Otp.hash (o : Otp) (r : Nat) : List Byte := if r = 0 then o.hash0 else o.hash1

/-- C4 (R471, R473): the OTP is read into the KS block, the UID into the Ring block; BLANK gives an unlock. -/
def State.otpLoad (s : State) (corr : Nat) : State :=
  let o := s.ks.otp
  let s := s.wr KS_LC (BitVec.ofNat 32 (o.state + o.roots % 4 * 256 + o.revoked % 4 * 1024 + min corr 255 * 65536))
  let s := (s.wr RING_UIDL (BitVec.ofNat 32 o.uid)).wr RING_UIDH (BitVec.ofNat 32 (o.uid / 2 ^ 32))
  let s := s.put KS_RBCNT_COUNT (thermoCount o.thermo 64 0)
  if o.state = 0 then s.put KS_UNLSTAT_ACTIVE 1 else s

/-- The conditions of an OTP command (Tables 17.6 and 17.7, R475): the failure code, or 0. -/
def State.otpRefusal (s : State) (op : Nat) : Nat :=
  let o := s.ks.otp
  let lc := s.get KS_LC_STATE
  if op = 1 || op = 2 then (if lc ≤ 1 && !o.hasRoot (op - 1) then 0 else 2)
  else if op = 3 || op = 4 then (if (lc = 1 || lc = 2) && o.rootGood (4 - op) then 0 else 3)
  else
    let t := fld (s.rd (KS_OTPDATA 0)) 0 2
    if (lc = 0 && t = 1 && (o.rootGood 0 || o.rootGood 1)) || (lc = 1 && t = 2 && s.isSealed) || (lc = 1 && t = 3) ||
        (lc = 2 && t = 3 && s.unlocked) then 0 else 4

/-- A write of KS_OTPCMD (R474): another key or operation, or one written while an OTP command, a key or patch update or a
firmware flash operation runs, is ignored and counts. -/
def State.otpCommand (s : State) (v : Word) : State :=
  let op := fld v 0 4
  if fld v 16 16 != 0x4F54 || op = 0 || 5 < op || s.is KS_OTPSTAT_BUSY || s.is KS_KSTAT_BUSY || s.is KS_PSTAT_BUSY ||
      s.is FLC_STAT_BUSY then s.clamped KS_OTPCMD
  else
    let k := s.otpRefusal op
    if k ≠ 0 then s.put KS_OTPSTAT_RESULT k
    else
      let d := [0, 1, 2, 3, 4, 5, 6, 7].map (fun n => s.rd (KS_OTPDATA n))
      (s.put KS_OTPSTAT_BUSY 1).onKs (fun ks => { ks with run := some ⟨op, d⟩ })

/-- PROGRAM_ROOT (R474). -/
def execProgramRoot (m : Master) (v : Word) (s : State) : Res := .next (s.regCommand m KS_OTPCMD (fun s => s.otpCommand v))

/-- REVOKE_ROOT (R474). -/
def execRevokeRoot (m : Master) (v : Word) (s : State) : Res := .next (s.regCommand m KS_OTPCMD (fun s => s.otpCommand v))

/-- ADVANCE_LIFECYCLE (R475). -/
def execAdvanceLifecycle (m : Master) (v : Word) (s : State) : Res := .next (s.regCommand m KS_OTPCMD (fun s => s.otpCommand v))

/-- A bit of a mask set. -/
def setBit (m k : Nat) : Nat := m ||| 2 ^ k

/-- The OTP after an OTP command has programmed its bits. -/
def Otp.program (o : Otp) (r : OtpRun) : Otp :=
  if r.op = 1 then { o with hash0 := wordsBytes r.data, roots := setBit o.roots 0 }
  else if r.op = 2 then { o with hash1 := wordsBytes r.data, roots := setBit o.roots 1 }
  else if r.op = 3 then { o with revoked := setBit o.revoked 0 }
  else if r.op = 4 then { o with revoked := setBit o.revoked 1 }
  else { o with lc := o.lc ||| 15 * 2 ^ (4 * (fld (r.data.getD 0 0) 0 2 - 1)) }

/-- The OTP after an OTP command cut short by a start: which bits were programmed is the free value `v` (R471, spec/17,
Edges). -/
def Otp.programCut (o : Otp) (r : OtpRun) (v : Word) : Otp :=
  let part := (wordsBytes r.data).take (fld v 0 5) ++ List.replicate (32 - fld v 0 5) 0
  let done := bitOf v 31
  if r.op = 1 then { o with hash0 := part, roots := if done then setBit o.roots 0 else o.roots }
  else if r.op = 2 then { o with hash1 := part, roots := if done then setBit o.roots 1 else o.roots }
  else if r.op = 3 then { o with revoked := if done then setBit o.revoked 0 else o.revoked }
  else if r.op = 4 then { o with revoked := if done then setBit o.revoked 1 else o.revoked }
  else { o with lc := o.lc ||| fld v 0 4 * 2 ^ (4 * (fld (r.data.getD 0 0) 0 2 - 1)) }

/-- OTP_PROGRAM_DONE (R474, R475): a new lifecycle takes effect at the next cold start. -/
def execOtpProgramDone (s : State) : Res :=
  .next (match s.ks.run with
    | none => s
    | some r =>
      ((s.onKs (fun ks => { ks with run := none, otp := ks.otp.program r })).put KS_OTPSTAT_BUSY 0).put KS_OTPSTAT_RESULT 1)

/-! ## The key journal (R476, R477) -/

/-- The first byte of journal sector `j`. -/
def journalBase (j : Nat) : Nat := 0x240000 + 0x2000 * j

/-- The record of sector `j` with its digest and commit marker, as read. -/
def State.journalBytes (s : State) (j : Nat) : List Byte := wordsBytes (s.lampWords (journalBase j) 120)

/-- Every byte of a range is zero. -/
def zeros (b : List Byte) (off n : Nat) : Bool := ((b.drop off).take n).all (fun x => x == 0)

/-- The class of a sector (R477): 0 erased, 1 valid, 2 other. -/
def State.journalClass (s : State) (j : Nat) : Nat :=
  if s.linesErased (journalBase j) 256 then 0
  else
    let b := s.journalBytes j
    if bytesNat (b.take 4) = 0x4A524E4C && bytesNat ((b.drop 4).take 2) = 1 && zeros b 6 2 && zeros b 0x0C 20 &&
        [0, 1, 2, 3].all (fun k => zeros b (0x2C + 0x60 * k) 20) && sha256 (b.take 0x1A0) == (b.drop 0x1A0).take 32 &&
        (b.drop 0x1C0) == wordsBytes (List.replicate 8 0xA55A0FF0) then 1
    else 2

/-- JGEN of a record. -/
def recGen (b : List Byte) : Nat := bytesNat ((b.drop 8).take 4)

/-- The active record is shown in KS_JGEN, KS_SLOTSTk and KS_SLOTGENk. -/
def State.showRecord (s : State) (b : List Byte) : State :=
  let s := (s.onKs (fun ks => { ks with record := b })).wr KS_JGEN (BitVec.ofNat 32 (recGen b))
  [0, 1, 2, 3].foldl (fun s k =>
    let r := b.drop (0x20 + 0x60 * k)
    let st := bytesNat (r.take 4)
    (s.wr (KS_SLOTST k) (BitVec.ofNat 32 ((if st = 1 then 1 else 0) + bytesNat ((r.drop 8).take 4) % 2 * 2))).wr (KS_SLOTGEN k)
      (BitVec.ofNat 32 (bytesNat ((r.drop 4).take 4)))) s

/-- C7 (R477). -/
def State.journalStep (s : State) : State :=
  let c0 := s.journalClass 0
  let c1 := s.journalClass 1
  let b0 := s.journalBytes 0
  let b1 := s.journalBytes 1
  let s := (s.lampLines (journalBase 0) 15).lampLines (journalBase 1) 15
  let s := (s.put KS_KSTAT_JST0 c0).put KS_KSTAT_JST1 c1
  if c0 = 1 && !(c1 = 1 && recGen b0 < recGen b1) then (s.put KS_KSTAT_ACTIVE 0).showRecord (b0.take 0x1A0)
  else if c1 = 1 then (s.put KS_KSTAT_ACTIVE 1).showRecord (b1.take 0x1A0)
  else if c0 = 2 || c1 = 2 then s.fault 0x74 (b2n (c0 = 2) + b2n (c1 = 2) * 2)
  else s

/-! ## The vendor patch (R166 to R168) -/

/-- The first byte of the patch area (Table 9.3). -/
def patchBase : Nat := 0x40000

/-- PLEN of a container. -/
def patchLen (b : List Byte) : Nat := bytesNat ((b.drop 0x14).take 4)

/-- NWORDS of a container. -/
def patchNw (b : List Byte) : Nat := bytesNat ((b.drop 0x10).take 2)

/-- NMATCH of a container. -/
def patchNm (b : List Byte) : Nat := bytesNat ((b.drop 0x12).take 2)

/-- Step 2: the container's format (Table 6.10). -/
def patchFormat (b : List Byte) : Bool :=
  bytesNat (b.take 4) = 0x3150434D && bytesNat ((b.drop 4).take 2) = 1 && zeros b 6 2 && zeros b 0x34 12 &&
  decide (patchNw b ≤ 1024) && decide (patchNm b ≤ 64) && patchLen b == 4 * patchNm b + 18 * patchNw b

/-- Step 4: the signature over the header and the ciphertext. -/
def patchSigned (b : List Byte) : Bool :=
  ecdsaVerify Config.patchKey (sha256 (b.take (0x40 + patchLen b))) ((b.drop (0x40 + patchLen b)).take 64)

/-- Step 5: the payload. -/
def patchOpen (key b : List Byte) : Option (List Byte) :=
  gcmDecrypt key ((b.drop 0x18).take 12) (b.take 0x18) ((b.drop 0x40).take (patchLen b)) ((b.drop 0x24).take 16)

/-- The match entries of a payload. -/
def patchMatches (b p : List Byte) : List Word := bytesWords (p.take (4 * patchNm b))

/-- The microwords of a payload. -/
def patchWords (b p : List Byte) : List MWord :=
  (List.range (patchNw b)).map (fun k => BitVec.ofNat 144 (bytesNat ((p.drop (4 * patchNm b + 18 * k)).take 18)))

/-- Step 6: each match entry is in force, points into the patch, and no two redirect one micro-address. -/
def matchesOk (b p : List Byte) : Bool :=
  let l := patchMatches b p
  l.all (fun e => bitOf e 31 && fld e 22 9 == 0 && decide (fld e 12 10 < patchNw b)) && decide (l.map (fun e => fld e 0 12)).Nodup

/-- Match entries written to MC_PMn from `k` on. -/
def State.loadMatches (s : State) (k : Nat) : List Word → State
  | [] => s
  | e :: t => (s.wrMc (MC_PM k) e).loadMatches (k + 1) t

/-- A failed patch step: its code, and fault 0x73. -/
def State.patchFail (s : State) (code : Nat) : State := (s.put MC_PSTAT_RESULT code).fault 0x73 0

/-- C8: the container is processed in the order of R167. -/
def State.patchStep (s : State) : State :=
  let hd := wordsBytes (s.lampWords patchBase 16)
  if bytesNat (hd.take 4) = 0xFFFFFFFF then (s.lampLines patchBase 2).put MC_PSTAT_ABSENT 1
  else if !patchFormat hd then (s.lampLines patchBase 2).patchFail 1
  else if bytesNat ((hd.drop 8).take 4) ≠ (s.rd MC_ROMID).toNat || bytesNat ((hd.drop 12).take 4) < s.get MC_PSTAT_PMIN then
    (s.lampLines patchBase 2).patchFail 2
  else
    let n := 0x40 + patchLen hd + 64
    let b := (wordsBytes (s.lampWords patchBase ((n + 3) / 4))).take n
    let s := s.lampLines patchBase ((n + 31) / 32)
    if !patchSigned b then s.patchFail 3
    else match patchOpen s.ks.otp.patchKey b with
      | none => s.patchFail 4
      | some p =>
        if !matchesOk b p then s.patchFail 5
        else if !(patchWords b p).all (fun w => mf w 0 8 == 0 && !mwReserved w) then s.patchFail 6
        else
          let s := (s.loadWords 0x1000 (patchWords b p)).loadMatches 0 (patchMatches b p)
          let s := (s.put MC_PSTAT_LOADED 1).wr MC_PVER (BitVec.ofNat 32 (bytesNat ((b.drop 12).take 4)))
          (s.put MC_PCOUNT_NWORDS (patchNw b)).put MC_PCOUNT_NMATCH (patchNm b)

/-! ## Self-tests (R467 to R469) -/

/-- A copy that fails its self-test is retired, with fault 0x06 (R467). -/
def State.testCopies (s : State) (pass : Nat) : Nat → State
  | 0 => s
  | n + 1 =>
    let s := s.testCopies pass n
    if pass / 2 ^ n % 2 = 1 || s.get LNT_STAT_RETIRED / 2 ^ n % 2 = 1 then s
    else (s.put LNT_STAT_RETIRED (setBit (s.get LNT_STAT_RETIRED) n)).fault 0x06 (2 ^ n)

/-- The copy self-test and the Lantern BIST with their record in KS_BOOT (R467, R468). -/
def State.selfTests (s : State) (r : StartRun) : State :=
  let s := (s.put KS_BOOT_COPYOK r.copies.toNat).testCopies r.copies.toNat 3
  let s := (s.flag KS_BOOT_LNTC r.lntC).flag KS_BOOT_LNTE r.lntE
  let s := if r.lntC then s else s.fault 0x04 0
  if r.lntE then s else s.fault 0x09 0

/-- The memory BIST holds the device in the Snuffer-only hold (Table 17.4). -/
def bistHolds : List BistFail → Bool
  | [] => false
  | .scratchpad :: _ => true
  | .hostBuffer :: _ => true
  | _ :: t => bistHolds t

/-- The memory BIST found an SRAM bank faulty (R67). -/
def bistLimp : List BistFail → Bool
  | [] => false
  | .sram _ :: _ => true
  | _ :: t => bistLimp t

/-- The faults that the memory BIST raises (Table 17.4). -/
def State.bistFaults (s : State) : List BistFail → State
  | [] => s
  | .sram a :: t => (s.fault 0x21 a.toNat).bistFaults t
  | .ledger a :: t => (s.fault 0x21 a.toNat).bistFaults t
  | .partner a :: t => (s.fault 0x21 a.toNat).bistFaults t
  | _ :: t => s.bistFaults t

/-- The number of healthy copies. -/
def State.healthyCount (s : State) : Nat := popN 3 s.healthy

/-! ## Starts -/

/-- The copies after a start (Table 17.3): LIMP serves one copy; TRIO needs three, PAIR takes two. -/
def State.serveStart (s : State) : State :=
  if s.limp then (s.put LNT_MODE_MODE 0).serve (svcOf s.healthy 0)
  else
    let s := if s.lmode == 2 && s.healthyCount < 3 then s.put LNT_MODE_MODE 1 else s
    s.serve (svcOf s.healthy s.lmode)

/-- C11 and W4 (R464): the reset vector's line is read, the copies in service start at the reset vector, the watchdogs from
count 0. `limp`: the device enters LIMP. -/
def State.releaseCores (s : State) (limp : Bool) (cycles : Word) : State :=
  let v := s.memRead 0x46000 false false
  let s := (v.st.wr KS_BOOTCYC cycles).onPm (fun p => { p with due := 0 })
  if v.err.isSome then s.snufferOnly
  else
    let s := if limp && !s.limp then s.enterLimp else s
    let s := (s.coreReset false).serveStart.onCore (fun c => { c with cycle := 0 })
    let s := (s.snuff 0xFFFFFF).wdRestart
    ({ s with snf := { s.snf with wdRun := true } }.logFlush.logCheck s).haltPending

/-- C10 or W2 and W3, and the release: the control store passes its scanner; no copy left, or a memory of the minimum set, gives
the Snuffer-only hold; one copy LIMP. -/
def State.testAndRelease (s : State) (r : StartRun) (cold limp : Bool) : State :=
  let s := (s.selfTests r).scanPass
  let s := s.flag KS_BOOT_MEMOK (!cold || r.bist.isEmpty)
  let s := if cold then s.bistFaults r.bist else s
  if s.healthyCount = 0 || (cold && bistHolds r.bist) then s.snufferOnly
  else s.releaseCores (limp || s.healthyCount = 1 || (cold && bistLimp r.bist)) r.cycles

/-- Programming that a start cuts short leaves what it had done (R453, R471, R240): which part is a free value. -/
def State.cutPrograms (s : State) : State :=
  let s := match s.ks.run with
    | none => s
    | some r =>
      let v := s.freeVal
      s.freed.onKs (fun ks => { ks with run := none, otp := ks.otp.programCut r v })
  let s := match s.ks.target with
    | none => s
    | some t =>
      let c := s.get KS_RBCNT_COUNT
      let v := s.freeVal
      s.freed.onKs (fun ks => ks.fill (c + v.toNat % (t - c + 1)))
  match s.memi.flash with
  | none => s
  | some o =>
    if o.op = 1 then s.flashUndefined (o.addr / 32 * 32) 8
    else if o.op = 2 then s.flashUndefined (o.addr / 8192 * 8192) 2048
    else s

/-- A register keeps its value through a cold start: the Wick block, and what shows the supplies, the sources of the wake and
the pins. -/
def coldKeep (a : Nat) : Bool :=
  a / 4096 == 0x4000C || a == PM_WAKESRC || a == PM_SUPPLY || a == GP_IN 0 || a == GP_IN 1

/-- The start's record in PM_STAT (spec/15): the state left, that it was cold; a return from a state below LIT is an exit, with
RESET_N its source where it was low (R420, R422). -/
def State.coldStat (s : State) (from' cause : Nat) : State :=
  let s := ((s.put PM_STAT_STATE 5).put PM_STAT_LAST from').put PM_STAT_COLD 1
  if cause = 1 && from' = 5 then s
  else
    let s := if cause = 1 then s.wr PM_WAKESRC (s.rd PM_WAKESRC ||| bit 13) else s
    ((s.put PM_STAT_RESULT (b2n (cause ≠ 0))).put PM_IRQ_DONE 1).freed.put PM_EXITCYC_V s.freeVal.toNat

/-- Everything that a cold start returns to its reset value, before its steps run: kept are flash, the OTP, the Wick domain,
the levels of the pins and the supplies, and at RESET_N what the TAP has loaded. -/
def State.coldBase (s : State) (cause : Nat) (straps : BitVec 4) : State :=
  let from' := if cause = 0 then 0 else s.pstate
  let t : State := { State.reset with
    pending := s.pending
    regs := s.regs.filter (fun p => coldKeep p.1)
    mem := s.mem.filter (fun p => inFlash p.1)
    syn := s.syn.filter (fun p => inFlash p.1)
    aoclk := s.aoclk
    freeCtr := s.freeCtr
    rdata := s.rdata
    snf := { Snf.init with supplyBad := s.snf.supplyBad }
    ring := { Ring.init with sent := s.ring.sent }
    pins := s.pins
    tap := if cause = 1 then { s.tap with acc := none, ready := true } else Tap.init
    mon := { Mon.init with input := s.mon.input, hold := s.mon.hold }
    ks := { Ks.init with otp := s.ks.otp }
    pm := { Pm.init with due := 0, pre := s.pm.pre, sec := s.pm.sec, hi := s.pm.hi, relGo := s.pm.relGo, meas := s.pm.meas } }
  let t := ((t.wr SYS_STRAP (straps.setWidth 32)).flag RING_STAT_MST (straps.getLsbD 0)).coldStat from' cause
  (t.put KS_BOOT_COLD 1).put KS_BOOT_CAUSE cause

/-- C3 (R254 to R256): the clears and their checks; 1,584 and 144 AOCLK. -/
def State.clearStep (s : State) (r : StartRun) : State :=
  let s := (s.put MEM_CLRCYC_SRAM 1584).put MEM_CLRCYC_SP 144
  let s := (s.flag MEM_STAT_CLRSP r.spOk).flag MEM_STAT_CLRSRAM r.sramOk
  if r.spOk && r.sramOk then s else (s.put MEM_STAT_CLRFAIL 1).fault 0x2B 0

/-- A cold start (Table 17.1). -/
def State.coldStart (s : State) (cause : Nat) (r : StartRun) : State :=
  let s := s.cutPrograms.coldBase cause r.straps
  if !r.romOk then s.snufferOnly
  else
    let s := s.clearStep r
    if !r.spOk then s.snufferOnly
    else
      let s := (s.otpLoad r.corr.toNat).rngReset
      let s := (s.pllStart 0 r.pllA).pllStart 1 r.pllB
      let s := s.journalStep.patchStep.imageStep
      let s := if r.pllA then s.put CLK_STAT_MULT (s.get CLK_PLLA_MULT) else s
      s.testAndRelease r true (!r.sramOk || s.is KS_IMGSEL_NOIMAGE)

/-- RESET_N (R461): held low for at least 2 µs and released; without VMAIN it has no effect. -/
def execResetN (r : StartRun) (s : State) : Res := .next (if s.pstate = 0 then s else s.coldStart 1 r)

/-- COLD_START (R462): the cold start that power-on or a wake from WICK made due. -/
def execColdStart (r : StartRun) (s : State) : Res :=
  .next (if s.pm.due = 2 then s.coldStart (if s.pstate = 1 then 2 else 0) r else s)

/-- A warm start (Table 17.2), the latches being reloaded already; from SMOULDER the SRAM banks that were off are cleared. -/
def State.warmStart (s : State) (r : StartRun) : State :=
  let smoulder := s.pm.due == 1
  let s := (s.wr KS_BOOT 0).put KS_BOOT_CAUSE (if smoulder then 4 else 5)
  let s := s.put PM_STAT_COLD 0
  let s := if smoulder then
      (let s := (s.sramLost.put MEM_CLRCYC_SRAM 1584).flag MEM_STAT_CLRSRAM r.sramOk
       if r.sramOk then s else (s.put MEM_STAT_CLRFAIL 1).fault 0x2B 0)
    else s
  let s := (s.pllStart 0 r.pllA).pllStart 1 r.pllB
  (s.testAndRelease r false (smoulder && !r.sramOk)).heldFlush

/-- WARM_START (R466): the start that holds the cluster in reset is carried out. -/
def execWarmStart (r : StartRun) (s : State) : Res :=
  .next (if s.core.inReset && s.pm.due ≠ 2 && s.lit && !s.snf.only then s.warmStart r else s)

/-! ## Key update (R478 to R480) -/

/-- The package in KS_KBUF (R478). -/
def State.package (s : State) : List Byte := wordsBytes ((List.range 56).map (fun n => s.rd (KS_KBUF n)))

/-- A field of the package, little-endian. -/
def pkgNat (b : List Byte) (off n : Nat) : Nat := bytesNat ((b.drop off).take n)

/-- Check 2 of Table 17.10. -/
def State.packageOk (s : State) (b : List Byte) : Bool :=
  let act := pkgNat b 8 4
  let key := (b.drop 0x10).take 64
  pkgNat b 0 4 == 0x4B504B31 && pkgNat b 4 2 == 1 && decide (pkgNat b 6 1 ≤ 3) && decide (pkgNat b 7 1 ≤ 1) &&
  (act == 1 || act == 2) && zeros b 0x98 8 && (if act = 1 then onCurve key else zeros b 0x10 64) &&
  (zeros b 0x90 8 || pkgNat b 0x90 8 == s.ks.otp.uid % 2 ^ 64)

/-- Checks 1 to 6 of Table 17.10: the RESULT, or 0. -/
def State.updateRefusal (s : State) (v : Word) (b : List Byte) : Nat :=
  let lc := s.get KS_LC_STATE
  let o := s.ks.otp
  let root := pkgNat b 7 1
  if fld v 16 16 != 0x4B53 || !s.lit || (lc ≠ 1 && lc ≠ 2) || s.is KS_KSTAT_BUSY || s.is FLC_STAT_BUSY || s.is KS_OTPSTAT_BUSY ||
      s.is KS_PSTAT_BUSY then 2
  else if !s.packageOk b then 3
  else if !o.rootGood root then 4
  else if sha256 ((b.drop 0x50).take 64) != o.hash root then 5
  else if !ecdsaVerify ((b.drop 0x50).take 64) (sha256 (b.take 0xA0)) ((b.drop 0xA0).take 64) then 6
  else if pkgNat b 0x0C 4 ≤ bytesNat ((s.ks.record.drop (0x24 + 0x60 * pkgNat b 6 1)).take 4) then 7
  else 0

/-- An all-empty record with JGEN 0. -/
def emptyRecord : List Byte := natBytes 4 0x4A524E4C ++ [1, 0] ++ List.replicate 410 0

/-- Bytes laid over a list from an offset. -/
def splice (b : List Byte) (off : Nat) (x : List Byte) : List Byte := b.take off ++ x ++ b.drop (off + x.length)

/-- The new record (R479): one slot replaced, JGEN one higher. -/
def newRecord (old b : List Byte) : List Byte :=
  let base := if old.isEmpty then emptyRecord else old
  let slot := natBytes 4 (if pkgNat b 8 4 = 1 then 1 else 0) ++ (b.drop 0x0C).take 4 ++ natBytes 4 (pkgNat b 7 1) ++
    List.replicate 20 0 ++ (b.drop 0x10).take 64
  splice (splice base 8 (natBytes 4 (recGen base + 1))) (0x20 + 0x60 * pkgNat b 6 1) slot

/-- Lines programmed from an address upward. -/
def State.putLines (s : State) (a : Nat) : Nat → List Word → State
  | 0, _ => s
  | n + 1, ws => (s.putLine a (ws.take 8)).putLines (a + 32) n (ws.drop 8)

/-- A write of KS_KCMD (R479): after the checks the sector that is not active is erased and its lines up to the digest are
programmed. -/
def State.keyUpdate (s : State) (v : Word) : State :=
  if !bitOf v 0 then s
  else
    let b := s.package
    let k := s.updateRefusal v b
    if k ≠ 0 then s.put KS_KSTAT_RESULT k
    else
      let j := if s.ks.record.isEmpty then 0 else 1 - s.get KS_KSTAT_ACTIVE
      let rec' := newRecord s.ks.record b
      let s := (s.eraseLines (journalBase j) 256).putLines (journalBase j) 14 (bytesWords (rec' ++ sha256 rec'))
      let s := (s.put KS_KSTAT_BUSY 1).onKs (fun ks => { ks with update := some (j, rec') })
      (s.put FLC_STAT_BUSY 1).put FLC_STAT_BANK 1

/-- KEY_UPDATE (R479). -/
def execKeyUpdate (m : Master) (v : Word) (s : State) : Res := .next (s.regCommand m KS_KCMD (fun s => s.keyUpdate v))

/-- KEY_UPDATE_DONE (R479): the COMMIT line is programmed and the new record shown; a line that does not verify gives RESULT 8
and leaves the active record. With VCORE lost nothing completes, and the sector stays Other (R480). -/
def execKeyUpdateDone (ok : Bool) (s : State) : Res :=
  .next (match (if s.pstate = 0 then none else s.ks.update) with
    | none => s
    | some (j, rec') =>
      let s := (s.onKs (fun ks => { ks with update := none })).put KS_KSTAT_BUSY 0
      let s := (s.put FLC_STAT_BUSY 0).dinval (journalBase j) (journalBase j + 0x2000)
      if !ok then s.put KS_KSTAT_RESULT 8
      else
        let s := (s.putLine (journalBase j + 0x1C0) (List.replicate 8 0xA55A0FF0)).put KS_KSTAT_RESULT 1
        ((s.put (if j = 0 then KS_KSTAT_JST0 else KS_KSTAT_JST1) 1).put KS_KSTAT_ACTIVE j).showRecord rec')

/-! ## Patch area update (R482) -/

/-- The pass ends with a result. -/
def State.passEnd (s : State) (k : Nat) : State :=
  ((s.put KS_PSTAT_BUSY 0).put KS_PSTAT_RESULT k).onKs (fun ks => { ks with pass := 0, stream := [] })

/-- A write of KS_PCMD (R482). -/
def State.patchCommand (s : State) (v : Word) : State :=
  let op := fld v 0 2
  if fld v 16 16 != 0x5043 || !s.lit || op = 0 || op = 3 || (op = 2 && !s.is KS_PSTAT_VERIFIED) || s.is KS_PSTAT_BUSY ||
      s.is KS_KSTAT_BUSY || s.is KS_OTPSTAT_BUSY || s.is FLC_STAT_BUSY then s.put KS_PSTAT_RESULT 2
  else
    let s := (s.put KS_PSTAT_BUSY 1).onKs (fun ks => { ks with pass := op, stream := [] })
    if op = 1 then s.put KS_PSTAT_VERIFIED 0
    else (s.eraseLines patchBase 768).dinval patchBase (patchBase + 0x6000)

/-- VERIFY (R482). -/
def execPatchVerify (m : Master) (v : Word) (s : State) : Res := .next (s.regCommand m KS_PCMD (fun s => s.patchCommand v))

/-- PATCH_PROGRAM (R482). -/
def execPatchProgram (m : Master) (v : Word) (s : State) : Res := .next (s.regCommand m KS_PCMD (fun s => s.patchCommand v))

/-- The end of the first pass: steps 2 to 4 of R167, and PVER at least MC_PVER. -/
def State.verifyEnd (s : State) (b : List Byte) : State :=
  let pv := bytesNat ((b.drop 12).take 4)
  if !patchFormat b then s.passEnd 3
  else if bytesNat ((b.drop 8).take 4) ≠ (s.rd MC_ROMID).toNat || pv < s.get MC_PSTAT_PMIN || pv < (s.rd MC_PVER).toNat then s.passEnd 4
  else if !patchSigned b then s.passEnd 5
  else ((s.passEnd 1).put KS_PSTAT_VERIFIED 1).onKs (fun ks => { ks with digest := sha256 b })

/-- The end of the second pass: the last line, filled with ones, and then the first line, if the digest is the one kept. -/
def State.programEnd (s : State) (ws : List Word) (b : List Byte) : State :=
  let k := ws.length % 8
  let last := ws.drop (ws.length - k)
  let s := if k = 0 then s else s.putLine (patchBase + 32 * (ws.length / 8)) (last ++ List.replicate (8 - k) 0xFFFFFFFF)
  if sha256 b == s.ks.digest then (s.putLine patchBase (ws.take 8)).passEnd 1 else s.passEnd 6

/-- The bytes of the container so far, and its length in words once the stream gives it. -/
def streamLen (ws : List Word) : Option Nat :=
  if ws.length < 6 then none
  else
    let p := (ws.getD 5 0).toNat
    if 64 * 4 + 18 * 1024 < p then some ws.length else some ((0x40 + p + 64 + 3) / 4)

/-- A flash error in the second pass (R482): result 7; what the line at `l` holds is a free value (R236). -/
def State.lineFails (s : State) (l : Nat) : State := (s.flashUndefined l 8).passEnd 7

/-- A write of KS_PDATA (R482): in the second pass each line but the first is programmed as it fills; the container's last word
ends the pass. `ok` is whether a line programmed now verifies. -/
def State.patchData (s : State) (v : Word) (ok : Bool) : State :=
  if s.ks.pass = 0 then s
  else
    let s := s.onKs (fun ks => { ks with stream := v :: ks.stream })
    let ws := s.ks.stream.reverse
    let n := ws.length
    let fills := s.ks.pass = 2 && n % 8 = 0 && 8 < n
    if fills && !ok then s.lineFails (patchBase + 32 * (n / 8 - 1))
    else
    let s := if fills then s.putLine (patchBase + 32 * (n / 8 - 1)) (ws.drop (n - 8)) else s
    match streamLen ws with
    | none => s
    | some k =>
      if n < k then s
      else
        let b := (wordsBytes ws).take (0x40 + (ws.getD 5 0).toNat + 64)
        if s.ks.pass = 1 then s.verifyEnd b else if ok then s.programEnd ws b else s.lineFails (patchBase + 32 * ((n - 1) / 8))

/-- KS_PDATA (R482). -/
def execKsPdata (m : Master) (x : PatchWord) (s : State) : Res :=
  .next (s.regCommand m KS_PDATA (fun s => s.patchData x.word x.ok))

/-! ## Debug unlock (R483 to R485) -/

/-- UNLCHAL captured (R483): a new challenge while entropy is ready; the nonce is a generate request of its own. -/
def State.challenge (s : State) : State :=
  if !s.is RNG_STAT_READY || !s.rngOn then s.put KS_UNLSTAT_RES 9
  else
    let cnt := s.ks.chalCnt + 1
    let ver := if s.is KS_IMGSEL_APPLIED then s.rd (KS_IVER (s.get KS_IMGSEL_SLOT)) else 0
    let c := wordsBytes ([0x4B4C4E55, s.rd RING_UIDL, s.rd RING_UIDH, BitVec.ofNat 32 (s.get KS_LC_STATE), ver,
      BitVec.ofNat 32 cnt] ++ s.rng.block)
    let s := s.rngServed.onKs (fun ks => { ks with chal := c, chalAt := s.aoclk, chalCnt := cnt })
    s.put KS_UNLSTAT_CHAL 1

/-- UNLCHAL (R483, R518): the capture holds the challenge, byte 0 lowest, or zeros. -/
def execUnlchal (s : State) : Res :=
  .next (if !s.tapOn then s
    else
      let ok := s.is RNG_STAT_READY && s.rngOn
      let s := s.challenge
      s.tapSelect .unlchal (if ok then BitVec.ofNat 520 (bytesNat s.ks.chal) else 0))

/-- The bytes of UNLRESP, byte 0 in the lowest bits (R518). -/
def respBytes (dr : BitVec 520) : List Byte := natBytes 65 dr.toNat

/-- The result of a response (R484). -/
def State.unlockResult (s : State) (slot : Nat) (sig : List Byte) : Nat :=
  if s.get KS_LC_STATE ≠ 2 then 7
  else if s.is KS_UNLCTL_DENY then 6
  else if 3 ≤ s.get KS_UNLSTAT_FAILS then 8
  else if !s.is KS_UNLSTAT_CHAL then 2
  else if 160000000 < s.aoclk - s.ks.chalAt then 3
  else if !s.is KS_IMGSEL_APPLIED ||
      !(slot = s.get KS_IMGKEY_KEY0 || (s.is KS_IMGKEY_ROT && slot = s.get KS_IMGKEY_KEY1)) || (s.ks.keyOf slot).isNone then 4
  else if !s.ks.verifies slot (sha256 (s.ks.chal ++ [BitVec.ofNat 8 slot])) sig then 5
  else 1

/-- The effect of a response (R484, R485): the challenge is withdrawn; results 2 to 5 raise 0x78 and count as failures. -/
def State.response (s : State) (dr : BitVec 520) : State :=
  let b := respBytes dr
  let slot := (b.headD 0).toNat
  let k := s.unlockResult slot (b.drop 1)
  let s := ((s.put KS_UNLSTAT_RES k).put KS_UNLSTAT_CHAL 0).onKs (fun ks => { ks with chal := [] })
  if k = 1 then (s.put KS_UNLSTAT_ACTIVE 1).put KS_UNLSTAT_SLOT slot
  else if decide (2 ≤ k) && decide (k ≤ 5) then (s.put KS_UNLSTAT_FAILS (min 3 (s.get KS_UNLSTAT_FAILS + 1))).fault 0x78 0
  else s

/-- UNLRESP (R484, R518): its capture loads the result before the response is taken. -/
def execUnlresp (dr : BitVec 520) (s : State) : Res :=
  .next (if !s.tapOn then s
    else (s.tapSelect .unlresp (BitVec.ofNat 520 (s.get KS_UNLSTAT_RES))).response dr)

/-- A write of KS_UNLCTL by master 0 (R485): DENY stays until cold start; END ends an unlock and clears as it ends. -/
def State.unlockCtl (s : State) (m : Master) (v : Word) : State :=
  if m != .cluster then s
  else
    let s := if bitOf v 0 then s.put KS_UNLCTL_DENY 1 else s
    if bitOf v 1 then s.put KS_UNLSTAT_ACTIVE 0 else s

/-- DENY (R485). -/
def execDenyUnlock (m : Master) (s : State) : Res := .next (s.regCommand m KS_UNLCTL (fun s => s.unlockCtl m 1))

/-- END (R485). -/
def execEndUnlock (m : Master) (s : State) : Res := .next (s.regCommand m KS_UNLCTL (fun s => s.unlockCtl m 2))

end Sys2Proof.Machine
end

