-- ==== Sys2Proof/Machine/Pads.lean ====
section
/-! DEFINITION. What the safe-state outputs, the ports' pins, the GP pins, the host and management pins, CLKOUT and TDO carry,
with the boundary scan register in force or not, and what a boundary scan captures (spec/12 R319, R320, R347; spec/14 Table
14.1; spec/15 R431, R432; spec/18 Table 18.4, R515, R516). -/
namespace Sys2Proof.Machine

/-! ## The boundary scan register and the safe-state outputs -/

/-- Debug is open: the lifecycle is not PRODUCTION, or an unlock is active (R516). -/
def State.scanOpen (s : State) : Bool := s.get KS_LC_STATE != 2 || s.unlocked

/-- EXTEST, CLAMP or HIGHZ is in force. -/
def State.scanForced (s : State) : Bool := s.tapInstr == .extest || s.tapInstr == .clamp || s.tapInstr == .highz

/-- The safe-state outputs and FAULT_N are under the boundary scan register (R516). -/
def State.scanSafe (s : State) : Bool := s.scanForced && !s.tap.spare && s.scanOpen

/-- The place of a safe-state output among the scanned pins, in the order of their balls (R515, Table 18.2); 24 is FAULT_N. -/
def scanPin (n : Nat) : Nat :=
  if n ≤ 8 then 4 * n
  else if n ≤ 10 then 3 * n + 8
  else if n = 11 then 1
  else if n ≤ 19 then 4 * (n - 12) + 3
  else if n ≤ 22 then 3 * (n - 20) + 34
  else if n = 23 then 2
  else 6

/-- What the boundary scan register puts on a scanned pin, `od` telling whether it is open-drain: none for high impedance (R515,
R516). -/
def State.scanDrive (s : State) (p : Nat) (od : Bool) : Option Bool :=
  let out := s.tap.bsr.getLsbD (3 * p + 1)
  if s.tapInstr == .highz || !s.tap.bsr.getLsbD (3 * p + 2) || (od && out) then none else some out

/-- The level that the Snuffer drives on safe-state output `n`: none where it is undriven or an open-drain output is released
(R51 to R53, R499), and before the SNUFFER section is applied (R493). -/
def State.soutOwn (s : State) (n : Nat) : Option Bool :=
  if !s.outSupplied n || !s.outDriven n || (s.is (SNF_OCFG_OD n) && s.outLevel n) then none else some (s.outLevel n)

/-- The level that the device drives on safe-state output `n` (R515, R516). -/
def State.soutPin (s : State) (n : Nat) : Option Bool :=
  if s.outSupplied n && s.scanSafe then s.scanDrive (scanPin n) (s.is (SNF_OCFG_OD n)) else s.soutOwn n

/-- FAULT_N can be driven (R53, R499). -/
def State.faultSupplied (s : State) : Bool := !s.snf.supplyBad && s.pins.vio2 && decide (2 ≤ s.pstate)

/-- The level that the Snuffer drives on FAULT_N: low, or none (R56). -/
def State.faultOwn (s : State) : Option Bool := if s.faultSupplied && s.is SNF_STAT_FAULTN then some false else none

/-- The level that the device drives on FAULT_N (R56, R516). -/
def State.faultPin (s : State) : Option Bool :=
  if s.faultSupplied && s.scanSafe then s.scanDrive (scanPin 24) true else s.faultOwn

/-! ## The other pins -/

/-- What stands at a pin: what the boundary scan register puts there (none: high impedance), or the pin's own function. -/
inductive Pad (α : Type) where
  | scan (level : Option Bool)
  | own (f : α)
  deriving DecidableEq, Repr

/-- A scanned pin outside the Snuffer, `p` its place in the register, open-drain where `od`; a pin of an absent bank stays undriven
(R516). -/
def State.padOf {α : Type} (s : State) (p : Nat) (bank od : Bool) (f : α) : Pad α :=
  if s.scanForced && bank && decide (2 ≤ s.pstate) then .scan (s.scanDrive p od) else .own f

/-- Pin `k` of port `p` (R319, R516): the places follow the balls AA1 to AC20 (Table 18.1). -/
def State.portPad (s : State) (p k : Nat) : Pad PortPin :=
  s.padOf (85 + 4 * p + k) (s.portBank p) (s.twoWire p && (decide (k < 2) || (s.pers p == 3 && k == 2))) (s.portPin p k)

/-- The chip select on GP pin `n` of a port is low (R320): its port's transaction runs with the select that the register names. -/
def State.csLow (s : State) (n p : Nat) : Bool :=
  let w := s.rd (PORT_SPICFG p)
  s.pers p == 6 && (match s.portCur p with
    | some x => (x.addr % 4 == 1 && bitOf w 6 && fld w 0 6 == n) || (x.addr % 4 == 2 && bitOf w 14 && fld w 8 6 == n) ||
        (x.addr % 4 == 3 && bitOf w 22 && fld w 16 6 == n)
    | none => false)

/-- GP pin `n` is a chip select of a port that is isolated (R343). -/
def State.csIsolated (s : State) (n : Nat) : Bool :=
  (List.range 16).any (fun p =>
    let w := s.rd (PORT_SPICFG p)
    s.pers p == 6 && s.is (PORT_STAT_ISO p) && ((bitOf w 6 && fld w 0 6 == n) || (bitOf w 14 && fld w 8 6 == n) ||
      (bitOf w 22 && fld w 16 6 == n)))

/-- The level that the function owning GP pin `n` drives: none at high impedance (R347, R385, R397, Table 16.6, R320). -/
def State.gpOwn (s : State) (n : Nat) : Option Bool :=
  if !s.gpBank n || s.pstate < 2 || s.snf.only then none
  else match Store.get (fun _ => 0) s.ks.pins n with
    | 1 => if s.hostIrq && decide (3 ≤ s.pstate) then some false else none
    | 2 => none
    | 3 => if s.pstate < 3 || s.limp || s.get RING_PSTAT_ROLE == 2 || s.csIsolated n then none
      else some (!(List.range 16).any (fun p => s.csLow n p))
    | 4 => s.pairAct
    | _ =>
      let out := s.is (gpBit GP_OUT0 GP_OUT1 n)
      if !s.is (GP_CFG_OE n) || (s.is (GP_CFG_OD n) && out) then none else some out

/-- The place of GP pin `n` in the boundary scan register. -/
def gpPlace (n : Nat) : Nat := if n < 20 then 41 + n else 43 + n

/-- GP pin `n` (R347, R516); balls W1 to W20 and Y1 to Y20. -/
def State.gpPad (s : State) (n : Nat) : Pad (Option Bool) :=
  let f := Store.get (fun _ => 0) s.ks.pins n
  s.padOf (gpPlace n) (s.gpBank n) (f == 1 || (f == 0 && s.is (GP_CFG_OD n))) (s.gpOwn n)

/-- What a host or management pin carries (Table 14.1, R404). -/
inductive HostPin where
  | hiZ | sck | csN | io (n : Nat) | scl | sda
  deriving DecidableEq, Repr

/-- HOST_SCK, HOST_CS_N, HOST_IO0 to HOST_IO3 (`k` 0 to 5) by the personality (Table 14.1), at high impedance in SMOULDER and
below (R401) and until C11 of a cold start (R493); MGMT_SCL and MGMT_SDA (6, 7) while the management port runs (R406). -/
def State.hostPin (s : State) (k : Nat) : HostPin :=
  if k = 6 then (if s.mgmtOn then .scl else .hiZ)
  else if k = 7 then (if s.mgmtOn then .sda else .hiZ)
  else if !s.pins.vio1 || s.pstate < 3 || s.snf.only || s.pm.due == 2 || (s.laneTest 0x10 && s.get (TST_CTL_LOOP 0x10) == 1) then .hiZ
  else match s.hostI3c, k with
    | true, 0 => .scl
    | true, 2 => .sda
    | true, _ => .hiZ
    | false, 0 => .sck
    | false, 1 => .csN
    | false, k => .io (k - 2)

/-- A host or management pin (R516); column 2 of Table 18.2, rows H to T. -/
def State.hostPad (s : State) (k : Nat) : Pad HostPin :=
  s.padOf (5 + 4 * k) s.pins.vio1 (decide (6 ≤ k) || (s.hostI3c && (k == 0 || k == 2))) (s.hostPin k)

/-- What CLKOUT carries: nothing, low, a source divided (1 CCLK, 2 the 400 MHz of PLLB), or XTAL32 (R431). -/
inductive ClkPin where
  | hiZ | low | div (src n : Nat) | xtal
  deriving DecidableEq, Repr

/-- CLKOUT (R431, R432, Tables 15.2, 18.4): undriven without its bank and in WICK and DARK; from a PLL it is held low in EMBER and
SMOULDER and while its PLL is not locked. -/
def State.clkPin (s : State) : ClkPin :=
  let src := s.get CLK_CLKOUT_SRC
  let n := s.get CLK_CLKOUT_DIV
  if !s.pins.vio1 || s.pstate < 2 then .hiZ
  else if src = 0 then .low
  else if src = 3 then .xtal
  else if s.pstate < 4 || !s.is (if src = 1 then CLK_STAT_PLLALOCK else CLK_STAT_PLLBLOCK) then .low
  else .div src n

/-- CLKOUT as a scanned pin (R516): V2 of Table 18.2. -/
def State.clkPad (s : State) : Pad ClkPin := s.padOf 39 s.pins.vio1 false s.clkPin

/-- TDO (R510, R513, Table 18.4): the bit that a register shifts out while the TAP shifts, high impedance otherwise. -/
def State.tdoPin (s : State) (shifting : Option Bool) : Option Bool := if s.tapOn then shifting else none

/-! ## Captures -/

/-- A cell of the boundary scan register. -/
def putCell (v : BitVec 447) (i : Nat) (b : Bool) : BitVec 447 :=
  if b then v ||| BitVec.ofNat 447 (2 ^ i) else v &&& ~~~ BitVec.ofNat 447 (2 ^ i)

/-- The output and enable cells of the pin at place `p` that drives `o`. -/
def putCells (v : BitVec 447) (p : Nat) (o : Option Bool) : BitVec 447 :=
  putCell (putCell v (3 * p + 1) (o.getD false)) (3 * p + 2) o.isSome

/-- What a boundary scan captures (R515; log entry 50): the levels at the pins as given, and in the output and enable cells of the
safe-state outputs, FAULT_N and the GP pins what the device logic drives there. -/
def State.bsrCapture (s : State) (pins : BitVec 447) : BitVec 447 :=
  let v := (List.range 24).foldl (fun v n => putCells v (scanPin n) (s.soutOwn n)) pins
  let v := putCells v (scanPin 24) s.faultOwn
  (List.range 40).foldl (fun v n => putCells v (gpPlace n) (s.gpOwn n)) v

end Sys2Proof.Machine
end

