-- ==== Sys2Proof/Machine/Tap.lean ====
section
/-! DEFINITION. The supplies of the I/O banks and the TAP (spec/18). -/
namespace Sys2Proof.Machine

/-! ## Supplies of the banks -/

/-- The general-purpose pins `k` to `k + n − 1` of an absent bank read 0 (R499). -/
def State.gpFall (s : State) (k : Nat) : Nat → State
  | 0 => s
  | n + 1 => (s.gpInput k false).gpFall (k + 1) n

/-- Test-Logic-Reset (R513): IDCODE is selected. -/
def State.tapReset (s : State) : State := { s with tap := { s.tap with ir := tapCode .idcode, spare := false } }

/-- VIO_BANK_CHANGE (R499): a bank becomes present, and is classed, or absent, and its inputs read 0, TRST_N among them. -/
def execVioBankChange (bank : BitVec 1) (present hv : Bool) (s : State) : Res :=
  .next (if bank = 0 then
      let s := { s with pins := { s.pins with vio1 := present, hv1 := if present then hv else s.pins.hv1 } }
      if present then s else (s.gpFall 0 20).tapReset
    else
      let s := { s with pins := { s.pins with vio2 := present, hv2 := if present then hv else s.pins.hv2 } }
      if present then s else s.gpFall 20 20)

/-! ## The TAP -/

/-- A change of the TAP. -/
def State.onTap (s : State) (f : Tap → Tap) : State := { s with tap := f s.tap }

/-- Loading EXTEST, CLAMP or HIGHZ (R516): in PRODUCTION without an unlock it raises 0x78 and spares the safe-state outputs. -/
def State.tapForce (s : State) (i : TapInstr) : State :=
  let s := s.onTap (fun t => { t with ir := tapCode i, spare := !s.scanOpen })
  if s.scanOpen then s else s.fault 0x78 0

/-- A boundary scan captures the pins and updates its register (R515). -/
def State.scanTake (s : State) (pins scan : BitVec 447) : State :=
  let c := (s.bsrCapture pins).setWidth 520
  s.onTap (fun t => { t with bsr := scan, cap := c })

/-- EXTEST (R515, R516). -/
def execExtest (scan : ScanIn) (s : State) : Res :=
  .next (if !s.tapOn then s else (s.scanTake scan.pins scan.scan).tapForce .extest)

/-- CLAMP (R516): the outputs follow the boundary scan register as it stands; the bypass register captures 0. -/
def execTapClamp (s : State) : Res := .next (if !s.tapOn then s else (s.onTap (fun t => { t with cap := 0 })).tapForce .clamp)

/-- HIGHZ (R516). -/
def execHighz (s : State) : Res := .next (if !s.tapOn then s else (s.onTap (fun t => { t with cap := 0 })).tapForce .highz)

/-- IDCODE (R514). -/
def execIdcode (s : State) : Res := .next (if !s.tapOn then s else s.tapSelect .idcode 0xB640076B)

/-- SAMPLE/PRELOAD (R515): the pins are captured and the register is preloaded. -/
def execSamplePreload (pins scan : BitVec 447) (s : State) : Res :=
  .next (if !s.tapOn then s else (s.scanTake pins scan).tapSelect .sample ((s.bsrCapture pins).setWidth 520))

/-- BYPASS (R513). -/
def execBypass (s : State) : Res := .next (if !s.tapOn then s else s.tapSelect .bypass 0)

/-- TRST_N (R513): Test-Logic-Reset selects IDCODE. -/
def execTrstN (s : State) : Res := .next s.tapReset

/-- The 66-bit register of DBGACC as Capture-DR leaves it (R517): DATA and READY are loaded, ADDR and WRITE stay. -/
def Tap.dbgCapture (t : Tap) : BitVec 66 := BitVec.ofBool t.ready ++ (t.dbg.extractLsb' 32 33 ++ t.data)

/-- DBGACC (R517): its register is captured and shifted, and Update-DR starts an access; one while an access is in progress is
ignored. -/
def execDbgacc (write : Bool) (addr v : Word) (s : State) : Res :=
  .next (if !s.tapOn then s
    else
      let s := s.tapSelect .dbgacc (s.tap.dbgCapture.setWidth 520)
      s.onTap (fun t =>
        let t := { t with dbg := 0#1 ++ (BitVec.ofBool write ++ (addr ++ v)) }
        if t.acc.isSome then t else { t with acc := some ⟨write, addr, v, false⟩, ready := false }))

end Sys2Proof.Machine
end

