-- ==== Sys2Proof/Machine/Bus.lean ====
section
/-! DEFINITION. The peripheral registers as every master reaches them (R7–R14): what a register reads as, what reading it does,
and what a write does, each register with an effect of its own through the operation of its chapter. -/
namespace Sys2Proof.Machine

/-- The place of an address among registers in steps of `stride` from `base`. -/
def regIdx (base stride a : Nat) : Nat := (a - base) / stride

/-- An address of the range from `base`, `size` long. -/
def inRange (base size a : Nat) : Bool := decide (base ≤ a) && decide (a < base + size)

/-! ## Reading -/

/-- CE_STAT as it reads. -/
def State.ceStatView (s : State) : Word :=
  BitVec.ofNat 32 (min s.ce.ops.length 1024 + s.openCount 1024 * 2 ^ 11 + s.ce.events.length * 2 ^ 22)

/-- Bits `b` below `n` of CE_TAGMAPk. -/
def State.tagMapView (s : State) (k : Nat) : Nat → Word
  | 0 => 0
  | n + 1 => s.tagMapView k n ||| (if s.tagHeld (32 * k + n) then bit n else 0)

/-- PORT_STATn as it reads: BUSY and QLEN from the port's transactions. -/
def State.portStatView (s : State) (a p : Nat) : Word :=
  putFld (putFld (s.rd a) 0 1 (b2n (s.portBusy p))) 8 8 (min (s.portQueue p).length 255)

/-- The registers whose value is computed from other state, and the value; any other register reads as it is stored. MEM_STAT
shows the scrubber and the monitor running from the release of the cores (R248, R253; log entry 106). MC_CSDATAn, which may hold a
word of the patch, shows it to master 6 alone (R168, R177). -/
def State.viewOf (s : State) (m : Master) (a : Nat) : Word :=
  if a == SNF_STAT then putFld (putFld (s.rd a) 28 1 (b2n s.wwdOk)) 29 1 (b2n s.qawOk)
  else if a == SNF_REQ then s.activeCauses
  else if a == MEM_STAT then
    putFld (putFld (s.rd a) 3 1 (b2n (s.lit && !s.det && !s.core.inReset))) 4 1 (b2n (s.lit && s.det && !s.core.inReset))
  else if inRange (IC_VCFG 0) 0x400 a then s.vcfgView (regIdx (IC_VCFG 0) 4 a)
  else if inRange (IC_PEND 0) 0x20 a then s.pendView (regIdx (IC_PEND 0) 4 a) 32
  else if a == RNG_DATA then (if s.is RNG_STAT_READY then s.rng.fifo.headD 0 else 0)
  else if a == WK_CNT_HI then Store.get (fun _ => 0) s.pm.hi m.id
  else if a == CE_STAT then s.ceStatView
  else if inRange (CE_TAGMAP 0) 0x80 a then s.tagMapView (regIdx (CE_TAGMAP 0) 4 a) 32
  else if inRange 0x40030000 0x4000 a && a % 1024 == 8 then s.portStatView a (regIdx 0x40030000 1024 a)
  else if inRange 0x40020000 0x800 a && a % 64 == 0x34 then s.grpsView (regIdx 0x40020000 64 a)
  else if a == ADC_STAT 0 then putFld (s.rd a) 8 16 (s.adcQ 0).length
  else if a == ADC_STAT 1 then putFld (s.rd a) 8 16 (s.adcQ 1).length
  else if a == HOST_HSTAT then s.hstatView
  else if a == HOST_ATTN then s.attnView
  else if a == HOST_CFG then putFld (s.rd a) 0 1 (b2n s.hostI3c)
  else if a == MGMT_CFG then BitVec.ofNat 32 s.mgmtAddr
  else if a == DBG_STAT then putFld (s.rd a) 1 1 (b2n s.unlocked)
  else if a == DBG_REGDATA then s.dbgData
  else if inRange (MC_CSDATA 0) 0x14 a then (if m == .debug then s.rd a else 0)
  else s.rd a

/-- A register as master `m` reads it: an offset that names none reads 0 (R9), and so does a WO field. -/
def State.regView (s : State) (m : Master) (a : Nat) : Word :=
  match regRow a with
  | none => 0
  | some r => s.viewOf m a &&& ~~~ woMask r

/-- What a full-width read of a register does (R7, R98, R369, R434, R488). -/
def State.readEffect (s : State) (m : Master) (a : Nat) : State :=
  if a == RNG_DATA then s.rngPop
  else if a == WK_CNT_LO then s.wickLow m
  else if a == RING_GTMCNT then s.onRing (fun r => { r with gtHold := true })
  else if a == RING_GTPH then s.onRing (fun r => { r with gtHold := false })
  else if a == DBG_REGDATA then s.dbgLatch
  else s.readClear m a

/-- A read of the register at an aligned address: a narrower one has no effect (R7). In PRODUCTION without an unlock a read of
a DBG register raises 0x78 (R98). -/
def State.periphRead (s : State) (m : Master) (a : Nat) (full : Bool) : State × Word :=
  if inRange (CE_LEDGER 0) 0x2000 a then s.ledgerRead a
  else
  let w := s.regView m a
  let s := if full then s.readEffect m a else s
  (if a / 4096 = 0x40090 then s.intrusion else s, w)

/-! ## Writing -/

/-- A write of SNF_OPLVL: the changed levels of released outputs stand anew (R51, R54). -/
def State.oplvlWrite (s : State) (m : Master) (v : Word) : State :=
  let old := s.rd SNF_OPLVL
  let s := s.plainWrite m SNF_OPLVL v
  s.levelMoved ((old ^^^ s.rd SNF_OPLVL) &&& s.used &&& ~~~ s.snuffed)

/-- The Snuffer's registers (spec/02). -/
def State.snfWrite (s : State) (m : Master) (a : Nat) (v : Word) : State :=
  if a == SNF_OPLVL then s.oplvlWrite m v
  else if a == SNF_SWSNUFF then s.swSnuff v
  else if a == SNF_UNSNUFF then s.unsnuffArm v
  else if a == SNF_CHALRSP then s.unsnuffAnswer v
  else if a == SNF_WWDKICK then s.wwdKick v
  else if a == SNF_QAWANS then s.qawAnswer v
  else if a == SNF_WWDCFG || a == SNF_QAWCFG then s.wdCfgWrite a v
  else s.plainWrite m a v

/-- One byte of a write of FLT_CLSn (R41, R42): the class is replaced by the next permitted one and only rises; RING is only
set. The flag says that the value was clamped. -/
def State.clsByte (s : State) (a k : Nat) (v : Word) (p : Word × Bool) : Word × Bool :=
  match faultRow (4 * regIdx (FLT_CLS 0) 4 a + k) with
  | none => p
  | some row =>
    let x := fld v (8 * k) 3
    let c := max (classFix row x) (fld (s.latched a) (8 * k) 3)
    let g := max (fld v (8 * k + 3) 1) (fld (s.latched a) (8 * k + 3) 1)
    (putFld (putFld p.1 (8 * k) 3 c) (8 * k + 3) 1 g, p.2 || c != x || g != fld v (8 * k + 3) 1)

/-- A write of FLT_CLSn. -/
def State.clsWrite (s : State) (a : Nat) (v : Word) : State :=
  let p := [0, 1, 2, 3].foldl (fun p k => s.clsByte a k v p) (s.rd a, false)
  (s.wr a p.1).clampIf p.2 a

/-- The fault collector's registers (spec/02). -/
def State.fltWrite (s : State) (m : Master) (a : Nat) (v : Word) : State :=
  if inRange (FLT_PEND 0) 16 a then s.pendClear (regIdx (FLT_PEND 0) 4 a) v
  else if a == FLT_INJKEY then s.injKey v
  else if a == FLT_INJ then s.inject v
  else if inRange (FLT_CLS 0) 0x80 a then s.clsWrite a v
  else s.plainWrite m a v

/-- A write of IC_VCFGn (R187): LVL and EN as Table 7.2 lets them be written, SW sets a software request. -/
def State.vcfgWrite (s : State) (n : Nat) (v : Word) : State :=
  if !vectorListed n || n == 32 || n == 33 then s
  else if n < 32 then
    let l := clampLegal [(1, 7, 1)] (fld v 0 4)
    (s.put (IC_VCFG_LVL n) l).clampIf (l != fld v 0 4) (IC_VCFG n)
  else
    let l := min (fld v 0 4) 7
    let s := ((s.put (IC_VCFG_LVL n) l).put (IC_VCFG_EN n) (fld v 8 1)).clampIf (l != fld v 0 4) (IC_VCFG n)
    if bitOf v 9 then s.vecSoft n else s

/-- The registers of microcode control (R177): all are master 6's; MC_PMn and MC_XOPn are written only in a debug halt in
DEVELOP. A write of MC_CSCTL with RD and WR reads first (DESIGN CHOICE, log entry 127). -/
def State.mcWrite (s : State) (m : Master) (a : Nat) (v : Word) : State :=
  if a == MC_CSCTL then
    let s := if bitOf v 0 then s.csRead else s
    if bitOf v 1 then s.csStore else s
  else if inRange (MC_XOP 0) 0x100 a || inRange (MC_PM 0) 0x100 a then
    (if m == .debug && s.csWritable then
      (s.wrMc a (v &&& (if a < MC_PM 0 then 0x0FFF83FF else 0x803FFFFF))).staleAll else s)
  else s.plainWrite m a v

/-- The key store's registers (spec/16, spec/17). -/
def State.ksWrite (s : State) (m : Master) (a : Nat) (v : Word) : State :=
  if a == KS_OTPCMD then s.otpCommand v
  else if inRange (KS_OTPDATA 0) 0x20 a then s.wr a v
  else if a == KS_KCMD then s.keyUpdate v
  else if a == KS_PCMD then s.patchCommand v
  else if a == KS_PDATA then s.patchData v true
  else if a == KS_UNLCTL then s.unlockCtl m v
  else if a == KS_RBADV then s.rollbackWrite m v
  else s.plainWrite m a v

/-- The Wick domain's registers (spec/15). -/
def State.wkWrite (s : State) (m : Master) (a : Nat) (v : Word) : State :=
  if a == WK_CNT_LO then s.wkCnt false v
  else if a == WK_CNT_HI then s.wkCnt true v
  else if a == WK_CTL then s.wkCtl v
  else if a == WK_TRIM then s.wkTrim m v
  else if a == WK_TRIMCFG then s.trimCfg m v
  else if a == WK_CALCTL then s.calCtl v
  else if inRange WK_CALTLO 0x18 a then s.calWrite m a v
  else s.plainWrite m a v

/-- The flash controller's registers (spec/09). -/
def State.flcWrite (s : State) (m : Master) (a : Nat) (v : Word) : State :=
  if a == FLC_CMD then s.flashCommand (fld v 0 4) (v.extractLsb' 16 16)
  else if a == FLC_LOCK 0 || a == FLC_LOCK 1 then s.wr a (s.rd a ||| v)
  else s.plainWrite m a v

/-- The Channel Engine's registers (spec/10); the ledger window is read-only. -/
def State.ceWrite (s : State) (m : Master) (a : Nat) (v : Word) : State :=
  if a == CE_CTL then s.ceCtlWrite v
  else if a == CE_DLWIN || inRange (CE_TWIN 0) 0x400 a then s.twinWrite a v
  else if inRange 0x40011000 0x1000 a then
    (if a % 16 == 8 then s.ceDoorbell (regIdx 0x40011000 16 a) v
     else if a % 16 == 12 then s
     else s.qcfgWrite a v)
  else s.plainWrite m a v

/-- A write of PORT_TMOn: an SMBus port, controller or target, takes 25 only. -/
def State.tmoWrite (s : State) (m : Master) (p : Nat) (v : Word) : State :=
  if s.pers p == 2 || s.pers p == 3 then (s.put (PORT_TMO_MS p) 25).clampIf (fld v 0 8 != 25) (PORT_TMO p) else s.plainWrite m (PORT_TMO p) v

/-- The ports' registers and the partner window (spec/12). -/
def State.portWrite (s : State) (m : Master) (a : Nat) (v : Word) : State :=
  let p := regIdx 0x40030000 1024 a
  if a == PORT_PCMD then s.pcmdWrite v
  else if a % 1024 == 4 then s.portCtlWrite p v
  else if a % 1024 == 12 then s.tmoWrite m p v
  else s.plainWrite m a v

/-- The general-purpose pins (spec/12). -/
def State.gpWrite (s : State) (m : Master) (a : Nat) (v : Word) : State :=
  if a == GP_OUT0 then s.gpOut 0 0 v
  else if a == GP_OUT1 then s.gpOut 1 0 v
  else if a == GP_OSET 0 || a == GP_OSET 1 then s.gpOut (regIdx (GP_OSET 0) 4 a) 1 v
  else if a == GP_OCLR 0 || a == GP_OCLR 1 then s.gpOut (regIdx (GP_OCLR 0) 4 a) 2 v
  else if a == GP_IRQ0 then s.gpIrqClear 0 v
  else if a == GP_IRQ1 then s.gpIrqClear 1 v
  else if inRange (GP_CFG 0) 0xA0 a then s.gpCfgWrite m (regIdx (GP_CFG 0) 4 a) v
  else s.plainWrite m a v

/-- The Ring's registers (spec/13). -/
def State.ringWrite (s : State) (m : Master) (a : Nat) (v : Word) : State :=
  if a == RING_CTL then s.ringCtlWrite v
  else if a == RING_MRST then s.ringMrst (fld v 0 6)
  else if a == RING_PCTL then
    let s := if bitOf v 0 then s.yieldNow 6 else s
    if bitOf v 1 then s.pairResync else s
  else if a == RING_MFLUSH then s.mflush
  else s.plainWrite m a v

/-- The host path's registers (spec/14): doorbells and host messages are the host's, device messages firmware's. -/
def State.hostWriteReg (s : State) (m : Master) (a : Nat) (v : Word) : State :=
  if inRange (HOST_SQDB 0) 0x40 a then
    (if m == .host then s.hostDoorbell (a % 8 == 0) (regIdx (HOST_SQDB 0) 8 a) v else s)
  else if inRange (HOST_H2D 0) 0x40 a then
    (if a % 8 == 0 then s.hostH2d (regIdx (HOST_H2D 0) 8 a) v else s.hostD2h (regIdx (HOST_H2D 0) 8 a) v)
  else if inRange (HOST_MBCFG 0) 0x80 a && a % 16 == 12 then s.mbirqWrite m (regIdx (HOST_MBCFG 0) 16 a) v
  else s.plainWrite m a v

/-- The debug registers (R95, R97): DBG_CTL is master 6's. -/
def State.dbgRegWrite (s : State) (m : Master) (a : Nat) (v : Word) : State :=
  if a == DBG_CTL then
    let s := (s.put DBG_CTL_HALTEN (fld v 3 1)).put DBG_CTL_STEPMASK (fld v 4 1)
    let s := if bitOf v 0 then s.haltReq else s
    let s := if bitOf v 1 then s.dbgStep else s
    if bitOf v 2 then s.dbgResume else s
  else if a == DBG_REGDATA then s.dbgWrite v
  else s.plainWrite m a v

/-- The power and clock registers (spec/15). -/
def State.pmClkWrite (s : State) (m : Master) (a : Nat) (v : Word) : State :=
  if a == PM_REQ then s.pmReq v
  else if a == CLK_PLLA then (if 4 ≤ s.pstate then s.relock v else s.plainWrite m a v)
  else if a == CLK_CTL then (if bitOf v 0 && decide (4 ≤ s.pstate) then s.pllbRestart else s)
  else s.plainWrite m a v

/-- A 32-bit write to a register by its block (Table 1.4). -/
def State.pageWrite (s : State) (m : Master) (a : Nat) (v : Word) : State :=
  let p := a / 4096
  if a == SYS_CLAMPCNT then s.clampClear v
  else if p == 0x40001 || p == 0x40002 then s.pmClkWrite m a v
  else if a == LNT_MODE then s.lntModeWrite m v
  else if p == 0x40004 then s.snfWrite m a v
  else if p == 0x40005 then s.fltWrite m a v
  else if inRange (IC_VCFG 0) 0x400 a then s.vcfgWrite (regIdx (IC_VCFG 0) 4 a) v
  else if p == 0x40007 then s.mpuWrite m a v
  else if p == 0x40009 then s.mcWrite m a v
  else if p == 0x4000A then s.ksWrite m a v
  else if a == RNG_CTL then s.rngCtl v
  else if p == 0x4000C then s.wkWrite m a v
  else if p == 0x4000E then s.flcWrite m a v
  else if inRange 0x40010000 0x8000 a then s.ceWrite m a v
  else if p == 0x40020 || p == 0x40021 then s.monWrite m a v
  else if inRange 0x40030000 0x4000 a then s.portWrite m a v
  else if p == 0x40040 then s.ringWrite m a v
  else if p == 0x40050 then s.hostWriteReg m a v
  else if a == MGMT_PRES then s.presWrite m v
  else if p == 0x40070 then s.gpWrite m a v
  else if p == 0x40080 && a % 32 == 0 then s.tstWrite m (regIdx (TST_CTL 0) 32 a) v
  else if p == 0x40090 then s.dbgRegWrite m a v
  else s.plainWrite m a v

/-- A 32-bit write to a register: one that names none is ignored (R9), and so is one by a master that the register's row does
not admit; before sealing an image-carried register is written by the Lamplighter only (R456). -/
def State.regWrite (s : State) (m : Master) (a : Nat) (v : Word) : State := s.rowWrite m a (fun s => s.pageWrite m a v)

/-- A write to the peripheral range (R7): one narrower than 32 bits is ignored and counts. -/
def State.periphWrite (s : State) (m : Master) (a : Nat) (full : Bool) (v : Word) : State :=
  let s := if full then s.regWrite m a v else if (regRow (a / 4 * 4)).isSome then s.clamped (a / 4 * 4) else s
  if a / 4096 = 0x40090 then s.intrusion else s

/-! ## Transfers of masters other than the cluster -/

/-- A 32-bit or narrower read by a master at a word address, with byte enables: a refusal raises 0x28 and answers 0 (R224). -/
def State.busRead (s : State) (m : Master) (a be : Nat) : MemOut :=
  if inPeriph a then
    (match s.refusal m .read a with
     | some r => ⟨s.refuseOther m .read (a + beLow be) r, 0, some 0x28⟩
     | none =>
       let r := s.periphRead m a (be % 16 == 15)
       if s.aimed 0x27 a then ⟨r.1.e2eFail m a false, 0, some 0x27⟩ else ⟨r.1, r.2, none⟩)
  else s.mRead m a (a + beLow be)

/-- A write with byte enables by a master at a word address. -/
def State.busWrite (s : State) (m : Master) (a be : Nat) (v : Word) : MemOut :=
  if inPeriph a then
    (match s.refusal m .write a with
     | some r => ⟨s.refuseOther m .write (a + beLow be) r, 0, some 0x28⟩
     | none =>
       if s.aimed 0x27 a then ⟨s.e2eFail m a true, 0, some 0x27⟩
       else ⟨s.periphWrite m a (be % 16 == 15) v, 0, none⟩)
  else s.mWrite m a be v

end Sys2Proof.Machine
end

