-- ==== Sys2Proof/Machine/Access.lean ====
section
/-! DEFINITION. The accesses of every master to the peripheral range and the Ring windows (R7, R10, R29, R134, R221, R224,
R360, R361): the cluster's loads and stores, register commands, requests that come over the Ring, and the debug access. -/
namespace Sys2Proof.Machine

/-! ## The peripheral range -/

/-- A load of the cluster from a peripheral register (R7, R134, R221, R246): one that crosses a word is refused. -/
def State.periphLoad (s : State) (a : Nat) (sz : Size) : LsuOut :=
  match (if crosses a sz.bytes then some 3 else s.refusal .cluster .read a) with
  | some r => .exc (s.recordRefusal .cluster .read a false s.pset r) 0x28 0 a false
  | none =>
    let w := a / 4 * 4
    let r := s.periphRead .cluster w (sz == .word)
    if s.aimed 0x27 w then .done (r.1.e2eFail .cluster w false) 0 else .done r.1 (takeBytes r.2 0 a sz.bytes)

/-- An unbuffered store of the cluster to a peripheral register (R113, R134, R221). -/
def State.periphStore (s : State) (a : Nat) (sz : Size) (v : Word) : LsuOut :=
  match (if crosses a sz.bytes then some 3 else s.refusal .cluster .write a) with
  | some r => .exc (s.recordRefusal .cluster .write a false s.pset r) 0x28 1 a false
  | none =>
    let w := a / 4 * 4
    if s.aimed 0x27 w then .done (s.e2eFail .cluster w true) 0
    else .done (s.periphWrite .cluster w (sz == .word) v) 0

/-- A load of the cluster from anywhere but a Ring window. -/
def State.lsuLoad (s : State) (a : Nat) (sz : Size) : LsuOut :=
  if inFlash a || inSram a || inScratch a then s.memLoad a sz
  else if inPeriph a then s.periphLoad a sz
  else .exc (s.recordRefusal .cluster .read a false s.pset 3) 0x28 0 a false

/-- A store of the cluster to anywhere but a Ring window; one to flash is refused (R134). -/
def State.lsuStore (s : State) (a : Nat) (sz : Size) (v : Word) : LsuOut :=
  if inSram a || inScratch a then .done (s.memPut a sz v) 0
  else if inPeriph a then s.periphStore a sz v
  else .exc (s.recordRefusal .cluster .write a false s.pset (if inFlash a then (s.refusal .cluster .write a).getD 2 else 3)) 0x28 1 a false

/-! ## Ring windows -/

/-- The remote address of a window offset (Table 1.5), none outside the table. -/
def ringRemote (o : Nat) : Option Nat :=
  if o < 0xC0000 then some (0x10000000 + o)
  else if 0x400000 ≤ o && o < 0x410000 then some (0x18000000 + (o - 0x400000))
  else if 0x800000 ≤ o && o < 0x8A0000 then some (0x40000000 + (o - 0x800000))
  else if 0xC00000 ≤ o && o < 0x1000000 then some (o - 0xC00000)
  else none

/-- The member that a window address names. -/
def ringMember (a : Nat) : Nat := (a - 0x60000000) / 0x1000000

/-- The REASON for which an access to a Ring window is refused at its issue (R10, R29, R134, R360): one that crosses a word,
leaves Table 1.5 or writes flash, one to no other member or with the link down, and one that the map refuses. -/
def State.ringJudge (s : State) (m : Master) (write : Bool) (a n : Nat) : Option Nat :=
  let r := ringRemote (a % 0x1000000)
  if crosses a n || r.isNone || (write && inFlash (r.getD 0)) || !s.is RING_STAT_LINKIN || !s.ringTarget (ringMember a) then
    some 3
  else s.refusal m (if write then .write else .read) a

/-- An RREQ or WREQ with its byte enables takes its place among the outstanding requests (R360). -/
def State.ringAsk (s : State) (write : Bool) (a n : Nat) (v : Word) (who : RingWho) : State :=
  let w := (ringRemote (a % 0x1000000)).getD 0 / 4 * 4
  let q := s.ring.seq
  let f : RingFrame := ⟨false, false, BitVec.ofNat 6 (ringMember a), s.ringSrc, BitVec.ofNat 16 q,
    BitVec.ofNat 16 (beFirst a n), BitVec.ofNat 32 w, if write then wordBytes (storeWords v a).1 else []⟩
  s.ringSeqNext.ringIssue ⟨q, if write then 2 else 3, [f], who, false⟩

/-- An access of the cluster to a Ring window issues (R360): station `n` waits for its RESP, or with number 8 a store in X. -/
def State.ringStart (s : State) (n : Nat) (write : Bool) (a : Nat) (sz : Size) (signed : Bool) (v : Word) (dest : Nat)
    (micro : Bool) (mode : Nat) : State :=
  let t : Station := ⟨n, if n = 8 then .store else .load, dest, none, s.level, s.ring.seq, BitVec.ofNat 32 a, 0, signed, write, s.core.pc, false, n != 8,
    micro, mode + sizeCode sz, 0, false⟩
  (s.addStation t).ringAsk write a sz.bytes v (.access n)

/-! ## The instructions -/

/-- The registers of the Channel Engine and the ledger window, whose loads have no fixed count (Table 5.6). -/
def inCe (a : Nat) : Bool := inRange 0x40010000 0x10000 a

/-- A peripheral load leaves X for a station with its data (Table 4.3). -/
def State.periphLand (s : State) (a : Nat) (rd : Nat) (v : Word) : State :=
  if s.det && inCe a then (s.writeDest rd (v.setWidth 64)).retireOpen
  else
    let lvl := s.level
    let at' := s.core.pc
    s.stationOp (fun n => ⟨n, .load, rd, some (v.setWidth 64), lvl, 0, BitVec.ofNat 32 a, 0, false, false, at', false, false,
      false, 0, 0, false⟩) (v.setWidth 64) 1 (4 + s.releaseL)

/-- The count of a load from memory (Table 5.6). -/
def loadCost (a n : Nat) : Nat := (if inFlash a then 8 else 2) + b2n (crosses a n)

/-- An instruction that may need a station: the known results are written where none is free; with none free X waits (R108). -/
def State.withStation (s : State) (body : Nat → State → State) : State :=
  let s := s.makeRoom
  match s.stationFree with
  | none => s.stall
  | some n => body n s

/-- An access to a Ring window: refused with its precise exception, or issued: a load through a station (R109, R360), a store that
waits in X for its response (R113, R360). -/
def State.ringInstr (s : State) (write : Bool) (a : Nat) (sz : Size) (signed : Bool) (v : Word) (rd : Nat) : State :=
  match s.ringJudge .cluster write a sz.bytes with
  | some r =>
    (s.recordRefusal .cluster (if write then .write else .read) a false s.pset r).takeException 0x28 (b2n write) a (some a) none
  | none =>
    if write then s.ringStart 8 true a sz signed v 0 false 0
    else s.withStation (fun n s => (s.ringStart n false a sz signed v rd false 0).retireOpen)

/-- A load from flash in throughput mode of which a word is in no line of the data cache: it leaves X for a station and casts a
load shadow (R109, Table 4.3). -/
def State.flashMiss (s : State) (a n : Nat) : Bool :=
  inFlash a && !s.det && ((s.dfind (a / 32 * 32)).isNone || (crosses a n && (s.dfind ((a / 4 + 1) * 4 / 32 * 32)).isNone))

/-- A load that missed the data cache on flash waits in its station with its data (Table 4.3). -/
def State.flashLand (s : State) (a rd : Nat) (v : Word) : State :=
  let lvl := s.level
  let at' := s.core.pc
  s.stationOp (fun n => ⟨n, .load, rd, some (v.setWidth 64), lvl, 0, BitVec.ofNat 32 a, 0, false, false, at', false, true,
    false, 0, 0, false⟩) (v.setWidth 64) 1 8

/-- The CCLK that fetches on the bank of a load's words add (R103). -/
def State.conflicts (s : State) (a n : Nat) : Nat :=
  s.conflict (a / 4 * 4) (beFirst a n) + (if crosses a n then s.conflict (a / 4 * 4 + 4) (beSecond a n) else 0)

/-- A load's value reaches rd, or the load takes its exception. -/
def State.loadDone (s : State) (a : Nat) (sz : Size) (signed : Bool) (rd : Nat) : State :=
  match s.lsuLoad a sz with
  | .exc t id sub ad raised => t.excSince s id sub ad raised
  | .done t v =>
    if inPeriph a then t.periphLand a rd (widen sz signed v)
    else if s.flashMiss a sz.bytes then t.flashLand a rd (widen sz signed v)
    else (t.setReg rd (widen sz signed v)).retireSeq (loadCost a sz.bytes + s.conflicts a sz.bytes)

/-- A load (R134): by target from memory, a peripheral register or a Ring window. -/
def State.load (s : State) (rd ra : Reg) (imm : BitVec 16) (sz : Size) (signed : Bool) : State :=
  s.instr [rd.toNat, ra.toNat] (fun s =>
    let a := (s.reg ra.toNat + imm.signExtend 32).toNat
    if inRingWin a then s.ringInstr false a sz signed 0 rd.toNat
    else if (inPeriph a && !s.det) || s.flashMiss a sz.bytes then s.withStation (fun _ s => s.loadDone a sz signed rd.toNat)
    else s.loadDone a sz signed rd.toNat)

/-- A store (R134): buffered to SRAM and the scratchpad, unbuffered elsewhere (R113). -/
def State.store (s : State) (rd ra : Reg) (imm : BitVec 16) (sz : Size) : State :=
  s.instr [rd.toNat, ra.toNat] (fun s =>
    let a := (s.reg ra.toNat + imm.signExtend 32).toNat
    let v := s.reg rd.toNat
    if inRingWin a then s.ringInstr true a sz false v 0
    else match s.lsuStore a sz v with
      | .exc t id sub ad raised => t.excSince s id sub ad raised
      | .done s _ => s.retireSeq (if inPeriph a then 2 + s.releaseL else 1 + b2n (crosses a sz.bytes)))

/-- LDW (R134). -/
def execLdw (rd ra : Reg) (imm : BitVec 16) (s : State) : Res := .next (s.load rd ra imm .word false)

/-- LDH (R134). -/
def execLdh (rd ra : Reg) (imm : BitVec 16) (s : State) : Res := .next (s.load rd ra imm .half true)

/-- LDHU (R134). -/
def execLdhu (rd ra : Reg) (imm : BitVec 16) (s : State) : Res := .next (s.load rd ra imm .half false)

/-- LDB (R134). -/
def execLdb (rd ra : Reg) (imm : BitVec 16) (s : State) : Res := .next (s.load rd ra imm .byte true)

/-- LDBU (R134). -/
def execLdbu (rd ra : Reg) (imm : BitVec 16) (s : State) : Res := .next (s.load rd ra imm .byte false)

/-- STW (R134). -/
def execStw (rd ra : Reg) (imm : BitVec 16) (s : State) : Res := .next (s.store rd ra imm .word)

/-- STH (R134). -/
def execSth (rd ra : Reg) (imm : BitVec 16) (s : State) : Res := .next (s.store rd ra imm .half)

/-- STB (R134). -/
def execStb (rd ra : Reg) (imm : BitVec 16) (s : State) : Res := .next (s.store rd ra imm .byte)

/-! ## Register commands -/

/-- REGISTER_WRITE (R7, R12): a write of any width to a peripheral register. -/
def execRegisterWrite (m : Master) (addr : Word) (sz : Size) (v : Word) (s : State) : Res :=
  .next (s.regAccess m true addr.toNat sz (fun s => s.periphWrite m (addr.toNat / 4 * 4) (sz == .word) v))

/-- A 32-bit read whose data are answered. -/
def State.readAnswer (s : State) (m : Master) (a : Nat) : State :=
  let r := s.periphRead m a true
  r.1.answer r.2

/-- RC_READ (R7): a 32-bit read of a peripheral register; its RC fields clear for every master but debug. -/
def execRcRead (m : Master) (addr : Word) (s : State) : Res :=
  .next (s.regAccess m false addr.toNat .word (fun s => s.readAnswer m (addr.toNat / 4 * 4)))

/-! ## Requests of other members -/

/-- The RESP status of a served access (Table 13.4). -/
def respStatus : Option Nat → Nat
  | none => 0
  | some id => if id == 0x28 then 1 else 2

/-- WREQ (R361): a remote write is served as master 5 and answered. -/
def execRingWreq (f : RingFrame) (s : State) : Res :=
  .next (s.ringRx 2 f (f.payload.length == 4) (fun s =>
    let s := s.ringFwd 2 f
    if !s.ringMine f then s
    else
      let r := s.busWrite .ring (f.addr.toNat / 4 * 4) (f.arg.toNat % 16) (BitVec.ofNat 32 (bytesNat f.payload))
      r.st.ringReply f (respStatus r.err) []))

/-- RREQ (R361): a remote read is served as master 5 and answered, with data where it is OK. -/
def execRingRreq (f : RingFrame) (s : State) : Res :=
  .next (s.ringRx 3 f (f.payload.length == 0) (fun s =>
    let s := s.ringFwd 3 f
    if !s.ringMine f then s
    else
      let r := s.busRead .ring (f.addr.toNat / 4 * 4) (f.arg.toNat % 16)
      r.st.ringReply f (respStatus r.err) (if r.err.isNone then wordBytes r.data else [])))

/-! ## The debug access -/

/-- A request of the debug access is outstanding on the Ring. -/
def State.dbgOut (s : State) : Bool :=
  (s.ring.reqs.any (fun e => match e.2 with
    | some r => r.who == .debug
    | none => false)) || s.ring.wait.any (fun r => r.who == .debug)

/-- A debug access to a Ring window: refused with data 0, or sent; it completes with its RESP. -/
def State.dbgRing (s : State) (x : DbgAcc) (a : Nat) : State :=
  match s.ringJudge .debug x.write a 4 with
  | some r => (s.refuseOther .debug (if x.write then .write else .read) a r).dbgDone 0
  | none => { s with tap := { s.tap with acc := some { x with sent := true } } }.ringAsk x.write a 4 x.data .debug

/-- DBGACC_COMPLETE (R517): the access in progress is carried out by master 6, naturally aligned, and READY is set; a refused
read gives 0. One that waits for a Ring response completes with it. -/
def execDbgaccComplete (s : State) : Res :=
  .next (match s.tap.acc with
    | none => s
    | some x =>
      let a := x.addr.toNat / 4 * 4
      if s.snf.only then s
      else if x.sent then (if s.dbgOut then s else s.dbgDone 0)
      else if inRingWin a then s.dbgRing x a
      else
        let r := if x.write then s.busWrite .debug a 15 x.data else s.busRead .debug a 15
        r.st.dbgDone r.data)

end Sys2Proof.Machine
end

