-- ==== Sys2Proof/Machine/Host.lean ====
section
/-! DEFINITION. The host port (spec/14): SPI and I3C framing, the host address space, wakes, and the dynamic address. -/
namespace Sys2Proof.Machine

/-! ## Framing -/

/-- The CRC over bytes matches the two that follow them, least significant first (R388, R3). -/
def crcOk (b c : List Byte) : Bool := c.length == 2 && bytesNat c == crc16 b

/-- The channel whose window holds a host address (Table 14.5). -/
def State.winChan (s : State) (a : Nat) : Option Nat :=
  let c := (a - 0x800000) / 0x10000
  if decide (0x800000 ≤ a) && decide (c < 8) && decide ((a - 0x800000) % 0x10000 < 4096 * s.get (HOST_MBWIN_WSIZE c)) then some c
  else none

/-- The channel that an error names: of the window or doorbell addressed, else 15 (Table 14.6). -/
def State.errChan (s : State) (a : Nat) : Nat :=
  if decide (0x40 ≤ a) && decide (a < 0x80) then (a - 0x40) / 8 else (s.winChan a).getD 15

/-- A host address in the SRAM window of channel `c`. -/
def State.winAddr (s : State) (c a : Nat) : Nat := 4096 * s.get (HOST_MBWIN_BASE c) + (a - 0x800000) % 0x10000

/-- The STATUS byte (Table 14.3). -/
def State.hostStatus (s : State) : Byte :=
  BitVec.ofNat 8 (b2n s.lit + 2 * b2n s.host.werr + 4 * b2n s.hostIrq + 8 * b2n s.limp + 16 * (5 - s.pstate))

/-- The frame of a transaction after CMD: its address, its words and the rest, where the header is whole. LEN takes 0 to 63. -/
def hostHeader (f : List Byte) : Option (Nat × Nat × List Byte) :=
  if f.length < 4 then none
  else some (bytesNat (f.take 3), (f.getD 3 0).toNat % 64 + 1, f.drop 4)

/-! ## Words -/

/-- One word of a host write (R393, R398, R399, R400). -/
def State.hostPut (s : State) (a : Nat) (w : Word) : State :=
  if a < 0x100 then
    if inRange 0x80 0x40 a && a % 8 == 4 && s.mbIsolated (a % 0x40 / 8) then s.werr
    else if inRange 0x80 0x40 a && a % 8 == 4 && !s.is (HOST_MBCFG_EN (a % 0x40 / 8)) then (s.hostErr 5 (a % 0x40 / 8)).werr
    else
    let r := s.busWrite .host (0x40050000 + a) 15 w
    if r.err.isSome then r.st.werr else r.st
  else if decide (0x10000 ≤ a) && decide (a < 0x12000) then (s.hostErr 4 15).werr
  else match s.winChan a with
    | none => (s.hostErr 3 (s.errChan a)).werr
    | some c =>
      if s.mbIsolated c then s.werr
      else if !s.is (HOST_MBCFG_EN c) then (s.hostErr 5 c).werr
      else
        let r := s.busWrite .host (s.winAddr c a) 15 w
        if r.err.isSome then r.st.werr else r.st

/-- Words written in ascending address order (R389). -/
def State.hostPuts (s : State) (a : Nat) : List Word → State
  | [] => s
  | w :: t => (s.hostPut a w).hostPuts (a + 4) t

/-- A word that a protocol error leaves unread: the spec states none, a free value. -/
def State.hostFree (s : State) : State × Word := (s.freed, s.freeVal)

/-- One word of a host read (R390, R393, R398 to R400). -/
def State.hostGet (s : State) (a : Nat) : State × Word :=
  if a < 0x100 then
    (if decide (0x40 ≤ a) && decide (a < 0xC0) && !s.is (HOST_MBCFG_EN (a % 0x40 / 8)) && !s.mbIsolated (a % 0x40 / 8) then
       (s.hostErr 5 (a % 0x40 / 8)).hostFree
     else
       let r := s.busRead .host (0x40050000 + a) 15
       (r.st, r.data))
  else if decide (0x10000 ≤ a) && decide (a < 0x12000) then
    let r := s.busRead .host (0x40018000 + (a - 0x10000)) 15
    (r.st, r.data)
  else match s.winChan a with
    | none => (s.hostErr 3 (s.errChan a)).hostFree
    | some c =>
      if s.mbIsolated c then (s, 0)
      else if !s.is (HOST_MBCFG_EN c) then (s.hostErr 5 c).hostFree
      else
        let r := s.busRead .host (s.winAddr c a) 15
        (r.st, r.data)

/-- `n` words read upward (R390). -/
def State.hostGets (s : State) (a : Nat) : Nat → State × List Word
  | 0 => (s, [])
  | n + 1 =>
    let r := s.hostGet a
    let t := r.1.hostGets (a + 4) n
    (t.1, r.2 :: t.2)

/-! ## Transactions -/

/-- A discarded frame (R389). -/
def State.hostDrop (s : State) (code chan : Nat) : State := (s.hostErr code chan).werr

/-- A write after its CMD, `pre` being the bytes before ADDR that the CRC covers (R389, R391, R398). -/
def State.hostWriteFrame (s : State) (pre f : List Byte) : State :=
  match hostHeader f with
  | none => s.hostDrop 1 15
  | some (a, n, t) =>
    if t.length < 4 * n + 2 then s.hostDrop 1 15
    else if !crcOk (pre ++ f.take (4 + 4 * n)) ((t.drop (4 * n)).take 2) then s.hostDrop 2 (s.errChan a)
    else if a % 4 != 0 then s.hostDrop 3 (s.errChan a)
    else s.hostPuts a (bytesWords (t.take (4 * n)))

/-- The bytes of a read's answer: STATUS, data and the CRC over both. -/
def hostReply (st : Byte) (ws : List Word) : List Byte :=
  let b := st :: wordsBytes ws
  b ++ natBytes 2 (crc16 b)

/-- A read of `n` words at `a` may be late (R390): always where HOST_DUMMY is below 24, else where it reads SRAM. -/
def State.hostLate (s : State) (a n : Nat) : Bool :=
  decide (s.get HOST_DUMMY_V < 24) || (List.range n).any (fun i => (s.winChan (a + 4 * i)).isSome)

/-- The bytes of a read whose data is late from byte `k` on (R390): 0xFF for each, and the complement of the CRC of the bytes so
sent (log entry 46). -/
def lateReply (st : Byte) (ws : List Word) (k : Nat) : List Byte :=
  let d := wordsBytes ws
  let b := st :: (d.take k ++ List.replicate (d.length - k) 0xFF)
  b ++ natBytes 2 (0xFFFF - crc16 b)

/-- What a read sends (R390): where it may be late, the first data byte that is not ready is a free value; one past the last
is a read in time. -/
def State.hostSend (s : State) (late : Bool) (st : Byte) (ws : List Word) : State :=
  let k := s.freeVal.toNat
  if !late then s.onHost (fun h => { h with out := hostReply st ws })
  else if 4 * ws.length ≤ k then s.freed.onHost (fun h => { h with out := hostReply st ws })
  else (s.freed.bump HOST_LATECNT_COUNT 1).onHost (fun h => { h with out := lateReply st ws k })

/-- A read of `n` words at `a` (R390, R398). STATUS reports WERR and clears it (R389). -/
def State.hostReadWords (s : State) (a n : Nat) : State :=
  let st := s.hostStatus
  let s := s.onHost (fun h => { h with werr := false })
  let r := if a % 4 != 0 then (List.range n).foldl (fun p _ => (p.1.freed, p.1.freeVal :: p.2)) (s.hostErr 3 (s.errChan a), [])
    else s.hostGets a n
  r.1.hostSend (a % 4 == 0 && s.hostLate a n) st r.2

/-- A read outside LIT (R401): READY 0 and zeros. -/
def State.hostReadIdle (s : State) (n : Nat) : State :=
  let st := s.hostStatus
  s.onHost (fun h => { h with werr := false, out := hostReply st (List.replicate n 0) })

/-- HOST_WRITE (R389, R401). -/
def execHostWrite (f : List Byte) (s : State) : Res :=
  .next (if !s.hostReach then s
    else if !s.lit then s.hostWakes
    else if s.hostI3c then s.hostWakes.hostWriteFrame [] f
    else let s := s.hostWakes
    match f with
      | [] => s.hostDrop 1 15
      | c :: t => if decide (0x10 ≤ c.toNat) && decide (c.toNat ≤ 0x12) then s.hostWriteFrame [c] t else s.hostDrop 1 15)

/-- An I3C read: of the pointer's words (R392); outside LIT, with no pointer, of one word of zero (log entry 133). -/
def State.i3cRead (s : State) : State :=
  match s.host.ptr with
  | none => if s.lit then (s.hostErr 7 15).onHost (fun h => { h with out := [] }) else s.hostReadIdle 1
  | some (a, n) =>
    let s := s.onHost (fun h => { h with ptr := none })
    if s.lit then s.hostReadWords a n else s.hostReadIdle n

/-- An SPI read that ends early (R391): a protocol error and no other effect. -/
def State.spiEarly (s : State) : State := (if s.lit then s.hostErr 1 15 else s).onHost (fun h => { h with out := [] })

/-- An SPI read (R388, R390, R391). -/
def State.spiRead (s : State) (f : List Byte) : State :=
  let none' (s : State) : State := s.onHost (fun h => { h with out := [] })
  match f with
  | [] => none' (if s.lit then s.hostErr 1 15 else s)
  | c :: t =>
    match (if decide (0x20 ≤ c.toNat) && decide (c.toNat ≤ 0x22) then hostHeader t else none) with
    | none => none' (if s.lit then s.hostErr 1 15 else s)
    | some (a, n, _) => if s.lit then s.hostReadWords a n else s.hostReadIdle n

/-- HOST_READ (R390, R391, R401); `early` is whether HOST_CS_N rises before the last data byte of an SPI read has been sent. -/
def execHostRead (f : List Byte) (early : Bool) (s : State) : Res :=
  .next (if !s.hostReach then s
    else
      let s := s.hostWakes
      if s.hostI3c then s.i3cRead
      else if early then s.spiEarly
      else s.spiRead f)

/-- HOST_WAKE (R401): no effect in LIT. -/
def execHostWake (s : State) : Res := .next (if s.hostReach then s.hostWakes else s)

/-- I3C_POINTER_WRITE (R392): a write of ADDR, LEN and their CRC sets the read pointer, as the header of a read does outside
LIT too, where a bad one is discarded (R401; log entry 133). -/
def execI3cPointerWrite (f : List Byte) (s : State) : Res :=
  .next (if !s.hostReach || !s.hostI3c then s
    else let s := s.hostWakes
    match hostHeader f with
      | none => if s.lit then s.hostDrop 1 15 else s
      | some (a, n, t) =>
        if t.length < 2 then (if s.lit then s.hostDrop 1 15 else s)
        else if !crcOk (f.take 4) (t.take 2) then (if s.lit then s.hostDrop 2 (s.errChan a) else s)
        else s.onHost (fun h => { h with ptr := some (a, n) }))

/-- The provisional ID that the device answers to ENTDAA (R392): RING_UIDL, then RING_UIDH [15:0], with bit 32 set. -/
def State.provisionalId (s : State) : Nat :=
  (s.rd RING_UIDL).toNat + (fld (s.rd RING_UIDH) 0 16 ||| 1) * 2 ^ 32

/-- A dynamic address is assigned (R392). -/
def State.dynAssign (s : State) (addr : Nat) : State := (s.put HOST_CFG_DYNADDR addr).put HOST_CFG_ASSIGNED 1

/-- ENTDAA (R392): the device answers while it has no dynamic address, with its provisional ID, BCR 0x06 and DCR 0x00, each most
significant byte first as MIPI I3C sends them (log entry 133). -/
def execEntdaa (addr : BitVec 7) (s : State) : Res :=
  .next (if s.hostOn && s.hostI3c && !s.is HOST_CFG_ASSIGNED then
    (s.onHost (fun h => { h with out := (natBytes 6 s.provisionalId).reverse ++ [0x06, 0x00] })).dynAssign addr.toNat
  else s)

/-- SETDASA (R392): from the static address 0x2C. -/
def execSetdasa (sta addr : BitVec 7) (s : State) : Res :=
  .next (if s.hostOn && s.hostI3c && !s.is HOST_CFG_ASSIGNED && sta.toNat == 0x2C then s.dynAssign addr.toNat else s)

/-- The mandatory byte of an in-band interrupt that the device requests (R392): none while HOST_IRQ_N would not be asserted or
while an interrupt is already pending at the host (`waiting`). -/
def State.hostIbi (s : State) (waiting : Bool) : Option Byte :=
  if s.hostI3c && s.hostIrq && !waiting then
    some (BitVec.ofNat 8 (b2n (s.is HOST_ATTN_D2H) + 2 * b2n (chanMask s.cqne 8 != 0) + 4 * s.get SNF_STAT_FAULTN))
  else none

end Sys2Proof.Machine
end

