-- ==== Sys2Proof/Machine/Mgmt.lean ====
section
/-! DEFINITION. The management port (spec/14): its commands, the proposals of holds and their judgement, and power requests. -/
namespace Sys2Proof.Machine

/-! ## The port -/

/-- A change of the management port. -/
def State.onMgmt (s : State) (f : MgmtPort → MgmtPort) : State := { s with mgmt := f s.mgmt }

/-- The status codes of R404. -/
def mgOk : Nat := 0
def mgStale : Nat := 1
def mgRefused : Nat := 2
def mgUnavail : Nat := 3
def mgBusy : Nat := 4

/-- The bytes that read command `cmd` answers (R403): those given, and the packet error code over the whole message. -/
def State.mgmtFrame (s : State) (cmd : Nat) (b : List Byte) : List Byte :=
  b ++ [BitVec.ofNat 8 (pec (BitVec.ofNat 8 (2 * s.mgmtAddr) :: BitVec.ofNat 8 cmd :: BitVec.ofNat 8 (2 * s.mgmtAddr + 1) :: b))]

/-- A block read answers (R404): the count byte, a status and data. -/
def State.mgmtBlockFrame (s : State) (cmd st : Nat) (data : List Byte) : List Byte :=
  s.mgmtFrame cmd (BitVec.ofNat 8 (data.length + 1) :: BitVec.ofNat 8 st :: data)

/-- Block read `cmd` answers a status and data. -/
def State.mgmtSend (s : State) (cmd st : Nat) (data : List Byte) : State :=
  s.onMgmt (fun g => { g with out := s.mgmtBlockFrame cmd st data })

/-- The command codes of Table 14.7. -/
def mgmtCodes : List Nat := [0x01, 0x02, 0x10, 0x11, 0x20, 0x21, 0x22, 0x30, 0x31, 0x40, 0x41, 0x50]

/-- The data bytes after the status of each read command (Table 14.7). -/
def mgmtLen (cmd : Nat) : Nat :=
  if cmd = 0x01 then 12 else if cmd = 0x02 then 5 else if cmd = 0x11 || cmd = 0x31 then 4
  else if cmd = 0x21 || cmd = 0x22 then 16 else if cmd = 0x50 then 6 else 0

/-- The packet error code of a write (R403): over the address byte, the command and the bytes after it. -/
def State.mgmtPec (s : State) (cmd : Nat) (b : List Byte) : Nat :=
  pec (BitVec.ofNat 8 (2 * s.mgmtAddr) :: BitVec.ofNat 8 cmd :: b)

/-- A write of `n` bytes is whole and its packet error code right. -/
def State.mgmtWriteOk (s : State) (cmd n : Nat) (f : List Byte) : Bool :=
  f.length == n + 1 && (f.getD n 0).toNat == s.mgmtPec cmd (f.take n)

/-- A write command (R403): one that is not whole or whose PEC is wrong is discarded and counted. -/
def State.mgmtWrite (s : State) (cmd n : Nat) (f : List Byte) (body : State → State) : State :=
  if !s.mgmtOn then s
  else if !s.mgmtWriteOk cmd n f then s.bump MGMT_ERRCNT_COUNT 1
  else body s

/-! ## Reads -/

/-- One word read for the port as master 4 (R208, R404). None where it was refused. -/
def State.mgmtWord (s : State) (a : Nat) : State × Option Word :=
  let r := s.busRead .mgmt a 15
  (r.st, if r.err.isSome then none else some r.data)

/-- Words read in turn, up to a refusal. -/
def State.mgmtWords (s : State) : List Nat → State × Option (List Word)
  | [] => (s, some [])
  | a :: t =>
    match s.mgmtWord a with
    | (s, none) => (s, none)
    | (s, some w) => match s.mgmtWords t with
      | (s, none) => (s, none)
      | (s, some ws) => (s, some (w :: ws))

/-- A block read of words: a refusal answers REFUSED and zeros; else `f` makes the data. -/
def State.mgmtBlock (s : State) (cmd : Nat) (as : List Nat) (f : State → List Word → State) : State :=
  if !s.mgmtOn then s
  else match s.mgmtWords as with
    | (s, none) => s.mgmtSend cmd mgRefused (List.replicate (mgmtLen cmd) 0)
    | (s, some ws) => f s ws

/-- IDENT (R404). -/
def execMgmtIdent (s : State) : Res :=
  .next (s.mgmtBlock 0x01 [SYS_ID, SYS_VARIANT, RING_UIDL] (fun s ws => s.mgmtSend 0x01 mgOk (wordsBytes ws)))

/-- STATE (R404). -/
def execMgmtState (s : State) : Res :=
  .next (s.mgmtBlock 0x02 [FLT_STAT, FLT_LOGHEAD] (fun s ws =>
    let b := s.pstate + 8 * b2n s.limp + 16 * s.get SNF_STAT_FAULTN + 32 * fld (ws.getD 0 0) 0 1
    s.mgmtSend 0x02 mgOk (BitVec.ofNat 8 b :: wordBytes (ws.getD 1 0))))

/-- LEDGER (R404, R407): the entry at MGMT_LIDX; the index then increments modulo 2,048. -/
def execMgmtLedger (s : State) : Res :=
  .next (s.mgmtBlock 0x11 [CE_LEDGER (s.get MGMT_LIDX_V)] (fun s ws =>
    (s.put MGMT_LIDX_V (s.get MGMT_LIDX_V + 1)).mgmtSend 0x11 mgOk (wordsBytes ws)))

/-- LOG (R404, R405): the entry at MGMT_LOGIDX, UNAVAIL in DIM; the index then increments modulo 256. -/
def execMgmtLog (s : State) : Res :=
  .next (if s.mgmtOn && s.pstate == 4 then s.mgmtSend 0x21 mgUnavail (List.replicate 16 0)
    else
      let a := 0x1800F000 + 16 * s.get MGMT_LOGIDX_V
      s.mgmtBlock 0x21 [a, a + 4, a + 8, a + 12] (fun s ws =>
        (s.put MGMT_LOGIDX_V (s.get MGMT_LOGIDX_V + 1)).mgmtSend 0x21 mgOk (wordsBytes ws)))

/-- PEND (R404). -/
def execMgmtPend (s : State) : Res :=
  .next (s.mgmtBlock 0x22 [FLT_PEND 0, FLT_PEND 1, FLT_PEND 2, FLT_PEND 3] (fun s ws => s.mgmtSend 0x22 mgOk (wordsBytes ws)))

/-- CLAMP (R404, R413). -/
def execMgmtClamp (s : State) : Res :=
  .next (s.mgmtBlock 0x50 [SYS_CLAMPCNT, SYS_CLAMPLAST] (fun s ws =>
    s.mgmtSend 0x50 mgOk ((wordBytes (ws.getD 0 0)).take 2 ++ wordBytes (ws.getD 1 0))))

/-- PRES (R404): MGMT_PRES, without a status. -/
def execMgmtPres (s : State) : Res :=
  .next (if s.mgmtOn then s.onMgmt (fun g => { g with out := s.mgmtFrame 0x41 [BitVec.ofNat 8 (s.get MGMT_PRES_RES)] }) else s)

/-- HOLDRES (R404, R408): BUSY after a discarded HOLD, or while a proposal is outstanding. -/
def execMgmtHoldres (s : State) : Res :=
  .next (if !s.mgmtOn then s
    else if s.mgmt.busy || s.ce.hold.isSome then
      (s.onMgmt (fun g => { g with busy := false })).mgmtSend 0x31 mgBusy (List.replicate 4 0)
    else s.mgmtSend 0x31 (s.get MGMT_ERRCNT_HOLDST) (wordBytes (s.rd MGMT_HOLDRES)))

/-- MGMT_RESPONSE_TIMEOUT (R405): the response to a read command is not ready within 20 µs: BUSY and zeros, and the command has
no effect; a byte read answers 0. A code that Table 14.7 does not list is NACKed at its command byte and counts (R404). -/
def execMgmtResponseTimeout (cmd : Byte) (s : State) : Res :=
  .next (if !s.mgmtOn then s
    else if cmd.toNat = 0x41 then s.onMgmt (fun g => { g with out := s.mgmtFrame 0x41 [0] })
    else if !mgmtCodes.contains cmd.toNat then s.bump MGMT_ERRCNT_COUNT 1
    else if mgmtLen cmd.toNat = 0 then s
    else s.mgmtSend cmd.toNat mgBusy (List.replicate (mgmtLen cmd.toNat) 0))

/-! ## Writes -/

/-- The port stores into one of its registers as master 4, checked by the map (R208, R404): whether it was carried out. -/
def State.mgmtStore (s : State) (a : Nat) (v : Word) : State × Bool :=
  let r := s.busWrite .mgmt a 15 v
  (r.st, r.err.isNone)

/-- LIDX (R404). -/
def execMgmtLidx (f : List Byte) (s : State) : Res :=
  .next (s.mgmtWrite 0x10 2 f (fun s => (s.mgmtStore MGMT_LIDX (BitVec.ofNat 32 (bytesNat (f.take 2)))).1))

/-- LOGIDX (R404). -/
def execMgmtLogidx (f : List Byte) (s : State) : Res :=
  .next (s.mgmtWrite 0x20 1 f (fun s => (s.mgmtStore MGMT_LOGIDX (BitVec.ofNat 32 (bytesNat (f.take 1)))).1))

/-- A proposal ends with a status (R408): the entry after it is kept for HOLDRES. -/
def State.holdDone (s : State) (st i : Nat) : State :=
  let s := ((s.wr MGMT_HOLDRES (if i < 2048 then s.rd (CE_LEDGER i) else 0)).put MGMT_ERRCNT_HOLDST st).onCe
    (fun c => { c with hold := none })
  if st = mgOk then s.put MGMT_IRQ_HOLDAPP 1 else if st = mgStale then s.put MGMT_IRQ_HOLDSTALE 1 else s

/-- HOLD (R404, R408, R410): the fields are stored as a write by master 4 and the proposal goes to the CE; one written while
another is outstanding is discarded; in LIMP the answer is UNAVAIL. -/
def execMgmtHold (f : List Byte) (s : State) : Res :=
  .next (if !s.mgmtOn then s
    else if (f.headD 0).toNat != 5 || !s.mgmtWriteOk 0x30 6 f then s.bump MGMT_ERRCNT_COUNT 1
    else if s.ce.hold.isSome then s.onMgmt (fun g => { g with busy := true })
    else
      let v := bytesNat ((f.drop 1).take 5)
      let p0 := s.mgmtStore MGMT_PROP0 (BitVec.ofNat 32 (v % 2 ^ 24))
      let p1 := p0.1.mgmtStore MGMT_PROP1 (BitVec.ofNat 32 (v / 2 ^ 24))
      let s := p1.1
      if !(p0.2 && p1.2) then s
      else if s.limp then s.holdDone mgUnavail (s.get MGMT_PROP0_IDX)
      else s.onCe (fun c => { c with hold := some (s.rd MGMT_PROP0, s.rd MGMT_PROP1) }))

/-- The judgement of a proposal (R408, R411): its status and the entry it leaves. -/
def holdJudge (w p0 p1 : Word) : Nat × Word :=
  let held := bitOf w 16
  let same := fld w 17 7 == fld p0 17 7
  if fld w 4 12 != fld p1 0 12 then (mgStale, w)
  else if bitOf p0 16 then
    (if !held then (mgOk, putFld (putFld w 16 1 1) 17 7 (fld p0 17 7)) else if same then (mgOk, w) else (mgStale, w))
  else if held && same then (mgOk, putFld (putFld w 16 1 0) 17 7 0)
  else (mgStale, w)

/-- LEDGER_HOLD (R379, R408, R409): the proposal outstanding is judged at its start; STALE raises 0x35; a reserved index has no
entry to change and is STALE. -/
def State.ledgerHold (s : State) : State :=
  match s.ce.hold with
  | none => s
  | some (p0, p1) =>
    if !s.ceClock then s
    else
      let i := fld p0 0 11
      if s.role == 2 && ledgerMirrored i then s.holdDone mgUnavail i
      else
        let q := s.ledgerRead (CE_LEDGER i)
        let s := q.1
        let w := q.2
        let r := if (ledgerKind i).isNone then (mgStale, w) else holdJudge w p0 p1
        if r.1 = mgStale then (s.holdDone mgStale i).fault 0x35 0
        else if r.2 = w then s.holdDone mgOk i
        else (s.ledgerPut i r.2).holdDone mgOk i

/-- LEDGER_HOLD (R408); a management proposal carries no tag. -/
def execLedgerHold (_tag : BitVec 10) (s : State) : Res := .next s.ledgerHold

/-! ## Power requests -/

/-- The device refuses a request for state `t` at once (R22, R68, R412). -/
def State.preqRefused (s : State) (t : Nat) : Bool := (s.pairMode && decide (t < 4)) || (s.limp && (t == 2 || t == 3))

/-- A power request (R412). -/
def State.powerRequest (s : State) (v : Nat) : State :=
  let p := s.mgmtStore MGMT_PREQ (BitVec.ofNat 32 v)
  let s := p.1
  let t := s.get MGMT_PREQ_STATE
  if !p.2 then s
  else
  let s := ((s.put MGMT_PREQ_PENDING 1).put MGMT_PRES_RES 0).put MGMT_IRQ_PREQ 1
  if s.preqRefused t then (s.put MGMT_PRES_RES 2).put MGMT_PREQ_PENDING 0
  else if t = 5 then s.wakeIn [4, 3] 11
  else s

/-- PREQ (R412). -/
def execMgmtPreq (f : List Byte) (s : State) : Res :=
  .next (s.mgmtWrite 0x40 1 f (fun s => s.powerRequest (bytesNat (f.take 1))))

end Sys2Proof.Machine
end

