-- ==== Sys2Proof/Machine/Xop.lean ====
section
/-! DEFINITION. Micro-routines as they run (spec/06): the effects of a microword, XOP, and the micro-traps. -/
namespace Sys2Proof.Machine

/-! ## The access of a word -/

/-- A word of the customer window. -/
def inCustomer (a : Nat) : Bool := decide (0x1400 ≤ a) && decide (a < 0x1800)

/-- An access by the word at micro-address `at'` that R173 refuses: one of a customer routine to a target that is not SRAM, the
scratchpad or, for a load, flash. -/
def customerBarred (at' : Nat) (write : Bool) (a : Nat) : Bool :=
  inCustomer at' && !(inSram a || inScratch a || (!write && inFlash a))

/-- The precise exception of an access that is refused: recorded with its REASON. -/
def State.mwRefused (s : State) (write : Bool) (a r : Nat) : LsuOut :=
  .exc (s.recordRefusal .cluster (if write then .write else .read) a false s.pset r) 0x28 (b2n write) a false

/-- The exception of an access that a word has made since `s`: none where the fault it raised brought a reset or LIMP. -/
def State.mwExc (s t : State) (m : Micro) (id sub addr : Nat) (raised : Bool) : MOut :=
  if s.cut t then .out t else t.mwTrap m id sub addr (some addr) (if raised then some s.noticeDue else none)

/-- The access of the LSU field outside the Ring windows (R103, R151, R173): the state and the data a load gives, or the exception
it takes. -/
def State.mwLsu (s : State) (w : MWord) (at' addr : Nat) (data : Word) : LsuOut :=
  let sz := mwSize (mf w 77 2)
  let op := mf w 79 2
  if (op == 1 || op == 2) && customerBarred at' (op == 2) addr then
    s.mwRefused (op == 2) addr ((s.refusal .cluster (if op = 2 then .write else .read) addr).getD 3)
  else if op = 1 then
    (let k := s.conflicts addr sz.bytes
     match s.lsuLoad addr sz with
     | .done s v => .done (if k = 0 then s else s.spend k) (widen sz (mf w 76 1 == 1) v).toNat
     | e => e)
  else if op = 2 then s.lsuStore addr sz data
  else .done s 0

/-- The CCLK from the issue of a routine's load to its result (Table 4.3, R105). -/
def State.mwLoadTime (s : State) (a : Nat) : Nat := if inFlash a then 8 else if inPeriph a then 4 + s.releaseL else 2

/-- An RSV issue (Table 6.6) by the word at micro-address `at'`: none where no station is free. -/
def State.mwIssue (s : State) (m : Micro) (iw : Word) (w : MWord) (at' : Nat) (a b : Word) (addr : Nat) : Option (LsuOut) :=
  let dest := match mwBoard m iw (mf w 103 6) with
    | [r] => r
    | _ => 0
  let k := mf w 35 3
  match s.stationFree with
  | none => none
  | some n =>
    let base : Station := ⟨n, .div, 0, none, s.level, 0, a, b, false, false, s.core.pc, false, false, true, 0, m.words + 18, false⟩
    if k = 0 then
      (let md := mf w 81 4
       let v := divide (md % 2 == 0) (decide (10 ≤ md)) a b
       some (.done (s.addStation { base with result := some (v.setWidth 64) }) 0))
    else if k = 1 then
      some (if inRingWin addr && !inCustomer at' then
          (match s.ringJudge .cluster false addr (mwSize (mf w 77 2)).bytes with
           | some r => s.mwRefused false addr r
           | none => .done (s.ringStart n false addr (mwSize (mf w 77 2)) (mf w 76 1 == 1) 0 0 true 0) 0)
        else match s.mwLsu (BitVec.ofNat 144 (mf w 75 4 * 2 ^ 75 + 2 ^ 79)) at' addr 0 with
          | .done s v => .done (s.addStation { base with
              kind := .load, result := some (BitVec.ofNat 64 v), due := m.words + s.mwLoadTime addr }) 0
          | e => e)
    else if k = 2 then (s.chIssue dest (mf w 30 5) (fld a 0 16) (mf w 40 8)).map (fun s => .done s 0)
    else
      match s.chCollect (fld a 0 10) with
      | (s', some (st, _)) => some (.done (s'.setReg dest (BitVec.ofNat 32 (waitWord (fld a 0 10) st))) 0)
      | (s, none) => some (.done (s.addStation { base with kind := .chwait, dest := dest, tag := fld a 0 10, micro := false }) 0)

/-- The MAC of the MD field. -/
def State.mwMac (s : State) (md : Nat) (a b : Word) : State :=
  if md = 4 then s.setAcc 0 (macSum true (s.acc 0) a b) else if md = 5 then s.setAcc 1 (macSum true (s.acc 1) a b)
  else if md = 6 then s.setAcc 0 (macSum false (s.acc 0) a b) else if md = 7 then s.setAcc 1 (macSum false (s.acc 1) a b)
  else s

/-- A scrub that a word issues is refused as a load of its block would be (R208, R252, Table 1.6). -/
def State.mwScrubBar (s : State) (w : MWord) (at' addr : Nat) : Option LsuOut :=
  let a := addr / 32 * 32
  if mf w 68 3 ≠ 3 then none
  else
    let why := if !(inSram a || inScratch a) || customerBarred at' false a then some 3 else s.refusal .cluster .read a
    why.map (s.mwRefused false a)

/-- The BUS field: a barrier, a drain, a scrub of the addressed block, a fetch-state invalidate. -/
def State.mwBus (s : State) (k addr : Nat) : State :=
  if k = 1 then s.sbSync.mapCommit else if k = 2 then s.sbSync
  else if k = 3 then (s.scrubWords (addr / 32 * 32) 8).detAdvance (scrubBlock (addr / 32 * 32))
  else if k = 4 then s.fetchInval else s

/-- The routine after a word whose effects are done (R154, Table 6.7): ends, traps, or forms the next micro-address; `ld` is the
data that the word before this one loaded (COND 0x0B). A BR tests the micro-flags as this word has updated them (DESIGN CHOICE,
log entry 126). -/
def State.mwNext (s : State) (m : Micro) (iw : Word) (w : MWord) (at' : Nat) (r : Word) (ld : Option Word) : MOut :=
  let ifu := mf w 16 4
  let seq := mf w 140 4
  let c := mf w 134 6
  let tgt := mf w 121 13
  if ifu = 1 then .fin s m none
  else if ifu = 2 then .fin s m (some r)
  else if ifu = 3 then .fin s.fetchInval m none
  else if seq = 6 then s.mwTrapWord m at' (mf w 40 8)
  else if seq = 1 then .go s { m with upc := tgt }
  else if seq = 2 then .go s { m with upc := tgt, stack := (at' + 1) :: m.stack }
  else if seq = 3 then
    (match m.stack with
     | [] => .hold s m
     | t :: k => .go s { m with upc := t, stack := k })
  else if seq = 4 then .go s { m with upc := if s.mwCond { m with loadData := ld } m.loop c then tgt else at' + 1 }
  else if seq = 5 then .go s { m with upc := (tgt + s.mwDisp m iw c) % 8192 }
  else .go s { m with upc := at' + 1 }

/-- Operand A before the shifter, operand B, and the address of the word. -/
def State.mwOps (s : State) (m : Micro) (iw : Word) (w : MWord) (coll : Word) : Word × Word × Nat :=
  let a0 := s.mwOperand m iw true w coll
  let b := s.mwOperand m iw false w coll
  (a0, b, (s.mwAddr (mf w 71 4) a0 b).toNat)

/-- The word's own access to a Ring window (R173, R360): it goes out through a station and the word waits for its RESP. -/
inductive MRing where
  | none
  | ready (s : State) (v : Word)
  | wait (s : State)
  | refused (x : LsuOut)

/-- The state of the own Ring access of the word at micro-address `at'`. -/
def State.mwRing (s : State) (m : Micro) (iw : Word) (w : MWord) (at' : Nat) (coll : Word) : MRing :=
  let op := mf w 79 2
  let addr := (s.mwOps m iw w coll).2.2
  let sz := mwSize (mf w 77 2)
  if !(op == 1 || op == 2) || !inRingWin addr || inCustomer at' then .none
  else match s.core.stations.find? (fun t => t.micro && decide (mwDirect ≤ t.mode) && t.opA.toNat == addr) with
    | some t =>
      (match t.result with
       | some v => .ready (s.dropStation t.n) (v.setWidth 32)
       | none => .wait s)
    | none =>
      match s.ringJudge .cluster (op == 2) addr sz.bytes with
      | some r => .refused (s.mwRefused (op == 2) addr r)
      | none =>
        match s.stationFree with
        | none => .wait s
        | some n => .wait (s.ringStart n (op == 2) addr sz (mf w 76 1 == 1) (s.mwRead m iw (mf w 109 6)) 0 true mwDirect)

/-- The loop counter after the word's MT field (Table 6.2). -/
def mwLoop (m : Micro) (w : MWord) (b : Word) : Nat :=
  let lc := mf w 22 2
  if lc = 1 then mf w 40 8 else if lc = 2 then (m.loop + 255) % 256 else if lc = 3 then fld b 0 8 else m.loop

/-- The effects of a word that is not held (R151); `lsu` is what its access gave, if it is made already. Operand A is taken after
the shifter everywhere, and of several fields that write mt2 or the loop counter the CRC comes first and RFW last (DESIGN
CHOICE, log entry 126). -/
def State.mwExec (s : State) (m : Micro) (iw : Word) (w : MWord) (at' : Nat) (coll : Word) (lsu : Option Word) : MOut :=
  let x := s.freeVal
  let o := s.mwOps m iw w coll
  let s := s.freed
  let a0 := o.1
  let b := o.2.1
  let amt := if mf w 85 3 = 0 then shAmt b else if mf w 85 3 = 1 then mf w 40 5 else shAmt m.mt2
  let a := mwShift (mf w 88 3) amt a0
  let r := mwMul (mf w 81 4) a b (mwAlu (mf w 97 6) a b x)
  let addr := o.2.2
  let data := s.mwRead m iw (mf w 109 6)
  match (match s.mwScrubBar w at' addr with
    | some e => e
    | none => match lsu with
      | some v => LsuOut.done s v.toNat
      | none => s.mwLsu w at' addr data) with
  | .exc t id sub ad raised => s.mwExc t m id sub ad raised
  | .done s ld =>
    match (if mf w 38 2 = 1 then s.mwIssue m iw w at' a b addr else some (.done s 0)) with
    | none => .hold s m
    | some (.exc t id sub ad raised) => s.mwExc t m id sub ad raised
    | some (.done s _) =>
        let prev := m.loadData
        let s := (s.mwMac (mf w 81 4) a b).mwBus (mf w 68 3) addr
        let m := { m with bar := if mf w 68 3 = 1 then some m.words else m.bar }
        let fm := mf w 64 4
        let nf := mwFlags (mf w 97 6) a b r x
        let m := { m with flags := (m.flags &&& (15 - fm)) ||| (nf &&& fm), loadData := if mf w 79 2 = 1 then some (BitVec.ofNat 32 ld) else none }
        let m := { m with loop := mwLoop m w b }
        let m := { m with mt2 := mwCrc (mf w 12 4) m.mt2 a }
        let mt := mf w 24 2
        let m := if mt = 1 then { m with mt0 := r } else if mt = 2 then { m with mt1 := r } else if mt = 3 then { m with mt2 := r } else m
        let direct := mf w 38 2 = 1 && 2 ≤ mf w 35 3
        let p := if mf w 103 6 = 0x3F || direct then (s, m) else s.mwWrite m iw (mf w 103 6) (if mf w 38 2 = 2 then coll else r)
        p.1.mwNext p.2 iw w at' r prev

/-- The routine's cycles at a word that a collect, a WAIT for a completion or an END holds until results of Table 4.3 are there:
the word holds for the cycles between (R157, R174). -/
def State.mwHeld (s : State) (m : Micro) (w : MWord) : Micro :=
  let due := (s.mwStations.filter (fun t => t.result.isSome)).map (fun t => t.due)
  let first := match due with
    | [] => m.words
    | d :: ds => ds.foldl min d
  let wants := mf w 38 2 == 2 || (mf w 140 4 == 7 && mf w 134 6 == 0xA)
  let k := if wants then max m.words first else m.words
  { m with words := if mf w 16 4 != 0 then due.foldl max k else k }

/-- A word waits before it makes any effect (R151, R174): a WAIT whose condition does not hold, the loop counter as the word's
MT field leaves it (Table 6.4), a collect with nothing completed, an END with stations of the routine not completed, a register
that waits on an unknown result. -/
def State.mwWaits (s : State) (m : Micro) (iw : Word) (w : MWord) : Bool :=
  let regs := mwBoard m iw (mf w 115 6) ++ mwBoard m iw (mf w 109 6) ++ mwBoard m iw (mf w 103 6)
  (mf w 140 4 == 7 && !s.mwCond m (mwLoop m w (s.mwOps m iw w 0).2.1) (mf w 134 6)) ||
  (mf w 38 2 == 2 && (s.mwDone m).isEmpty) ||
  (mf w 16 4 != 0 && s.mwStations.any (fun t => t.result.isNone)) ||
  !s.ready regs

/-- A checkpoint is taken: the stations of the routine so far were issued before it (R160). -/
def State.keepStations (s : State) : State :=
  let l := s.level
  s.onCore (fun c => { c with
    stations := c.stations.map (fun t => if t.micro && t.level == l then { t with kept := true } else t) })

/-- A CALL with both entries of the micro-stack in use, or a RET with none (R155). -/
def mwStackBad (m : Micro) (w : MWord) : Bool :=
  mf w 16 4 == 0 && ((mf w 140 4 == 2 && decide (2 ≤ m.stack.length)) || (mf w 140 4 == 3 && m.stack.isEmpty))

/-! ## Micro-traps -/

/-- The CCLK that a micro-trap adds at a resumable word, without the re-execution (Table 6.9). -/
def microCost (wait : Nat) : MicroCause → Nat
  | .eccCorrection => 9
  | .lineMiss => 11
  | .stationsFull => 5 + wait
  | .pendingCheck => 7

/-- The service time of Table 6.9, for which a word of a routine that is not resumable stalls. -/
def microStall (wait : Nat) : MicroCause → Nat
  | .eccCorrection => 4
  | .lineMiss => 6
  | .stationsFull => wait
  | .pendingCheck => 2

/-- The cause of a micro-trap that a word meets by its access or its issue at `addr` (Table 6.9): an access soon after a barrier
of the routine, a load from flash that misses the line buffers, a load of a word that is corrected under class Correct, an
issue that finds every station busy with results that come in fixed time. -/
def State.mwCause (s : State) (m : Micro) (w : MWord) (at' addr : Nat) : Option MicroCause :=
  let op := mf w 79 2
  let issue := mf w 38 2 == 1
  let load := op == 1 || (issue && mf w 35 3 == 1)
  let access := load || op == 2
  let soon := match m.bar with
    | some k => decide (m.words ≤ k + 2)
    | none => false
  let granted := (s.refusal .cluster .read addr).isNone && !customerBarred at' false addr
  let a := addr / 4 * 4
  let reads := (s.sbCovers a (beFirst addr (mwSize (mf w 77 2)).bytes)).isNone && (s.det || inScratch a || (s.dfind (a / 32 * 32)).isNone)
  let cls := s.unitClass a
  let bad := cls == .bad || cls == .wrongAddr
  if access && soon then some .pendingCheck
  else if load && inFlash addr && granted && reads && !bad && !s.core.lines.contains (addr / 32 * 32) then some .lineMiss
  else if op == 1 && (inSram addr || inScratch addr) && granted && reads && !bad && cls != .good &&
      s.get (clsFld (if inSram addr then 0x20 else 0x23)) == 1 then some .eccCorrection
  else if issue && s.stationFree.isNone && s.core.stations.any (fun t => t.result.isSome && !t.micro) then some .stationsFull
  else none

/-- What the service of a cause does (Table 6.9): the word is corrected in place, the line is read into a line buffer, a station
frees. -/
def State.mwServe (s : State) (c : MicroCause) (addr : Nat) : State :=
  match c with
  | .eccCorrection =>
    let a := addr / 4 * 4
    let r := s.memRead a false true
    if r.err.isNone then r.st.memStore a r.data else r.st
  | .lineMiss =>
    let r := s.lineRead (addr / 32 * 32)
    if r.2 then r.1.lineIn (addr / 32 * 32) else r.1
  | .stationsFull => s.makeRoom
  | .pendingCheck => s

/-- A word meets a cause (R162): a resumable routine saves its checkpoint in F1, is served and goes back to it; another stalls
for the service and its word goes on, as the flag says. -/
def State.mwMicroTrap (s : State) (m : Micro) (c : MicroCause) (addr : Nat) : State × Bool :=
  match m.ck with
  | some k =>
    let p := s.mwPay m
    let s := (p.1.bump MC_UTCNT_TRAPS 1).advance (microCost 0 c)
    (((s.mwServe c addr).onCore (fun x => { x with frame1 := some k })).microBack p.2 k, false)
  | none => (((s.bump MC_UTCNT_STALLS 1).advance (microStall 0 c)).mwServe c addr, true)

/-- The word's effects, once its micro-trap causes are served. -/
def State.mwGo (s : State) (m : Micro) (iw : Word) (w : MWord) (at' : Nat) (coll : Word) (drop : State → State) : MOut :=
  match s.mwRing m iw w at' coll with
  | .wait s => .hold s m
  | .refused (.exc t id sub ad raised) => s.mwExc t m id sub ad raised
  | .refused (.done s _) => .hold s m
  | .ready s v => (drop s).mwExec m iw w at' coll (some v)
  | .none => (drop s).mwExec m iw w at' coll none

/-- One microword of the routine (R147–R174). A checkpoint is taken in the word's first cycle, also where a WAIT holds it (DESIGN
CHOICE, log entry 126). -/
def State.mwStep (s : State) (m : Micro) : MOut :=
  let iw := xopWord m.rd m.ra m.xop
  let at' := s.redirect m.upc
  let m := { m with words := m.words + 1 }
  if 0x1800 ≤ at' then s.mwBad m at' false
  else
    let inj := s.injected 0x18 at'
    let s := if inj then s.injUsed 0x18 at' else s
    let w := s.mword at'
    if mf w 0 8 != (mwChk w at' ^^^ b2n inj) || mwReserved w then s.mwBad m at' inj
    else if mwStackBad m w then s.mwBad m at' false
    else
      let check := mf w 29 1 = 1 && m.stack.isEmpty
      let s := if check then s.keepStations else s
      let m := if check then { m with ck := some (mwCheckpoint m at' (mf w 26 3)) } else m
      let m := s.mwHeld m w
      if s.mwWaits m iw w then .hold s m
      else
        let s := s.land (fun t => needs (mwBoard m iw (mf w 115 6) ++ mwBoard m iw (mf w 109 6) ++ mwBoard m iw (mf w 103 6)) t)
        let got := if mf w 38 2 = 2 then (s.mwDone m).head? else none
        let coll := match got with
          | some t => (t.result.getD 0).setWidth 32
          | none => 0
        let drop (s : State) : State := match got with
          | some t => s.dropStation t.n
          | none => s
        let addr := (s.mwOps m iw w coll).2.2
        match s.mwCause m w at' addr with
        | some c =>
          let r := s.mwMicroTrap m c addr
          if s.cut r.1 then .out r.1
          else if r.2 then r.1.mwGo m iw w at' coll drop else .out r.1
        | none => if mf w 38 2 = 1 && s.stationFree.isNone then .hold s m else s.mwGo m iw w at' coll drop

/-! ## XOP -/

/-- An XOP ends (R142, R174): the stations it did not collect are discarded, the micro-state clears, and the next
instruction follows. -/
def State.xopEnd (s : State) (m : Micro) (target : Option Word) : State :=
  let s := (s.onCore (fun c => { c with micro := none })).dropRoutine
  match target with
  | some t => s.retireTo (2 + m.words - m.paid) t
  | none => s.retireSeq (2 + m.words - m.paid)

/-- A routine that has not ended stays in the sequencer, its cycles counted. -/
def State.mwStay (s : State) (m : Micro) : State :=
  let p := s.mwPay m
  p.1.onCore (fun c => { c with micro := some p.2 })

/-- The next word of a routine runs: the routine goes on in the sequencer, or ends, or the instruction takes an exception. -/
def State.mwRun (s : State) (m : Micro) : State :=
  match s.mwStep m with
  | .go t m => if s.cut t then t else t.mwStay m
  | .hold s m => s.mwStay m
  | .fin s m t => s.xopEnd m t
  | .out s => s

/-- A routine that stands in the sequencer, from a hold, from a micro-trap or from IRET, goes on where the cluster may issue; the
service of a micro-trap has ended (R162). -/
def State.xopGo (s : State) (m : Micro) : State :=
  if s.running && !s.haltHolds && !s.core.wfi then
    (s.settle ((s.onCore (fun c => { c with frame1 := none, frame2 := none })).mwRun m)).stepEnd
  else s

/-- A routine at its first word; the temporaries, the loop counter and the micro-flags hold free values. -/
def State.microStart (s : State) (n rd ra : Nat) : Micro :=
  let x := Config.free (s.freeCtr + 3)
  ⟨n, rd, ra, 0x1400 + s.get (MC_XOP_OFFSET n), Config.free s.freeCtr, Config.free (s.freeCtr + 1),
    Config.free (s.freeCtr + 2), x.toNat % 256, x.toNat / 256 % 16, [], none, none, 0, 0, none⟩

/-- XOP (R157, R160): dispatches to the customer window, or raises 0x1A; a routine already in the sequencer goes on, one
resumed by IRET with the instruction's fields. A divide in progress is written first (log entry 104); each command runs one word
of the routine, so that an interrupt may come between two (log entry 105). -/
def execXop (rd ra : Reg) (n : BitVec 6) (s : State) : Res :=
  .next (match s.core.micro with
    | some m => s.xopGo (if m.words = 0 then { m with xop := n.toNat, rd := rd.toNat, ra := ra.toNat } else m)
    | none => s.instr [rd.toNat] (fun s =>
      let s := s.divWait
      if !s.is (MC_XOP_VALID n.toNat) then s.trap 0x1A 0
      else { s with freeCtr := s.freeCtr + 4 }.mwRun (s.microStart n.toNat rd.toNat ra.toNat)))

/-! ## MICRO_TRAP -/

/-- The state of a service routine as F2 takes it: free values from number `x` on. -/
def serviceState (x : Nat) : Checkpoint :=
  let z := (Config.free (x + 2)).toNat
  ⟨Config.free x, Config.free (x + 1), z % 7, z / 8 % 256, z / 2048 % 16, z / 32768 % 8192⟩

/-- MICRO_TRAP (R162, R163): a cause met by a word of the service routine, or by one of the routine in the sequencer that its own
effects do not show. A resumable routine saves its checkpoint in F1, is served, and
resumes at it with the next XOP; a trap inside the service saves the service routine's state, which the spec does not give, in
F2 (free values); a third level raises 0x17. A routine that is not resumable stalls for the service. -/
def execMicroTrap (c : MicroCause) (wait : BitVec 16) (s : State) : Res :=
  .next (match s.core.micro with
    | none => s
    | some m =>
      if !s.running then s
      else match m.ck with
        | none => (s.bump MC_UTCNT_STALLS 1).advance (microStall wait.toNat c)
        | some k =>
          if s.core.frame2.isSome then
            let s := s.onCore (fun c => { c with micro := some { m with ck := none }, frame1 := none, frame2 := none })
            (s.takeException 0x17 0 s.core.pc.toNat none none).onCore (fun c => { c with micro := none })
          else
            let s := (s.bump MC_UTCNT_TRAPS 1).advance (microCost wait.toNat c)
            if s.core.frame1.isSome then
              { s with freeCtr := s.freeCtr + 3, core := { s.core with frame2 := some (serviceState s.freeCtr) } }
            else (s.onCore (fun c => { c with frame1 := some k })).microBack m k)

end Sys2Proof.Machine
end

