-- ==== Sys2Proof/Machine/Dispatch.lean ====
section
/-! DEFINITION. One arm per command: its meaning, or its refusal by name. -/
namespace Sys2Proof.Machine
open Sys2Proof

/-- The effect of a command on everything but the queue. -/
def exec (i : Instr) (s : State) : Host.Outcome State Fault Refusal :=
  match i with
  | .registerWrite m addr sz v => Sys2Proof.Machine.execRegisterWrite m addr sz v s
  | .admission g src railsEqual => Sys2Proof.Machine.execAdmission g src railsEqual s
  | .contestLimit m t => Sys2Proof.Machine.execContestLimit m t s
  | .faultCapture id detail unit => Sys2Proof.Machine.execFaultCapture id detail unit s
  | .rstcntClear => Sys2Proof.Machine.execRstcntClear s
  | .logBufferFlush => Sys2Proof.Machine.execLogBufferFlush s
  | .fltPendClear n w => Sys2Proof.Machine.execFltPendClear n w s
  | .snufferReadback pins => Sys2Proof.Machine.execSnufferReadback pins s
  | .snufferSelfCheck ok => Sys2Proof.Machine.execSnufferSelfCheck ok s
  | .clockLoss => Sys2Proof.Machine.execClockLoss s
  | .snufferSupplyOutOfRange bad => Sys2Proof.Machine.execSnufferSupplyOutOfRange bad s
  | .snfSwsnuff v => Sys2Proof.Machine.execSnfSwsnuff v s
  | .snfUnsnuff v => Sys2Proof.Machine.execSnfUnsnuff v s
  | .snfChalrsp v => Sys2Proof.Machine.execSnfChalrsp v s
  | .unsnuffLate => Sys2Proof.Machine.execUnsnuffLate s
  | .holdoffExpiry n => Sys2Proof.Machine.execHoldoffExpiry n s
  | .snfWwdkick v => Sys2Proof.Machine.execSnfWwdkick v s
  | .windowedWatchdogClose => Sys2Proof.Machine.execWindowedWatchdogClose s
  | .snfQawans v => Sys2Proof.Machine.execSnfQawans v s
  | .qaWatchdogClose => Sys2Proof.Machine.execQaWatchdogClose s
  | .snfWdcfgWrite m qa v => Sys2Proof.Machine.execSnfWdcfgWrite m qa v s
  | .fltInjkey v => Sys2Proof.Machine.execFltInjkey v s
  | .injkeyExpiry => Sys2Proof.Machine.execInjkeyExpiry s
  | .fltInj m v => Sys2Proof.Machine.execFltInj m v s
  | .checkVectorCompare a b c => Sys2Proof.Machine.execCheckVectorCompare a b c s
  | .engineVectorCompare p q => Sys2Proof.Machine.execEngineVectorCompare p q s
  | .rollingSignature a b c => Sys2Proof.Machine.execRollingSignature a b c s
  | .rekindle r => Sys2Proof.Machine.execRekindle r s
  | .rekindleVerify a b c => Sys2Proof.Machine.execRekindleVerify a b c s
  | .rekindleTimeout => Sys2Proof.Machine.execRekindleTimeout s
  | .lntModeWrite m v => Sys2Proof.Machine.execLntModeWrite m v s
  | .lntJoin r ok => Sys2Proof.Machine.execLntJoin r ok s
  | .lanternSelfTest t => Sys2Proof.Machine.execLanternSelfTest t s
  | .haltreq => Sys2Proof.Machine.execHaltreq s
  | .breakpoint addr => Sys2Proof.Machine.execBreakpoint addr s
  | .dbgStep => Sys2Proof.Machine.execDbgStep s
  | .dbgResume => Sys2Proof.Machine.execDbgResume s
  | .dbgRegdata w => Sys2Proof.Machine.execDbgRegdata w s
  | .interruptEntry => Sys2Proof.Machine.execInterruptEntry s
  | .exceptionEntry id sub addr => Sys2Proof.Machine.execExceptionEntry id sub addr s
  | .stationResult n => Sys2Proof.Machine.execStationResult n s
  | .tagWaitTimeout n => Sys2Proof.Machine.execTagWaitTimeout n s
  | .storeBufferCommit => Sys2Proof.Machine.execStoreBufferCommit s
  | .impreciseStoreError addr => Sys2Proof.Machine.execImpreciseStoreError addr s
  | .illegalInstruction w => Sys2Proof.Machine.execIllegalInstruction w s
  | .add rd ra rb => Sys2Proof.Machine.execAdd rd ra rb s
  | .sub rd ra rb => Sys2Proof.Machine.execSub rd ra rb s
  | .andr rd ra rb => Sys2Proof.Machine.execAndr rd ra rb s
  | .orr rd ra rb => Sys2Proof.Machine.execOrr rd ra rb s
  | .xorr rd ra rb => Sys2Proof.Machine.execXorr rd ra rb s
  | .nor rd ra rb => Sys2Proof.Machine.execNor rd ra rb s
  | .shl rd ra rb => Sys2Proof.Machine.execShl rd ra rb s
  | .shr rd ra rb => Sys2Proof.Machine.execShr rd ra rb s
  | .sar rd ra rb => Sys2Proof.Machine.execSar rd ra rb s
  | .ror rd ra rb => Sys2Proof.Machine.execRor rd ra rb s
  | .slt rd ra rb => Sys2Proof.Machine.execSlt rd ra rb s
  | .sltu rd ra rb => Sys2Proof.Machine.execSltu rd ra rb s
  | .seq rd ra rb => Sys2Proof.Machine.execSeq rd ra rb s
  | .min rd ra rb => Sys2Proof.Machine.execMin rd ra rb s
  | .max rd ra rb => Sys2Proof.Machine.execMax rd ra rb s
  | .minu rd ra rb => Sys2Proof.Machine.execMinu rd ra rb s
  | .maxu rd ra rb => Sys2Proof.Machine.execMaxu rd ra rb s
  | .mul rd ra rb => Sys2Proof.Machine.execMul rd ra rb s
  | .mulh rd ra rb => Sys2Proof.Machine.execMulh rd ra rb s
  | .mulhu rd ra rb => Sys2Proof.Machine.execMulhu rd ra rb s
  | .div rd ra rb => Sys2Proof.Machine.execDiv rd ra rb s
  | .divu rd ra rb => Sys2Proof.Machine.execDivu rd ra rb s
  | .rem rd ra rb => Sys2Proof.Machine.execRem rd ra rb s
  | .remu rd ra rb => Sys2Proof.Machine.execRemu rd ra rb s
  | .mac ac ra rb => Sys2Proof.Machine.execMac ac ra rb s
  | .macu ac ra rb => Sys2Proof.Machine.execMacu ac ra rb s
  | .acrl rd ac => Sys2Proof.Machine.execAcrl rd ac s
  | .acrh rd ac => Sys2Proof.Machine.execAcrh rd ac s
  | .acw ac ra rb => Sys2Proof.Machine.execAcw ac ra rb s
  | .acclr ac => Sys2Proof.Machine.execAcclr ac s
  | .addi rd ra imm => Sys2Proof.Machine.execAddi rd ra imm s
  | .andi rd ra imm => Sys2Proof.Machine.execAndi rd ra imm s
  | .ori rd ra imm => Sys2Proof.Machine.execOri rd ra imm s
  | .xori rd ra imm => Sys2Proof.Machine.execXori rd ra imm s
  | .slti rd ra imm => Sys2Proof.Machine.execSlti rd ra imm s
  | .sltiu rd ra imm => Sys2Proof.Machine.execSltiu rd ra imm s
  | .shli rd ra sh => Sys2Proof.Machine.execShli rd ra sh s
  | .shri rd ra sh => Sys2Proof.Machine.execShri rd ra sh s
  | .sari rd ra sh => Sys2Proof.Machine.execSari rd ra sh s
  | .rori rd ra sh => Sys2Proof.Machine.execRori rd ra sh s
  | .lui rd imm => Sys2Proof.Machine.execLui rd imm s
  | .ldw rd ra imm => Sys2Proof.Machine.execLdw rd ra imm s
  | .ldh rd ra imm => Sys2Proof.Machine.execLdh rd ra imm s
  | .ldhu rd ra imm => Sys2Proof.Machine.execLdhu rd ra imm s
  | .ldb rd ra imm => Sys2Proof.Machine.execLdb rd ra imm s
  | .ldbu rd ra imm => Sys2Proof.Machine.execLdbu rd ra imm s
  | .stw rd ra imm => Sys2Proof.Machine.execStw rd ra imm s
  | .sth rd ra imm => Sys2Proof.Machine.execSth rd ra imm s
  | .stb rd ra imm => Sys2Proof.Machine.execStb rd ra imm s
  | .beq ra rb off => Sys2Proof.Machine.execBeq ra rb off s
  | .bne ra rb off => Sys2Proof.Machine.execBne ra rb off s
  | .blt ra rb off => Sys2Proof.Machine.execBlt ra rb off s
  | .bge ra rb off => Sys2Proof.Machine.execBge ra rb off s
  | .bltu ra rb off => Sys2Proof.Machine.execBltu ra rb off s
  | .bgeu ra rb off => Sys2Proof.Machine.execBgeu ra rb off s
  | .jmp off => Sys2Proof.Machine.execJmp off s
  | .call off => Sys2Proof.Machine.execCall off s
  | .jr ra imm => Sys2Proof.Machine.execJr ra imm s
  | .callr ra imm => Sys2Proof.Machine.execCallr ra imm s
  | .ret => Sys2Proof.Machine.execRet s
  | .csrr rd csr => Sys2Proof.Machine.execCsrr rd csr s
  | .csrw ra csr => Sys2Proof.Machine.execCsrw ra csr s
  | .modeWrite ra => Sys2Proof.Machine.execModeWrite ra s
  | .gate n => Sys2Proof.Machine.execGate n s
  | .gret => Sys2Proof.Machine.execGret s
  | .iret => Sys2Proof.Machine.execIret s
  | .syncBar => Sys2Proof.Machine.execSyncBar s
  | .iflush => Sys2Proof.Machine.execIflush s
  | .mbar => Sys2Proof.Machine.execMbar s
  | .mpuswap => Sys2Proof.Machine.execMpuswap s
  | .scrub ra => Sys2Proof.Machine.execScrub ra s
  | .wfi => Sys2Proof.Machine.execWfi s
  | .xop rd ra n => Sys2Proof.Machine.execXop rd ra n s
  | .chissue rd ra => Sys2Proof.Machine.execChissue rd ra s
  | .chissueResult => Sys2Proof.Machine.execChissueResult s
  | .chwait rd ra d => Sys2Proof.Machine.execChwait rd ra d s
  | .bkpt imm => Sys2Proof.Machine.execBkpt imm s
  | .microTrap c wait => Sys2Proof.Machine.execMicroTrap c wait s
  | .controlStoreScan => Sys2Proof.Machine.execControlStoreScan s
  | .mcCsctlRd => Sys2Proof.Machine.execMcCsctlRd s
  | .mcCsctlWr => Sys2Proof.Machine.execMcCsctlWr s
  | .icVcfgSw n => Sys2Proof.Machine.execIcVcfgSw n s
  | .holdExpiry => Sys2Proof.Machine.execHoldExpiry s
  | .mpuRegisterWrite m addr v => Sys2Proof.Machine.execMpuRegisterWrite m addr v s
  | .flashProgram key => Sys2Proof.Machine.execFlashProgram key s
  | .flashErase key => Sys2Proof.Machine.execFlashErase key s
  | .blankCheck key => Sys2Proof.Machine.execBlankCheck key s
  | .flashOperationComplete ok => Sys2Proof.Machine.execFlashOperationComplete ok s
  | .flcLock k v => Sys2Proof.Machine.execFlcLock k v s
  | .writeBack bank => Sys2Proof.Machine.execWriteBack bank s
  | .scrubRead bank => Sys2Proof.Machine.execScrubRead bank s
  | .scrubStarvation => Sys2Proof.Machine.execScrubStarvation s
  | .doorbell m q v => Sys2Proof.Machine.execDoorbell m q v s
  | .ceQcfgWrite m addr v => Sys2Proof.Machine.execCeQcfgWrite m addr v s
  | .ceCtlWrite m v => Sys2Proof.Machine.execCeCtlWrite m v s
  | .queueEntryFetch => Sys2Proof.Machine.execQueueEntryFetch s
  | .tagStallResume q => Sys2Proof.Machine.execTagStallResume q s
  | .directLaneIssue => Sys2Proof.Machine.execDirectLaneIssue s
  | .ceNop tag => Sys2Proof.Machine.execCeNop tag s
  | .portRead tag => Sys2Proof.Machine.execPortRead tag s
  | .portWrite tag => Sys2Proof.Machine.execPortWrite tag s
  | .portXfer tag => Sys2Proof.Machine.execPortXfer tag s
  | .monArm tag => Sys2Proof.Machine.execMonArm tag s
  | .monSample tag => Sys2Proof.Machine.execMonSample tag s
  | .adcConvert tag => Sys2Proof.Machine.execAdcConvert tag s
  | .waitEvent tag => Sys2Proof.Machine.execWaitEvent tag s
  | .timerSet tag => Sys2Proof.Machine.execTimerSet tag s
  | .ringSend tag => Sys2Proof.Machine.execRingSend tag s
  | .authNonce tag => Sys2Proof.Machine.execAuthNonce tag s
  | .ceBarrier tag => Sys2Proof.Machine.execCeBarrier tag s
  | .create tag => Sys2Proof.Machine.execCreate tag s
  | .destroy tag => Sys2Proof.Machine.execDestroy tag s
  | .ledgerRead tag => Sys2Proof.Machine.execLedgerRead tag s
  | .ledgerHold tag => Sys2Proof.Machine.execLedgerHold tag s
  | .completion tag => Sys2Proof.Machine.execCompletion tag s
  | .operationTimeout tag => Sys2Proof.Machine.execOperationTimeout tag s
  | .timerExpiry ch => Sys2Proof.Machine.execTimerExpiry ch s
  | .ceEvent ch code data => Sys2Proof.Machine.execCeEvent ch code data s
  | .sliceThresholdCrossing n x => Sys2Proof.Machine.execSliceThresholdCrossing n x s
  | .deglitch n upper => Sys2Proof.Machine.execDeglitch n upper s
  | .voterDisagreement g => Sys2Proof.Machine.execVoterDisagreement g s
  | .rateRecapture n => Sys2Proof.Machine.execRateRecapture n s
  | .sliceSelfCheck n failed => Sys2Proof.Machine.execSliceSelfCheck n failed s
  | .monThrWrite m n v => Sys2Proof.Machine.execMonThrWrite m n v s
  | .monRestart n => Sys2Proof.Machine.execMonRestart n s
  | .monWsetWrite m k v => Sys2Proof.Machine.execMonWsetWrite m k v s
  | .scanTick => Sys2Proof.Machine.execScanTick s
  | .sliceSettled n => Sys2Proof.Machine.execSliceSettled n s
  | .conversionComplete c codes => Sys2Proof.Machine.execConversionComplete c codes s
  | .calibrationStep c => Sys2Proof.Machine.execCalibrationStep c s
  | .calibrationOverdue c => Sys2Proof.Machine.execCalibrationOverdue c s
  | .referenceCheck c code => Sys2Proof.Machine.execReferenceCheck c code s
  | .portTransaction p o => Sys2Proof.Machine.execPortTransaction p o s
  | .txtmo p => Sys2Proof.Machine.execTxtmo p s
  | .busLowTimeout p => Sys2Proof.Machine.execBusLowTimeout p s
  | .busRecovery p sclHigh sdaHigh => Sys2Proof.Machine.execBusRecovery p sclHigh sdaHigh s
  | .portRecover p => Sys2Proof.Machine.execPortRecover p s
  | .portRestart p => Sys2Proof.Machine.execPortRestart p s
  | .portDaa p devs => Sys2Proof.Machine.execPortDaa p devs s
  | .portAlert p on => Sys2Proof.Machine.execPortAlert p on s
  | .arbitrationLost p => Sys2Proof.Machine.execArbitrationLost p s
  | .inBandInterrupt p addr data => Sys2Proof.Machine.execInBandInterrupt p addr data s
  | .hotJoin p => Sys2Proof.Machine.execHotJoin p s
  | .smbusAlert p addr => Sys2Proof.Machine.execSmbusAlert p addr s
  | .hostNotify p addr data => Sys2Proof.Machine.execHostNotify p addr data s
  | .targetWrite p data => Sys2Proof.Machine.execTargetWrite p data s
  | .targetRead p c n => Sys2Proof.Machine.execTargetRead p c n s
  | .uartReceive p c bad => Sys2Proof.Machine.execUartReceive p c bad s
  | .uartReceiveEvent p => Sys2Proof.Machine.execUartReceiveEvent p s
  | .portPcmdRd => Sys2Proof.Machine.execPortPcmdRd s
  | .portPcmdWr m => Sys2Proof.Machine.execPortPcmdWr m s
  | .portPcmdRestart => Sys2Proof.Machine.execPortPcmdRestart s
  | .prbsCheck k ok => Sys2Proof.Machine.execPrbsCheck k ok s
  | .tstCtlWrite m k v => Sys2Proof.Machine.execTstCtlWrite m k v s
  | .gpInput n level => Sys2Proof.Machine.execGpInput n level s
  | .linkin => Sys2Proof.Machine.execLinkin s
  | .ringLinkLoss => Sys2Proof.Machine.execRingLinkLoss s
  | .badFrame k => Sys2Proof.Machine.execBadFrame k s
  | .ringBeat f => Sys2Proof.Machine.execRingBeat f s
  | .beatSend => Sys2Proof.Machine.execBeatSend s
  | .ringMemberLost id => Sys2Proof.Machine.execRingMemberLost id s
  | .beatTimeout => Sys2Proof.Machine.execBeatTimeout s
  | .ringEnum f => Sys2Proof.Machine.execRingEnum f s
  | .enumResend => Sys2Proof.Machine.execEnumResend s
  | .noenum => Sys2Proof.Machine.execNoenum s
  | .ringWreq f => Sys2Proof.Machine.execRingWreq f s
  | .ringRreq f => Sys2Proof.Machine.execRingRreq f s
  | .ringResp f => Sys2Proof.Machine.execRingResp f s
  | .busyResend idx => Sys2Proof.Machine.execBusyResend idx s
  | .remoteTimeout idx => Sys2Proof.Machine.execRemoteTimeout idx s
  | .ringMsg f => Sys2Proof.Machine.execRingMsg f s
  | .sendFragmentTimeout src => Sys2Proof.Machine.execSendFragmentTimeout src s
  | .ringSnuff id seq => Sys2Proof.Machine.execRingSnuff id seq s
  | .snufftx => Sys2Proof.Machine.execSnufftx s
  | .snuffRepeat => Sys2Proof.Machine.execSnuffRepeat s
  | .snuffForget id => Sys2Proof.Machine.execSnuffForget id s
  | .ringEnumWrite => Sys2Proof.Machine.execRingEnumWrite s
  | .ringMrst id => Sys2Proof.Machine.execRingMrst id s
  | .ringPair f => Sys2Proof.Machine.execRingPair f s
  | .pairSend => Sys2Proof.Machine.execPairSend s
  | .pairFormationTimeout => Sys2Proof.Machine.execPairFormationTimeout s
  | .pairHeartbeatLoss => Sys2Proof.Machine.execPairHeartbeatLoss s
  | .ringYield id => Sys2Proof.Machine.execRingYield id s
  | .ringPctlYield => Sys2Proof.Machine.execRingPctlYield s
  | .ringPctlResync => Sys2Proof.Machine.execRingPctlResync s
  | .ringMirror f => Sys2Proof.Machine.execRingMirror f s
  | .mirrorSync => Sys2Proof.Machine.execMirrorSync s
  | .ringMflush => Sys2Proof.Machine.execRingMflush s
  | .hostWrite f => Sys2Proof.Machine.execHostWrite f s
  | .hostRead f early => Sys2Proof.Machine.execHostRead f early s
  | .hostWake => Sys2Proof.Machine.execHostWake s
  | .i3cPointerWrite f => Sys2Proof.Machine.execI3cPointerWrite f s
  | .hostSqdb c v => Sys2Proof.Machine.execHostSqdb c v s
  | .hostCqdb c v => Sys2Proof.Machine.execHostCqdb c v s
  | .hostH2d c v => Sys2Proof.Machine.execHostH2d c v s
  | .hostD2h c v => Sys2Proof.Machine.execHostD2h c v s
  | .hostMbirqRestart c => Sys2Proof.Machine.execHostMbirqRestart c s
  | .mgmtIdent => Sys2Proof.Machine.execMgmtIdent s
  | .mgmtState => Sys2Proof.Machine.execMgmtState s
  | .mgmtLidx f => Sys2Proof.Machine.execMgmtLidx f s
  | .mgmtLedger => Sys2Proof.Machine.execMgmtLedger s
  | .mgmtLogidx f => Sys2Proof.Machine.execMgmtLogidx f s
  | .mgmtLog => Sys2Proof.Machine.execMgmtLog s
  | .mgmtPend => Sys2Proof.Machine.execMgmtPend s
  | .mgmtHold f => Sys2Proof.Machine.execMgmtHold f s
  | .mgmtHoldres => Sys2Proof.Machine.execMgmtHoldres s
  | .mgmtPreq f => Sys2Proof.Machine.execMgmtPreq f s
  | .mgmtPres => Sys2Proof.Machine.execMgmtPres s
  | .mgmtClamp => Sys2Proof.Machine.execMgmtClamp s
  | .mgmtResponseTimeout cmd => Sys2Proof.Machine.execMgmtResponseTimeout cmd s
  | .mgmtPresWrite m v => Sys2Proof.Machine.execMgmtPresWrite m v s
  | .sysClampcntClr m v => Sys2Proof.Machine.execSysClampcntClr m v s
  | .pmReqWrite m v => Sys2Proof.Machine.execPmReqWrite m v s
  | .powerStateEntry => Sys2Proof.Machine.execPowerStateEntry s
  | .wake src => Sys2Proof.Machine.execWake src s
  | .wakePin n => Sys2Proof.Machine.execWakePin n s
  | .vmainWarning bad => Sys2Proof.Machine.execVmainWarning bad s
  | .vmainReset => Sys2Proof.Machine.execVmainReset s
  | .powerOn => Sys2Proof.Machine.execPowerOn s
  | .wickSwitchover onVbat => Sys2Proof.Machine.execWickSwitchover onVbat s
  | .coreUndervoltage bad => Sys2Proof.Machine.execCoreUndervoltage bad s
  | .coreOvervoltage bad => Sys2Proof.Machine.execCoreOvervoltage bad s
  | .dieOverTemperature bad => Sys2Proof.Machine.execDieOverTemperature bad s
  | .clockMonitor k bad => Sys2Proof.Machine.execClockMonitor k bad s
  | .pllLossOfLock pll => Sys2Proof.Machine.execPllLossOfLock pll s
  | .relock m v => Sys2Proof.Machine.execRelock m v s
  | .pllbrst => Sys2Proof.Machine.execPllbrst s
  | .pllLock pll cyc => Sys2Proof.Machine.execPllLock pll cyc s
  | .lockfail pll => Sys2Proof.Machine.execLockfail pll s
  | .clkClkoutWrite m v => Sys2Proof.Machine.execClkClkoutWrite m v s
  | .wickTick => Sys2Proof.Machine.execWickTick s
  | .periodicWake => Sys2Proof.Machine.execPeriodicWake s
  | .wkCntLoRead m => Sys2Proof.Machine.execWkCntLoRead m s
  | .wkCtlWrite m v => Sys2Proof.Machine.execWkCtlWrite m v s
  | .trimInRelease => Sys2Proof.Machine.execTrimInRelease s
  | .wkCntWrite m hi v => Sys2Proof.Machine.execWkCntWrite m hi v s
  | .trimMeasurement => Sys2Proof.Machine.execTrimMeasurement s
  | .trimMeasurementDone edges => Sys2Proof.Machine.execTrimMeasurementDone edges s
  | .trimCorrection => Sys2Proof.Machine.execTrimCorrection s
  | .todate => Sys2Proof.Machine.execTodate s
  | .tocnt => Sys2Proof.Machine.execTocnt s
  | .wickPowerLoss => Sys2Proof.Machine.execWickPowerLoss s
  | .rollbackAdvance m v => Sys2Proof.Machine.execRollbackAdvance m v s
  | .rollbackAdvanceDone => Sys2Proof.Machine.execRollbackAdvanceDone s
  | .resetN r => Sys2Proof.Machine.execResetN r s
  | .coldStart r => Sys2Proof.Machine.execColdStart r s
  | .warmStart r => Sys2Proof.Machine.execWarmStart r s
  | .programRoot m v => Sys2Proof.Machine.execProgramRoot m v s
  | .revokeRoot m v => Sys2Proof.Machine.execRevokeRoot m v s
  | .advanceLifecycle m v => Sys2Proof.Machine.execAdvanceLifecycle m v s
  | .otpProgramDone => Sys2Proof.Machine.execOtpProgramDone s
  | .keyUpdate m v => Sys2Proof.Machine.execKeyUpdate m v s
  | .keyUpdateDone ok => Sys2Proof.Machine.execKeyUpdateDone ok s
  | .patchVerify m v => Sys2Proof.Machine.execPatchVerify m v s
  | .patchProgram m v => Sys2Proof.Machine.execPatchProgram m v s
  | .ksPdata m v => Sys2Proof.Machine.execKsPdata m v s
  | .unlchal => Sys2Proof.Machine.execUnlchal s
  | .unlresp dr => Sys2Proof.Machine.execUnlresp dr s
  | .denyUnlock m => Sys2Proof.Machine.execDenyUnlock m s
  | .endUnlock m => Sys2Proof.Machine.execEndUnlock m s
  | .healthTestFailure apt => Sys2Proof.Machine.execHealthTestFailure apt s
  | .rngRestart => Sys2Proof.Machine.execRngRestart s
  | .instantiate => Sys2Proof.Machine.execInstantiate s
  | .rngData m => Sys2Proof.Machine.execRngData m s
  | .reseed => Sys2Proof.Machine.execReseed s
  | .reseedTimeout => Sys2Proof.Machine.execReseedTimeout s
  | .vioBankChange bank present hv => Sys2Proof.Machine.execVioBankChange bank present hv s
  | .extest scan => Sys2Proof.Machine.execExtest scan s
  | .idcode => Sys2Proof.Machine.execIdcode s
  | .samplePreload pins scan => Sys2Proof.Machine.execSamplePreload pins scan s
  | .tapClamp => Sys2Proof.Machine.execTapClamp s
  | .highz => Sys2Proof.Machine.execHighz s
  | .bypass => Sys2Proof.Machine.execBypass s
  | .dbgacc write addr v => Sys2Proof.Machine.execDbgacc write addr v s
  | .dbgaccComplete => Sys2Proof.Machine.execDbgaccComplete s
  | .lossOfSync => Sys2Proof.Machine.execLossOfSync s
  | .ringCtlEn m v => Sys2Proof.Machine.execRingCtlEn m v s
  | .rcRead m addr => Sys2Proof.Machine.execRcRead m addr s
  | .injectionExpiry k => Sys2Proof.Machine.execInjectionExpiry k s
  | .prbsLock k => Sys2Proof.Machine.execPrbsLock k s
  | .trstN => Sys2Proof.Machine.execTrstN s
  | .entdaa addr => Sys2Proof.Machine.execEntdaa addr s
  | .setdasa sta addr => Sys2Proof.Machine.execSetdasa sta addr s

end Sys2Proof.Machine
end

