-- ==== Sys2Proof/Machine/Tick.lean ====
section
/-! DEFINITION. One AOCLK: what passes with time alone when no command is waiting (log entry 3). -/
namespace Sys2Proof.Machine

/-- One AOCLK of the scrub monitor's timer (R253): it runs in LIT while MODE.DET is 1. -/
def State.detTick (s : State) : State :=
  if !(s.lit && s.det) then s
  else
    let a := s.memi.detAge + 1
    if 1600000 ≤ a then s.scrubStarved
    else { s.put MEM_DETPTR_ELAPSED (a / 16000) with memi := { s.memi with detAge := a } }

/-- One AOCLK: the Snuffer's counters, the scrub monitor's timer, the calendar service, each ms the calibration ages (log entry 114), and each µs at most one block for the RNG FIFO (R488). -/
def State.tick (s : State) : State :=
  if !s.aoclkRuns then s
  else
    let s := { s with aoclk := s.aoclk + 1 }.snfTick.detTick.calStep
    let s := if s.aoclk % 16000 = 0 then s.calTick else s
    if s.aoclk % 16 = 0 then s.rngFill else s

end Sys2Proof.Machine
end

