-- ==== Sys2Proof/Safety.lean ====
section
/-! DEFINITION. What counts as safe, in the terms the statements use: outputs under the Snuffer's control, and the form that
every run keeps. -/
namespace Sys2Proof.Machine

/-- Output `n` stands at its safe level or is undriven: the Snuffer holds it SNUFFED (R51). -/
def State.heldSafe (s : State) (n : Nat) : Bool := bitOf s.snuffed n

/-- Every used output is snuffed. -/
def State.allSafe (s : State) : Bool := s.used &&& ~~~ s.snuffed == 0

/-- The memory stands in its canonical form. -/
def State.memOk (s : State) : Bool := Memory.wf s.mem

/-! ## What the statements about instructions say -/

/-- X takes the instruction at the pc: it can issue, every station is empty, no breakpoint stops it, no debug step is under way,
and its word is fetched, which leaves `f`. -/
def State.fetches (s f : State) : Prop :=
  s.canIssue = true ∧ s.bpStops = false ∧ s.core.stations = [] ∧ s.fetch = .ok f ∧ f.core.stations = [] ∧ f.core.inReset = false ∧
  f.limp = s.limp ∧ f.core.stepArmed = false

/-- The same beyond the general and core-local registers, the accumulators, the peripheral registers, memory and the
pipeline. -/
def State.sameUnits (s t : State) : Prop :=
  t.pending = s.pending ∧ t.latch = s.latch ∧ t.aoclk = s.aoclk ∧ t.rdata = s.rdata ∧ t.snf = s.snf ∧ t.flt = s.flt ∧
  t.lock = s.lock ∧ t.mc = s.mc ∧ t.memi = s.memi ∧ t.ce = s.ce ∧ t.mon = s.mon ∧ t.ports = s.ports ∧ t.ring = s.ring ∧
  t.pm = s.pm ∧ t.ks = s.ks ∧ t.rng = s.rng ∧ t.pins = s.pins ∧ t.tap = s.tap ∧ t.host = s.host ∧ t.mgmt = s.mgmt

/-- No byte of memory and no check bit differs. -/
def State.sameMem (s t : State) : Prop := (∀ a, t.byteAt a = s.byteAt a) ∧ ∀ u, t.codeAt u = s.codeAt u

/-- No peripheral register differs but IC_HOLDMAX, which takes the longest delay of the notice as a hold runs out (R191). -/
def State.samePeriph (s t : State) : Prop := (∀ a, a ≠ IC_HOLDMAX → t.rd a = s.rd a) ∧ t.mpu = s.mpu

/-- No core-local register differs but STATUS.HOLD, which clears as a hold runs out (R191). -/
def State.sameCsr (s t : State) : Prop :=
  (∀ n, n ≠ 0 → t.csrRaw n = s.csrRaw n) ∧ ∀ i, i ≠ 12 → bitOf (t.csrRaw 0) i = bitOf (s.csrRaw 0) i

/-- No general register and no accumulator differs. -/
def State.sameRegs (s t : State) : Prop := (∀ r, t.reg r = s.reg r) ∧ ∀ n, t.acc n = s.acc n

/-- An instruction's frame outside the general registers and the accumulators. -/
def State.sameButRegs (s t : State) : Prop := s.sameUnits t ∧ s.sameMem t ∧ s.samePeriph t ∧ s.sameCsr t

/-- The instruction retired in sequence, in deterministic mode after `n` CCLK and any crossing into a new flash line (R142,
R143). -/
def State.wentOn (s t : State) (n : Nat) : Prop :=
  t.core.pc = s.core.pc + 4 ∧
  (s.det = true → t.core.cycle = s.core.cycle + n + s.fetchCost (s.core.pc + 4).toNat)

/-- The instruction transferred to `a`, in deterministic mode after `n` CCLK and 6 more where `a` is in flash (R143). -/
def State.wentTo (s t : State) (n : Nat) (a : Word) : Prop :=
  t.core.pc = a ∧ (s.det = true → t.core.cycle = s.core.cycle + n + (if inFlash a.toNat then 6 else 0))

/-- An instruction that writes `v` to general register `rd` (w0 stays 0) and nothing else. -/
def State.wroteReg (s t : State) (rd : Reg) (v : Word) (n : Nat) : Prop :=
  (∀ r, t.reg r = if r = rd.toNat ∧ r ≠ 0 then v else s.reg r) ∧ (∀ k, t.acc k = s.acc k) ∧ s.wentOn t n ∧ s.sameButRegs t

/-- The word at `w` reads as it stands: no error is stored with it, and no injection aims at a transfer to it (R230, Table
2.6). -/
def State.plainWord (s : State) (w : Nat) : Bool := s.unitClass w == .good && !s.aimed 0x27 w

/-- A command of three register numbers completes as an instruction that writes `v` of its two sources to its destination. -/
def Writes3 (c : Reg → Reg → Reg → Instr) (n : Nat) (v : Word → Word → Word) : Prop :=
  ∀ (rd ra rb : Reg) (s f : State), s.fetches f →
    ∃ t, exec (c rd ra rb) s = .next t ∧ f.wroteReg t rd (v (f.reg ra.toNat) (f.reg rb.toNat)) n

/-- A command of two register numbers and an immediate completes as an instruction that writes `v` of its source and the
immediate to its destination. -/
def Writes2 {w : Nat} (c : Reg → Reg → BitVec w → Instr) (v : Word → BitVec w → Word) : Prop :=
  ∀ (rd ra : Reg) (imm : BitVec w) (s f : State), s.fetches f →
    ∃ t, exec (c rd ra imm) s = .next t ∧ f.wroteReg t rd (v (f.reg ra.toNat) imm) 1

/-- No injection of an ID in the range waits. -/
def State.noInj (s : State) (lo hi : Nat) : Bool := s.flt.inj.all (fun i => decide (i.id < lo) || decide (hi < i.id))

/-! ## What the statements about handlers say -/

/-- Hardware reads the words from `a` up, `n` of them, as they stand (R209, R230). -/
def State.readable (s : State) (a n : Nat) : Bool :=
  (List.range n).all (fun k => !s.unreachable .cluster (a + 4 * k) && s.plainWord (a + 4 * k))

/-- The two words of vector `v` in the handler table (R186) lie in memory below the log and hold no error, and neither does the
line of a handler in flash; no end-to-end check is to fail. -/
def State.tableGood (s : State) (v : Nat) : Bool :=
  let a := (s.csrRaw 0x010).toNat / 2048 * 2048 + 8 * v
  let h := (s.wordAt a &&& 0xFFFFFFFC).toNat
  s.noInj 0x27 0x27 && (inSram a || inScratch a) && decide (a + 8 ≤ 0x1800F000) && s.readable a 2 &&
  (!inFlash h || s.lineClass (h / 32 * 32) == .good)

/-- Vector `v` is entered at level `l` from `s` (R122, R145, R183, R184, R186): the save set of the level takes pc, STATUS,
CAUSE and w29, and the handler table gives address, mask, stack pointer and hold. -/
def State.entered (s t : State) (v l fid sub : Nat) (addr : Bool) : Prop :=
  let a := (s.csrRaw 0x010).toNat / 2048 * 2048 + 8 * v
  let w1 := s.wordAt (a + 4)
  let nest : Bool := fid != 0 && l == 8 && s.level == 8
  let sel := fld w1 4 2
  let h := min (fld w1 8 8) (fld (s.csrRaw 0x013) 0 8)
  t.core.pc = (s.wordAt a &&& 0xFFFFFFFC) ∧ t.core.wfi = false ∧ t.core.hold = h ∧ t.level = l ∧
  t.status 8 4 = (if fld w1 0 4 = 15 then s.status 8 4 else min (fld w1 0 4) 7) ∧ t.status 12 1 = b2n (h != 0) ∧
  t.ssDepth = s.ssDepth ∧ t.gDepth = s.gDepth ∧ t.pset = s.pset ∧
  t.csrRaw (0x100 + 8 * l) = s.precisePc ∧ t.csrRaw (0x101 + 8 * l) = s.csrRaw 0 ∧
  t.csrRaw (0x102 + 8 * l) = BitVec.ofNat 32 (v + fid * 256 + sub * 65536 + b2n nest * 2 ^ 20 + b2n addr * 2 ^ 21) ∧
  t.csrRaw (0x103 + 8 * l) = s.reg 29 ∧ (∀ r, r ≠ 29 → t.reg r = s.reg r) ∧ (∀ k, t.acc k = s.acc k) ∧
  t.reg 29 = (if sel = 1 ∨ sel = 2 ∧ s.level = 15 then BitVec.ofNat 32 (0x18000000 + 4 * fld w1 16 14) else s.reg 29) ∧
  t.get IC_STAT_LAST = v

/-! ## What the statements about events say -/

/-- FAULT_CAPTURE of the fault in state `u` gives `t`: what an event of the block's own detection leads to (R45). -/
def State.captures (u t : State) (id : BitVec 8) (detail : Word) (unit : BitVec 16) : Prop :=
  exec (.faultCapture id detail unit) u = .next t

/-- No peripheral register but those listed differs, and no byte of memory. -/
def State.onlyRegs (s t : State) (l : List Nat) : Prop := (∀ a, a ∉ l → t.rd a = s.rd a) ∧ s.sameMem t

/-- The Channel Engine runs the operation of a tag, which has started and has no result (R270). -/
def State.runsOp (s : State) (tag : BitVec 10) (op : Nat) (o : CeOp) : Prop :=
  s.ceOn = true ∧ s.ceFind tag.toNat = some o ∧ o.op = op ∧ o.started = true ∧ o.atUnit = false ∧ o.result = none

/-- Every ledger word reads as it stands (R284). -/
def State.ledgerGood (s : State) : Prop := ∀ i, s.codeAt (CE_LEDGER i) = 0

/-- Every word of partner record `n` reads as it stands (R327). -/
def State.recordGood (s : State) (n : Nat) : Prop := ∀ k < 4, s.codeAt (partnerKey n k) = 0

/-- The operation of a tag has ended with a status and data at the time of `s` (R266). -/
def State.opEnded (s t : State) (tag : BitVec 10) (st : Nat) (d : BitVec 64) : Prop :=
  ∃ o k, t.ceFind tag.toNat = some o ∧ o.result = some ⟨st, d, s.ceTime, k⟩

/-- The next entry of SQ `q` can be fetched whole, with its CRC right, and names a free tag of its window and an opcode
without a channel (R265, R270, R273). -/
def State.entryGood (s : State) (q : Nat) : Bool :=
  let a := (s.rd (CE_QBASE q)).toNat + 32 * s.get (CE_QPTR_HEAD q)
  let ws := (List.range 8).map (fun k => s.goodWord (a + 4 * k))
  let o := entryOp q ws
  (List.range 8).all (fun k => inSram (a + 4 * k) && (s.refusal .ce .read (a + 4 * k)).isNone && s.plainWord (a + 4 * k)) &&
  s.noInj 0x30 0x30 && a % 4 == 0 && crc16 ((wordsBytes ws).take 30) == fld (ws.getD 7 0) 16 16 &&
  s.inWindow (CE_TWIN q) o.tag && !s.tagHeld o.tag && decide (o.op ≤ 0xF) && !needsChannel o.op && decide (s.qDepth q ≤ 4096)

end Sys2Proof.Machine
end

