-- ==== Sys2Proof/Certificates/Slice0/Obligations.lean ====
section
/-! DEFINITION. The statements for the provers. -/
open Sys2Proof Sys2Proof.Machine

/-- A step on a state whose queue has `c` at its front is the effect of `c` on the state with the rest of the queue. -/
def Obligations.StepRunsFrontCommand : Prop :=
  ∀ (c : Instr) (q : List Instr) (s : State), step { s with pending := c :: q } = exec c { s with pending := q }

/-- R131: the register forms of the ALU group write their result to rd, leave everything else, and take 1 CCLK in deterministic
mode.
R131: the immediate forms of the ALU group and LUI write their result to rd and leave everything else: ADDI and the
compares extend the sign of the immediate, the logic forms extend it with zeros. -/
def Obligations.RegisterAndImmediateArithmetic : Prop :=
  (Writes3 .add 1 (fun a b => a + b) ∧ Writes3 .sub 1 (fun a b => a - b) ∧
   Writes3 .andr 1 (fun a b => a &&& b) ∧ Writes3 .orr 1 (fun a b => a ||| b) ∧
   Writes3 .xorr 1 (fun a b => a ^^^ b) ∧ Writes3 .nor 1 (fun a b => ~~~(a ||| b)) ∧
   Writes3 .shl 1 (fun a b => a <<< (b.toNat % 32)) ∧ Writes3 .shr 1 (fun a b => a >>> (b.toNat % 32)) ∧
   Writes3 .sar 1 (fun a b => a.sshiftRight (b.toNat % 32)) ∧ Writes3 .ror 1 (fun a b => a.rotateRight (b.toNat % 32)) ∧
   Writes3 .slt 1 (fun a b => if a.toInt < b.toInt then 1 else 0) ∧
   Writes3 .sltu 1 (fun a b => if a.toNat < b.toNat then 1 else 0) ∧
   Writes3 .seq 1 (fun a b => if a = b then 1 else 0) ∧
   Writes3 .min 1 (fun a b => if b.toInt < a.toInt then b else a) ∧
   Writes3 .max 1 (fun a b => if b.toInt < a.toInt then a else b) ∧
   Writes3 .minu 1 (fun a b => if b.toNat < a.toNat then b else a) ∧
   Writes3 .maxu 1 (fun a b => if b.toNat < a.toNat then a else b)) ∧
  (Writes2 .addi (fun a i => a + i.signExtend 32) ∧ Writes2 .andi (fun a i => a &&& i.setWidth 32) ∧
   Writes2 .ori (fun a i => a ||| i.setWidth 32) ∧ Writes2 .xori (fun a i => a ^^^ i.setWidth 32) ∧
   Writes2 .slti (fun a i => if a.toInt < i.toInt then 1 else 0) ∧
   Writes2 .sltiu (fun a i => if a.toNat < (i.signExtend 32).toNat then 1 else 0) ∧
   Writes2 .shli (fun a i => a <<< i.toNat) ∧ Writes2 .shri (fun a i => a >>> i.toNat) ∧
   Writes2 .sari (fun a i => a.sshiftRight i.toNat) ∧ Writes2 .rori (fun a i => a.rotateRight i.toNat) ∧
   (∀ (rd : Reg) (imm : BitVec 16) (s f : State), s.fetches f →
     ∃ t, exec (.lui rd imm) s = .next t ∧ f.wroteReg t rd (imm ++ (0 : BitVec 16)) 1))

/-- R132: the products, and the accumulator reads. A product's high word is the floor of the exact product by 2^32.
R132: the accumulator writes. MAC and MACU add the exact product to the accumulator; in throughput mode the sum waits in a
reservation station until the register is needed (Table 4.3). ACW joins two registers and ACCLR clears. -/
def Obligations.ProductsAndAccumulators : Prop :=
  (Writes3 .mul 2 (fun a b => BitVec.ofInt 32 (a.toInt * b.toInt)) ∧
   Writes3 .mulh 2 (fun a b => BitVec.ofInt 32 (a.toInt * b.toInt / 2 ^ 32)) ∧
   Writes3 .mulhu 2 (fun a b => BitVec.ofNat 32 (a.toNat * b.toNat / 2 ^ 32)) ∧
   (∀ (rd : Reg) (ac : BitVec 1) (s f : State), s.fetches f →
     (∃ t, exec (.acrl rd ac) s = .next t ∧ f.wroteReg t rd (BitVec.ofNat 32 (f.acc ac.toNat).toNat) 1) ∧
     (∃ t, exec (.acrh rd ac) s = .next t ∧ f.wroteReg t rd (BitVec.ofNat 32 ((f.acc ac.toNat).toNat / 2 ^ 32)) 1))) ∧
  ((∀ (signed : Bool) (ac : BitVec 1) (ra rb : Reg) (s f : State), s.fetches f →
     let p : Int := if signed then (f.reg ra.toNat).toInt * (f.reg rb.toNat).toInt
       else (f.reg ra.toNat).toNat * (f.reg rb.toNat).toNat
     let v : BitVec 64 := f.acc ac.toNat + BitVec.ofInt 64 p
     ∃ t, exec (if signed then .mac ac ra rb else .macu ac ra rb) s = .next t ∧
       (∀ r, t.reg r = f.reg r) ∧ f.wentOn t 3 ∧ f.sameButRegs t ∧
       (f.det = true → ∀ k, t.acc k = if k = ac.toNat then v else f.acc k) ∧
       (f.det = false → (∀ k, t.acc k = f.acc k) ∧ ∃ x ∈ t.core.stations, x.dest = 32 + ac.toNat ∧ x.result = some v)) ∧
   (∀ (ac : BitVec 1) (ra rb : Reg) (s f : State), s.fetches f →
     ∃ t, exec (.acw ac ra rb) s = .next t ∧
       (∀ k, t.acc k = if k = ac.toNat then f.reg rb.toNat ++ f.reg ra.toNat else f.acc k) ∧
       (∀ r, t.reg r = f.reg r) ∧ f.wentOn t 1 ∧ f.sameButRegs t) ∧
   (∀ (ac : BitVec 1) (s f : State), s.fetches f →
     ∃ t, exec (.acclr ac) s = .next t ∧ (∀ k, t.acc k = if k = ac.toNat then 0 else f.acc k) ∧
       (∀ r, t.reg r = f.reg r) ∧ f.wentOn t 1 ∧ f.sameButRegs t))

/-- R133: DIV, DIVU, REM and REMU. Division by zero gives all ones or the dividend, and the one signed overflow the dividend or
0; in throughput mode the result waits in a reservation station (Table 4.3), and a result for w0 is dropped. -/
def Obligations.Division : Prop :=
  ∀ (rd ra rb : Reg) (s f : State), s.fetches f →
    let a := f.reg ra.toNat
    let b := f.reg rb.toNat
    let ov : Bool := a == 0x80000000 && b == 0xFFFFFFFF
    let done (c : Instr) (v : Word) : Prop :=
      ∃ t, exec c s = .next t ∧ f.wentOn t 18 ∧ f.sameButRegs t ∧ (∀ k, t.acc k = f.acc k) ∧
        (f.det = true → ∀ r, t.reg r = if r = rd.toNat ∧ r ≠ 0 then v else f.reg r) ∧
        (f.det = false → (∀ r, t.reg r = f.reg r) ∧
          (rd.toNat ≠ 0 → ∃ x ∈ t.core.stations, x.dest = rd.toNat ∧ x.result = some (v.setWidth 64)))
    done (.div rd ra rb) (if b = 0 then 0xFFFFFFFF else if ov then 0x80000000 else a.sdiv b) ∧
    done (.divu rd ra rb) (if b = 0 then 0xFFFFFFFF else BitVec.ofNat 32 (a.toNat / b.toNat)) ∧
    done (.rem rd ra rb) (if b = 0 then a else if ov then 0 else a.srem b) ∧
    done (.remu rd ra rb) (if b = 0 then a else BitVec.ofNat 32 (a.toNat % b.toNat))

/-- R134: the five load forms from flash, SRAM and the scratchpad where no cache is looked up (deterministic mode, or the
scratchpad), the map grants the first byte, and the words hold no error: the bytes at ra plus the immediate, least significant
first, reach rd sign- or zero-extended, and nothing else changes. A load across a word boundary reads two words; a fetch of the
next instruction on the bank of a word adds 1 CCLK (R103).
R109, R111: in throughput mode a load from flash or SRAM whose line is not in the data cache fills the line, every word of
which reads without an error; rd receives the bytes at ra plus the immediate from SRAM, and from flash they wait in a station
that casts a load shadow. -/
def Obligations.MemoryLoads : Prop :=
  (∀ p ∈ [(Instr.ldw, 4, fun v : Nat => BitVec.ofNat 32 v), (Instr.ldh, 2, fun v => (BitVec.ofNat 16 v).signExtend 32),
       (Instr.ldhu, 2, fun v => BitVec.ofNat 32 v), (Instr.ldb, 1, fun v => (BitVec.ofNat 8 v).signExtend 32),
       (Instr.ldbu, 1, fun v => BitVec.ofNat 32 v)],
   ∀ (rd ra : Reg) (imm : BitVec 16) (s f : State), s.fetches f →
     let a := (f.reg ra.toNat + imm.signExtend 32).toNat
     let w := a / 4 * 4
     let two : Bool := decide (4 < a % 4 + p.2.1)
     (inFlash a || inSram a || inScratch a) = true → (f.det || inScratch a) = true → f.core.sb = [] →
     f.refusal .cluster .read a = none → f.plainWord w = true →
     (two = true → f.barred .cluster .read (w + 4) = false ∧ f.plainWord (w + 4) = true) →
     ∃ t, exec (p.1 rd ra imm) s = .next t ∧
       f.wroteReg t rd (p.2.2 (((f.goodWord w).toNat + (if two then (f.goodWord (w + 4)).toNat else 0) * 2 ^ 32) /
         2 ^ (8 * (a % 4)) % 2 ^ (8 * p.2.1))) ((if inFlash a then 8 else 2) + (if two then 1 else 0) + f.conflicts a p.2.1)) ∧
  (∀ p ∈ [(Instr.ldw, 4, fun v : Nat => BitVec.ofNat 32 v), (Instr.ldh, 2, fun v => (BitVec.ofNat 16 v).signExtend 32),
       (Instr.ldhu, 2, fun v => BitVec.ofNat 32 v), (Instr.ldb, 1, fun v => (BitVec.ofNat 8 v).signExtend 32),
       (Instr.ldbu, 1, fun v => BitVec.ofNat 32 v)],
   ∀ (rd ra : Reg) (imm : BitVec 16) (s f : State), s.fetches f →
     let a := (f.reg ra.toNat + imm.signExtend 32).toNat
     let w := a / 4 * 4
     (inFlash a || inSram a) = true → f.det = false → a % 4 + p.2.1 ≤ 4 → f.core.sb = [] →
     f.refusal .cluster .read a = none → f.plainWord w = true → f.dfind (a / 32 * 32) = none →
     (∀ k < 8, f.unitClass (a / 32 * 32 + 4 * k) = .good) → f.noInj 0x27 0x27 = true →
     let v := p.2.2 ((f.goodWord w).toNat / 2 ^ (8 * (a % 4)) % 2 ^ (8 * p.2.1))
     ∃ t, exec (p.1 rd ra imm) s = .next t ∧
       (inSram a = true → t.core.stations = [] ∧ ∀ r, t.reg r = if r = rd.toNat ∧ r ≠ 0 then v else f.reg r) ∧
       (inFlash a = true → (∀ r, t.reg r = f.reg r) ∧
         ∃ x ∈ t.core.stations, x.dest = rd.toNat ∧ x.shadow = true ∧ x.result = some (v.setWidth 64)) ∧
       t.core.dcache.head? = some ⟨a / 32 * 32, f.lineWords (a / 32 * 32)⟩ ∧ t.core.pc = f.core.pc + 4 ∧
       (∀ k, t.acc k = f.acc k) ∧ f.sameButRegs t)

/-- R113, R134: a granted store to SRAM or the scratchpad enters the empty store buffer with its byte enables and data, in two
entries where it crosses a word; memory and every register stay as they are until it commits.
R113, R241: the oldest entry of the store buffer is granted and commits: the bytes that its byte enables select take its
data and every other byte of memory stays. A word written in part is read first and must hold no error. -/
def Obligations.StoresAndTheirCommits : Prop :=
  (∀ p ∈ [(Instr.stw, 4), (Instr.sth, 2), (Instr.stb, 1)], ∀ (rd ra : Reg) (imm : BitVec 16) (s f : State), s.fetches f →
     let a := (f.reg ra.toNat + imm.signExtend 32).toNat
     let w := a / 4 * 4
     let two : Bool := decide (4 < a % 4 + p.2)
     let be := (2 ^ p.2 - 1) * 2 ^ (a % 4)
     let x := (f.reg rd.toNat).toNat * 2 ^ (8 * (a % 4))
     (inSram a || inScratch a) = true → f.core.sb = [] → f.refusal .cluster .write a = none →
     (two = true → f.barred .cluster .write (w + 4) = false) →
     ∃ t, exec (p.1 rd ra imm) s = .next t ∧
       t.core.sb = ⟨w, be % 16, BitVec.ofNat 32 x, false, a, f.pset, 0⟩ ::
         (if two then [⟨w + 4, be / 16, BitVec.ofNat 32 (x / 2 ^ 32), false, w + 4, f.pset, 0⟩] else []) ∧
       f.wentOn t (1 + (if two then 1 else 0)) ∧ f.sameRegs t ∧ f.sameButRegs t) ∧
  (∀ (s : State) (e : SbEntry) (rest : List SbEntry), s.core.sb = e :: rest → e.dropped = false → e.addr % 4 = 0 →
     s.aimed 0x16 e.addr = false → s.aimed 0x27 e.addr = false → (e.be % 16 = 15 ∨ s.unitClass e.addr = .good) →
     inFlash e.addr = false →
     ∃ t, exec .storeBufferCommit s = .next t ∧ t.core.sb = rest ∧
       ∀ b, t.byteAt b = if e.addr ≤ b ∧ b < e.addr + 4 ∧ e.be.testBit (b - e.addr) = true
         then BitVec.ofNat 8 (e.data.toNat / 2 ^ (8 * (b - e.addr))) else s.byteAt b)

/-- R7, R113, R134: a word load from a peripheral register outside the Channel Engine, granted by the map, gives rd the register
as the cluster reads it and takes 4 + L CCLK in deterministic mode; the read's own effect is carried out. A word store writes the
register as REGISTER_WRITE does, in 2 + L.
R10, R134, R181: with VBASE.EN 0 a load or store that reaches no range of the memory map raises fault 0x28 precisely and
stops issue; nothing is stored but the log entry at LOGHEAD, and no general register changes. -/
def Obligations.PeripheralAndUnmappedAccesses : Prop :=
  (∀ (rd ra : Reg) (imm : BitVec 16) (s f : State), s.fetches f → f.det = true →
     let a := (f.reg ra.toNat + imm.signExtend 32).toNat
     inPeriph a = true → a % 4 = 0 → inCe a = false → f.aimed 0x27 a = false →
     (f.refusal .cluster .read a = none →
       let g := (f.periphRead .cluster a true).1
       g.core = f.core → g.csr = f.csr → g.limp = f.limp →
       ∃ t, exec (.ldw rd ra imm) s = .next t ∧
         (∀ r, t.reg r = if r = rd.toNat ∧ r ≠ 0 then (f.periphRead .cluster a true).2 else g.reg r) ∧
         t.core.pc = f.core.pc + 4 ∧ t.core.cycle = f.core.cycle + (4 + g.releaseL) + g.fetchCost (f.core.pc + 4).toNat ∧
         g.sameMem t ∧ g.samePeriph t) ∧
     (f.refusal .cluster .write a = none →
       let g := f.periphWrite .cluster a true (f.reg rd.toNat)
       g.core = f.core → g.csr = f.csr → g.limp = f.limp →
       ∃ t, exec (.stw rd ra imm) s = .next t ∧ t.core.pc = f.core.pc + 4 ∧
         t.core.cycle = f.core.cycle + (2 + g.releaseL) + g.fetchCost (f.core.pc + 4).toNat ∧
         g.sameRegs t ∧ g.sameMem t ∧ g.samePeriph t)) ∧
  (∀ (rd ra : Reg) (imm : BitVec 16) (s f : State), s.fetches f → f.vbaseEn = false →
     let a := (f.reg ra.toNat + imm.signExtend 32).toNat
     let log := 0x1800F000 + 16 * f.get FLT_LOGHEAD_HEAD
     (inFlash a || inSram a || inScratch a || inPeriph a || inRingWin a) = false → f.get (clsFld 0x28) ≤ 2 → f.aoclkRuns = true →
     f.noInj 0x27 0x27 = true →
     ∀ c ∈ [Instr.ldw rd ra imm, .ldh rd ra imm, .ldhu rd ra imm, .ldb rd ra imm, .ldbu rd ra imm, .stw rd ra imm,
         .sth rd ra imm, .stb rd ra imm],
       ∃ t, exec c s = .next t ∧ t.core.stopped = true ∧ t.pend 0x28 = true ∧
       t.rd MPU_FADDR = BitVec.ofNat 32 a ∧ t.core.pc = f.core.pc ∧ f.sameRegs t ∧
       ∀ b, (b < log ∨ log + 16 ≤ b) → t.byteAt b = f.byteAt b)

/-- R135: a branch compares its two registers and, taken, goes to its own address plus four times the offset in 3 CCLK; not
taken it goes on in 1. No register and no memory changes.
R135, R136: J, and JR to an aligned target, transfer in 3 CCLK and change nothing else.
R136, R203: CALL and CALLR push the link to the shadow stack and w30 and transfer; RET pops the entry that equals w30 and
transfers to it. The shadow stack lies in the scratchpad (SSBASE); every byte outside the slot stays. -/
def Obligations.BranchesJumpsAndCalls : Prop :=
  (∀ p ∈ [(Instr.beq, fun a b : Word => decide (a = b)), (Instr.bne, fun a b => decide (a ≠ b)),
       (Instr.blt, fun a b => decide (a.toInt < b.toInt)), (Instr.bge, fun a b => decide (b.toInt ≤ a.toInt)),
       (Instr.bltu, fun a b => decide (a.toNat < b.toNat)), (Instr.bgeu, fun a b => decide (b.toNat ≤ a.toNat))],
   ∀ (ra rb : Reg) (off : BitVec 14) (s f : State), s.fetches f →
     ∃ t, exec (p.1 ra rb off) s = .next t ∧ f.sameRegs t ∧ f.sameButRegs t ∧
       (if p.2 (f.reg ra.toNat) (f.reg rb.toNat) then f.wentTo t 3 (f.core.pc + off.signExtend 32 * 4) else f.wentOn t 1)) ∧
  (∀ (s f : State), s.fetches f →
     (∀ off : BitVec 26, ∃ t, exec (.jmp off) s = .next t ∧ f.wentTo t 3 (f.core.pc + off.signExtend 32 * 4) ∧ f.sameRegs t ∧
       f.sameButRegs t) ∧
     ∀ (ra : Reg) (imm : BitVec 16), (f.reg ra.toNat + imm.signExtend 32).toNat % 4 = 0 →
       ∃ t, exec (.jr ra imm) s = .next t ∧ f.wentTo t 3 (f.reg ra.toNat + imm.signExtend 32) ∧ f.sameRegs t ∧ f.sameButRegs t) ∧
  (∀ (s f : State), s.fetches f → inScratch (f.ssBase + 4 * f.ssDepth) = true → f.aimed 0x27 (f.ssBase + 4 * f.ssDepth) = false →
     let link := f.core.pc + 4
     let slot := f.ssBase + 4 * f.ssDepth
     let frame (t : State) : Prop := (∀ k, t.acc k = f.acc k) ∧ (∀ n, n ≠ 0 → t.csrRaw n = f.csrRaw n) ∧
       (∀ i, i ≠ 12 → (i < 20 ∨ 29 ≤ i) → bitOf (t.csrRaw 0) i = bitOf (f.csrRaw 0) i) ∧
       ∀ a, a ≠ IC_HOLDMAX → a ≠ GT_HWM → t.rd a = f.rd a
     (f.ssDepth < 256 →
       let done (c : Instr) (a : Word) : Prop := ∃ t, exec c s = .next t ∧ f.wentTo t 3 a ∧
         (∀ r, t.reg r = if r = 30 then link else f.reg r) ∧ t.ssDepth = f.ssDepth + 1 ∧ frame t ∧
         ∀ b, t.byteAt b = if slot ≤ b ∧ b < slot + 4 then BitVec.ofNat 8 (link.toNat / 2 ^ (8 * (b - slot))) else f.byteAt b
       (∀ off : BitVec 26, done (.call off) (f.core.pc + off.signExtend 32 * 4)) ∧
       ∀ (ra : Reg) (imm : BitVec 16), (f.reg ra.toNat + imm.signExtend 32).toNat % 4 = 0 →
         done (.callr ra imm) (f.reg ra.toNat + imm.signExtend 32)) ∧
     (0 < f.ssDepth → f.plainWord (slot - 4) = true → f.wordAt (slot - 4) = f.reg 30 →
       ∃ t, exec .ret s = .next t ∧ f.wentTo t 3 (f.reg 30) ∧ f.sameRegs t ∧ t.ssDepth = f.ssDepth - 1 ∧ frame t ∧ f.sameMem t))

/-- R137, R141: CSRR of every number of Table 5.8 writes the register to rd and changes nothing else, but for CYCLE, whose
read latches the count's upper half in CYCLEH.
R137, R196: CSRW of a number of Table 5.8 other than MODE writes that register alone: a legal MASK, handler table, gate
table or shadow base, and a saved pc or stack pointer of any save set, take the value; a read-only register stays.
R120: MODE_WRITE, and CSRW to MODE, leave caches, line buffers, branch predictor and store buffer empty and take DET from
bit 0; MEM_STAT shows the scrubber or the monitor running by the new mode (R248, R253), and setting DET restarts the monitor. -/
def Obligations.CoreLocalRegisters : Prop :=
  (∀ (rd : Reg) (csr : BitVec 12) (s f : State), s.fetches f →
     let n := csr.toNat
     (∀ v : Word,
       (n ∈ [0x000, 0x001, 0x006, 0x010, 0x011, 0x012, 0x013] ∨ (0x100 ≤ n ∧ n < 0x148 ∧ n % 8 ≠ 7)) ∧ v = f.csrRaw n ∨
       n = 0x002 ∧ v = (if f.level ≤ 8 then f.csrRaw (0x102 + 8 * f.level) else 0) ∨
       n = 0x003 ∧ v = (if f.level ≤ 8 then f.csrRaw (0x100 + 8 * f.level) else 0) ∨
       n = 0x014 ∧ v = BitVec.ofNat 32 (4 * f.ssDepth) ∨ n = 0x016 ∧ v = BitVec.ofNat 32 (b2n f.pset) →
       ∃ t, exec (.csrr rd csr) s = .next t ∧ f.wroteReg t rd v 1) ∧
     (n = 0x005 → ∃ t, exec (.csrr rd csr) s = .next t ∧ f.wentOn t 1 ∧
       (∀ r, t.reg r = if r = rd.toNat ∧ r ≠ 0 then BitVec.ofNat 32 f.core.cycle else f.reg r) ∧
       t.csrRaw 6 = BitVec.ofNat 32 (f.core.cycle / 2 ^ 32))) ∧
  (∀ (ra : Reg) (csr : BitVec 12) (s f : State), s.fetches f →
     let n := csr.toNat
     let v := f.reg ra.toNat
     let ro := n ∈ [0x002, 0x003, 0x004, 0x005, 0x006, 0x014, 0x015, 0x016]
     let saved := 0x100 ≤ n ∧ n < 0x148 ∧ n % 8 ≠ 7
     (ro ∨ n ∈ [0x000, 0x010, 0x011, 0x012, 0x013] ∨ saved) →
     ∃ t, exec (.csrw ra csr) s = .next t ∧ f.wentOn t 1 ∧ f.sameRegs t ∧ f.sameUnits t ∧ f.sameMem t ∧ t.mpu = f.mpu ∧
       (∀ a, a ≠ IC_HOLDMAX → a ≠ SYS_CLAMPCNT → t.rd a = f.rd a) ∧
       (∀ k, k ≠ 0 → k ≠ n → k ≠ n + 6 → t.csrRaw k = f.csrRaw k) ∧ (ro → f.sameCsr t) ∧
       (n = 0x000 → f.status 12 1 = 0 → (fld v 8 4 ≤ 7 ∨ fld v 8 4 = 15) → t.status 8 4 = fld v 8 4 ∧
         t.level = f.level ∧ t.ssDepth = f.ssDepth ∧ t.gDepth = f.gDepth ∧ t.pset = f.pset) ∧
       (n = 0x010 → 0x18000000 ≤ v.toNat → v.toNat < 0x1800F000 → t.csrRaw n = BitVec.ofNat 32 (v.toNat / 2048 * 2048 + 1)) ∧
       (n = 0x011 → v.toNat < 0x400000 → t.csrRaw n = BitVec.ofNat 32 (v.toNat / 4096 * 4096)) ∧
       (n = 0x012 → f.ssDepth = 0 → f.gDepth = 0 → 0x18000000 ≤ v.toNat → v.toNat < 0x1800F000 →
         t.csrRaw n = BitVec.ofNat 32 (v.toNat / 2048 * 2048)) ∧
       (saved → n % 8 = 0 → t.csrRaw n = v &&& 0xFFFFFFFC) ∧ (saved → n % 8 = 3 → t.csrRaw n = v)) ∧
  (∀ (ra : Reg) (s f : State), s.fetches f → f.core.sb = [] → ∀ c ∈ [Instr.modeWrite ra, .csrw ra 1],
     ∃ t, exec c s = .next t ∧ t.core.pc = f.core.pc + 4 ∧ f.sameRegs t ∧ f.sameMem t ∧
       t.csrRaw 1 = (f.reg ra.toNat &&& 1) ∧ t.core.dcache = [] ∧ t.core.icache = [] ∧ t.core.lines = [] ∧ t.core.btb = [] ∧
       t.core.sb = [] ∧ bitOf (t.regView .cluster MEM_STAT) 3 = (f.lit && !bitOf (f.reg ra.toNat) 0) ∧
       bitOf (t.regView .cluster MEM_STAT) 4 = (f.lit && bitOf (f.reg ra.toNat) 0) ∧
       (bitOf (f.reg ra.toNat) 0 = true → t.get MEM_DETPTR_BLOCK = 0))

/-- R113, R116, R117: SYNC and IFLUSH go on once the store buffer is empty: with one granted full word in it they store that
word, with none they change nothing but that IFLUSH invalidates the fetch state.
R216, R217, R218: a write to a register of the protection map that its master may make is staged and leaves the committed map; MBAR and MPUSWAP
commit every staged value, and MPUSWAP toggles the active set with the store buffer as it is.
R103, R140, R252, R253: SCRUB of eight good words of SRAM or the scratchpad changes nothing but the monitor's pointer, which
advances where it names the block, in 4 CCLK and 1 more where the next fetch is on the block's bank; WFI stops issue unless an
interrupt is to be taken now. -/
def Obligations.BarriersScrubAndWait : Prop :=
  (∀ (s f : State), s.fetches f →
     (f.core.sb = [] →
       (∃ t, exec .syncBar s = .next t ∧ f.wentOn t 2 ∧ f.sameRegs t ∧ f.sameButRegs t ∧ t.core.sb = []) ∧
       (∃ t, exec .iflush s = .next t ∧ t.core.pc = f.core.pc + 4 ∧ f.sameRegs t ∧ f.sameButRegs t ∧ t.core.sb = [] ∧
         t.core.icache = [] ∧ t.core.lines = [] ∧ t.core.btb = [])) ∧
     ∀ e : SbEntry, f.core.sb = [e] → e.dropped = false → e.be % 16 = 15 → inScratch e.addr = true → e.addr % 4 = 0 →
       f.aimed 0x16 e.addr = false → f.aimed 0x27 e.addr = false →
       ∀ c ∈ [Instr.syncBar, .iflush], ∃ t, exec c s = .next t ∧ t.core.pc = f.core.pc + 4 ∧ f.sameRegs t ∧ t.core.sb = [] ∧
         ∀ b, t.byteAt b = if e.addr ≤ b ∧ b < e.addr + 4 then BitVec.ofNat 8 (e.data.toNat / 2 ^ (8 * (b - e.addr)))
           else f.byteAt b) ∧
  ((∀ (m : Master) (addr v : Word) (s : State), mapStaged addr.toNat = true → s.admits m addr.toNat = true →
     (addr.toNat = MPU_CTL → s.isSealed = true) →
     ∃ t, exec (.mpuRegisterWrite m addr v) s = .next t ∧ t.is MPU_CTL_STAGED = true ∧ (∀ a, t.mapReg a = s.mapReg a) ∧
       (∀ a, a ≠ addr.toNat → a ≠ MPU_CTL → a ≠ SYS_CLAMPCNT → a ≠ SYS_CLAMPLAST → t.rd a = s.rd a)) ∧
   (∀ (s f : State), s.fetches f → f.core.sb = [] →
     ∃ t, exec .mbar s = .next t ∧ f.wentOn t 3 ∧ f.sameRegs t ∧ f.sameMem t ∧ f.sameUnits t ∧ f.sameCsr t ∧
       t.is MPU_CTL_STAGED = false ∧ (∀ a, mapStaged a = true → a ≠ MPU_CTL → t.mapReg a = f.rd a) ∧
       ∀ a, a ≠ IC_HOLDMAX → a ≠ MPU_CTL → a ≠ MPU_STAT → t.rd a = f.rd a) ∧
   (∀ (s f : State), s.fetches f →
     ∃ t, exec .mpuswap s = .next t ∧ f.wentOn t 3 ∧ f.sameRegs t ∧ f.sameMem t ∧ f.sameUnits t ∧ t.core.sb = f.core.sb ∧
       t.pset = !f.pset ∧ t.is MPU_STAT_PSET = (!f.pset) ∧ t.is MPU_CTL_STAGED = false ∧
       (∀ a, mapStaged a = true → a ≠ MPU_CTL → t.mapReg a = f.rd a) ∧
       ∀ i, i ≠ 12 → i ≠ 29 → bitOf (t.csrRaw 0) i = bitOf (f.csrRaw 0) i)) ∧
  ((∀ (ra : Reg) (s f : State), s.fetches f →
     let a := (f.reg ra.toNat).toNat / 32 * 32
     (inSram a || inScratch a) = true → f.refusal .cluster .read a = none → (∀ k < 8, f.unitClass (a + 4 * k) = .good) →
     let hit : Bool := f.lit && f.det && decide (f.get MEM_DETPTR_BLOCK = scrubBlock a)
     ∃ t, exec (.scrub ra) s = .next t ∧ f.wentOn t (4 + b2n (f.fetchBank a)) ∧ f.sameRegs t ∧ f.sameMem t ∧ f.sameCsr t ∧
       (∀ r, r ≠ IC_HOLDMAX → r ≠ MEM_DETPTR → t.rd r = f.rd r) ∧
       t.get MEM_DETPTR_BLOCK = if hit then (if scrubBlock a = 26623 then 0 else scrubBlock a + 1) else f.get MEM_DETPTR_BLOCK) ∧
   (∀ (s f : State), s.fetches f →
     ∃ t, exec .wfi s = .next t ∧ f.wentOn t 2 ∧ f.sameRegs t ∧ f.sameButRegs t ∧ t.core.wfi = !t.takesNow))

/-- R198, R200, R201, R217: GATE through a valid entry without argument checks writes the frame of Table 7.8, enters the
gate's address with its stack pointer and region set, and commits the protection map.
R202, R217: GRET through a frame that passes its checks returns to its address, restores w29 and the region set, commits
the map and leaves memory. -/
def Obligations.GateCallsAndReturns : Prop :=
  (∀ (n : BitVec 7) (s f : State), s.fetches f → f.gDepth < 8 →
     let a := (f.csrRaw 0x011).toNat / 4096 * 4096 + 32 * n.toNat
     let w (k : Nat) : Word := f.goodWord (a + 4 * k)
     let fr := f.ssBase + 0x400 + 16 * f.gDepth
     f.readable a 7 = true → inScratch fr = true → f.noInj 0x27 0x27 = true →
     bitOf (w 0) 0 = true → fld (w 2) 8 8 = 0 →
     ∃ t, exec (.gate n) s = .next t ∧ f.wentTo t (12 + (if inFlash a then 6 else 0)) (w 0 &&& 0xFFFFFFFC) ∧
       t.gDepth = f.gDepth + 1 ∧ t.ssDepth = f.ssDepth ∧ t.level = f.level ∧
       t.pset = (if bitOf (w 2) 1 then f.pset else bitOf (w 2) 0) ∧
       (∀ r, t.reg r = if r = 29 ∧ fld (w 1) 2 30 ≠ 0 then w 1 &&& 0xFFFFFFFC else f.reg r) ∧ (∀ k, t.acc k = f.acc k) ∧
       t.wordAt fr = f.core.pc + 4 ∧ t.wordAt (fr + 4) = f.reg 29 ∧
       t.wordAt (fr + 8) = BitVec.ofNat 32 (f.level + b2n f.pset * 2 ^ 8 + n.toNat * 2 ^ 16 + 0xA5 * 2 ^ 24) ∧
       t.wordAt (fr + 12) = BitVec.ofNat 32 f.ssDepth ∧ (∀ b, (b < fr ∨ fr + 16 ≤ b) → t.byteAt b = f.byteAt b) ∧
       ∀ b, mapStaged b = true → b ≠ MPU_CTL → t.mapReg b = f.rd b) ∧
  (∀ (s f : State), s.fetches f → 0 < f.gDepth →
     let fr := f.ssBase + 0x400 + 16 * (f.gDepth - 1)
     let w (k : Nat) : Word := f.goodWord (fr + 4 * k)
     f.readable fr 4 = true →
     fld (w 2) 24 8 = 0xA5 → fld (w 2) 0 4 = f.level → fld (w 3) 0 9 = f.ssDepth →
     ∃ t, exec .gret s = .next t ∧ f.wentTo t 10 (w 0) ∧ t.gDepth = f.gDepth - 1 ∧ t.ssDepth = f.ssDepth ∧
       t.level = f.level ∧ t.pset = bitOf (w 2) 8 ∧ (∀ r, t.reg r = if r = 29 then w 1 else f.reg r) ∧
       (∀ k, t.acc k = f.acc k) ∧ f.sameMem t ∧ ∀ b, mapStaged b = true → b ≠ MPU_CTL → t.mapReg b = f.rd b)

/-- R125, R195: IRET at level 0 to 8 with the saved depths equal to the current ones restores pc, w29, level, mask and region
set from the level's save set; a divide record issues its divide again.
R122, R186, R188, R189, R191: at an open boundary INTERRUPT_ENTRY enters the chosen vector at its level; with none
eligible nothing changes; a hold's end, while CCLK runs for the cores, lets its CCLK pass and clears STATUS.HOLD. -/
def Obligations.InterruptEntryAndReturn : Prop :=
  (∀ (s f : State), s.fetches f → f.level ≤ 8 →
     let sv (k : Nat) : Word := f.csrRaw (0x100 + 8 * f.level + k)
     fld (sv 1) 16 4 = f.gDepth → fld (sv 1) 20 9 = f.ssDepth → fld (sv 6) 30 2 ≠ 1 →
     ∃ t, exec .iret s = .next t ∧ f.wentTo t 6 (sv 0) ∧ t.level = fld (sv 1) 0 4 ∧ t.status 8 4 = fld (sv 1) 8 4 ∧
       t.pset = bitOf (sv 1) 29 ∧ t.gDepth = f.gDepth ∧ t.ssDepth = f.ssDepth ∧
       (∀ r, t.reg r = if r = 29 then sv 3 else f.reg r) ∧ (∀ k, t.acc k = f.acc k) ∧ f.sameMem t ∧
       (fld (sv 6) 30 2 = 2 → ∃ x ∈ t.core.stations, x.kind = .div ∧ x.dest = fld (sv 6) 0 5 ∧ x.opA = sv 4 ∧ x.opB = sv 5)) ∧
  ((∀ (s : State) (n : Nat), s.samplingOpen = true → s.chosen = some n → s.tableGood n = true →
     ∃ t, exec .interruptEntry s = .next t ∧ s.entered t n (s.vecLevel n) 0 0 false ∧ s.sameMem t) ∧
   (∀ s : State, s.samplingOpen = false ∨ s.chosen = none → exec .interruptEntry s = .next s) ∧
   (∀ s : State, s.lit = true → s.core.inReset = false → ∃ t, exec .holdExpiry s = .next t ∧ t.core.hold = 0 ∧ t.core.cycle = s.core.cycle + s.core.hold ∧
     (s.core.hold ≠ 0 → t.status 12 1 = 0) ∧ t.core.pc = s.core.pc ∧ s.sameRegs t ∧ s.sameMem t ∧ s.sameUnits t))

/-- R181, R184, R186: a precise exception of a fault whose reaction is no Reset or Limp captures the fault and enters the
vector of its fault at the level of R184, saving the address of an access in IC_XADDR.
R128, R135, R136, R137, R157, R195, R200, R202, R203 and R95: the conditions under which an instruction traps, each with the
fault and SUB of the exception it takes. -/
def Obligations.ExceptionsAndTraps : Prop :=
  (∀ (id : BitVec 8) (sub : BitVec 4) (addr : Word) (s : State) (v : Nat), s.canIssue = true → s.aoclkRuns = true → excVector id.toNat = some v →
     s.core.hold = 0 → s.vbaseEn = true → s.appliedClass (s.get (clsFld id.toNat)) ≤ 5 → s.eligible 32 = false → s.tableGood v = true →
     let l := excLevel s.level (s.vecLevel v)
     ∃ t, exec (.exceptionEntry id sub addr) s = .next t ∧ s.entered t v l id.toNat sub.toNat (decide (9 ≤ v)) ∧
       t.pend id.toNat = true ∧ (9 ≤ v → t.rd (IC_XADDR l) = addr)) ∧
  (∀ (s f : State), s.fetches f → f.canIssue = true →
     let traps (c : Instr) (g : State) (id : BitVec 8) (sub : BitVec 4) : Prop :=
       ∃ t, exec c s = .next t ∧ exec (.exceptionEntry id sub 0) g = .next t
     let gf (n id sub : Nat) : State := f.wr GT_LASTF (BitVec.ofNat 32 (n % 128 + sub * 256 + f.level % 16 * 4096 + id * 65536))
     (∀ (ra : Reg) (imm : BitVec 16), (f.reg ra.toNat + imm.signExtend 32).toNat % 4 ≠ 0 →
       traps (.jr ra imm) f 0x10 2 ∧ traps (.callr ra imm) f 0x10 2) ∧
     (∀ (ra : Reg) (imm : BitVec 16), (f.reg ra.toNat + imm.signExtend 32).toNat % 4 = 0 → 256 ≤ f.ssDepth →
       traps (.callr ra imm) f 0x12 0) ∧
     (∀ off : BitVec 26, 256 ≤ f.ssDepth → traps (.call off) f 0x12 0) ∧
     (f.ssDepth = 0 → traps .ret f 0x12 1) ∧
     (0 < f.ssDepth → f.readable (f.ssBase + 4 * (f.ssDepth - 1)) 1 = true →
       f.goodWord (f.ssBase + 4 * (f.ssDepth - 1)) ≠ f.reg 30 → traps .ret f 0x11 0) ∧
     (∀ (r : Reg) (csr : BitVec 12), f.csrRead csr.toNat = none → traps (.csrr r csr) f 0x10 4 ∧ traps (.csrw r csr) f 0x10 4) ∧
     (8 < f.level → traps .iret f 0x10 5) ∧
     (∀ imm : BitVec 12, f.is DBG_CTL_HALTEN = false → traps (.bkpt imm) f 0x10 3) ∧
     (∀ (rd ra : Reg) (n : BitVec 6), f.is (MC_XOP_VALID n.toNat) = false → traps (.xop rd ra n) f 0x1A 0) ∧
     (∀ (w : Word) (sub : BitVec 4), sisDecode w = .illegal sub.toNat → traps (.illegalInstruction w) f 0x10 sub) ∧
     (f.gDepth = 0 → traps .gret (gf 0 0x14 1) 0x14 1))

/-- R157, R174: an XOP whose routine is the one idle END word at its entry in the customer window retires in 3 CCLK with every
register, accumulator and byte as it was.
R160, R162, R163: a micro-trap at a routine that is not resumable stalls it for the service alone; at a resumable one it
costs the counts of Table 6.9, and the routine's checkpoint goes to F1 and the routine back to it; a second level fills F2, and
a third raises 0x17 as an exception of the instruction. -/
def Obligations.RoutinesAndMicroTraps : Prop :=
  (∀ (rd ra : Reg) (n : BitVec 6) (s f : State), s.fetches f → f.is (MC_XOP_VALID n.toNat) = true →
     let a := 0x1400 + f.get (MC_XOP_OFFSET n.toNat)
     f.mword a = mwSeal (BitVec.ofNat 144 (0x3F * 2 ^ 103 + 2 ^ 16)) a → f.injected 0x18 a = false →
     ∃ t, exec (.xop rd ra n) s = .next t ∧ f.wentOn t 3 ∧ f.sameRegs t ∧ f.sameButRegs t ∧ t.core.micro = none) ∧
  (∀ (wait : BitVec 16) (s : State) (m : Micro), s.core.micro = some m → s.running = true →
     ∀ p ∈ [(MicroCause.eccCorrection, 4, 9), (.lineMiss, 6, 11), (.stationsFull, wait.toNat, 5 + wait.toNat), (.pendingCheck, 2, 7)],
     let counts (t : State) : Prop := s.sameRegs t ∧ s.sameMem t ∧ t.core.cycle = s.core.cycle + p.2.2 ∧
       t.get MC_UTCNT_TRAPS = min (s.get MC_UTCNT_TRAPS + 1) 0xFFFF
     (m.ck = none → ∃ t, exec (.microTrap p.1 wait) s = .next t ∧ t.core.micro = some m ∧ s.sameRegs t ∧ s.sameMem t ∧
       t.core.cycle = s.core.cycle + p.2.1 ∧ t.get MC_UTCNT_STALLS = min (s.get MC_UTCNT_STALLS + 1) 0xFF) ∧
     (∀ k, m.ck = some k → s.core.frame1 = none → s.core.frame2 = none → ∃ t m', exec (.microTrap p.1 wait) s = .next t ∧
       t.core.micro = some m' ∧ m'.upc = k.upc ∧ m'.loop = k.loop ∧ m'.flags = k.flags ∧ m'.stack = [] ∧ t.core.frame1 = some k ∧
       t.core.frame2 = none ∧ counts t) ∧
     (∀ k k1, m.ck = some k → s.core.frame1 = some k1 → s.core.frame2 = none → ∃ t, exec (.microTrap p.1 wait) s = .next t ∧
       t.core.micro = some m ∧ t.core.frame1 = some k1 ∧ t.core.frame2.isSome = true ∧ counts t) ∧
     (∀ k, m.ck = some k → s.core.frame2.isSome = true → s.aoclkRuns = true → s.vbaseEn = true → s.core.hold = 0 →
       s.appliedClass (s.get (clsFld 0x17)) ≤ 5 → s.eligible 32 = false → s.tableGood 6 = true →
       ∃ t, exec (.microTrap p.1 wait) s = .next t ∧ s.entered t 6 (excLevel s.level (s.vecLevel 6)) 0x17 0 false ∧
         t.pend 0x17 = true ∧ t.core.micro = none))

/-- R138, R139: CHISSUE sends its operation and w1 to w4 to the direct lane and waits in a station; CHWAIT of a tag with
nothing outstanding writes 0xFFFE with the tag, and of a held completion its status, with the data in ac1 where d is 1.
R107, R110, R115, R138: a result that has arrived is written to its register and its station freed, in whichever order
results arrive; a station that times out raises 0x15, a load among them giving 0; a buffered store's error raises 0x16. -/
def Obligations.DirectLaneAndStations : Prop :=
  ((∀ (rd ra : Reg) (s f : State), s.fetches f →
     let w := f.reg ra.toNat
     ∃ t, exec (.chissue rd ra) s = .next t ∧ f.wentOn t 2 ∧ f.sameRegs t ∧ f.sameMem t ∧ ∃ x ∈ t.core.stations,
       x.kind = .chissue ∧ x.dest = rd.toNat ∧ x.result = none ∧
       t.ce.lane = f.ce.lane ++ [⟨x.n, fld w 24 5, fld w 0 16, fld w 16 8, [f.reg 1, f.reg 2, f.reg 3, f.reg 4]⟩]) ∧
   (∀ (rd ra : Reg) (d : BitVec 1) (s f : State), s.fetches f →
     let tag := fld (f.reg ra.toNat) 0 10
     (f.ce.ops.find? (fun o => o.tag == tag && o.src == .lane) = none →
       ∃ t, exec (.chwait rd ra d) s = .next t ∧ f.wroteReg t rd (BitVec.ofNat 32 (0xFFFE + tag * 65536)) 2) ∧
     (∀ o r, f.ce.ops = [o] → o.tag = tag → o.src = .lane → o.result = some r → o.held = true → r.status < 0xFFFE → ∃ t, exec (.chwait rd ra d) s = .next t ∧ f.wentOn t 2 ∧
       (∀ k, t.reg k = if k = rd.toNat ∧ k ≠ 0 then BitVec.ofNat 32 (r.status + tag * 65536) else f.reg k) ∧
       ∀ k, t.acc k = if d = 1 ∧ k = 1 then r.data else f.acc k))) ∧
  ((∀ (n : BitVec 3) (s : State) (l r : List Station) (x : Station) (v : BitVec 64), s.core.stations = l ++ x :: r →
     (∀ y ∈ l ++ r, y.n ≠ n.toNat) → x.n = n.toNat → x.result = some v → x.micro = false → x.dest < 32 →
     (x.kind = .chwait → x.mode ≠ 1) →
     ∃ t, exec (.stationResult n) s = .next t ∧ t.core.stations = l ++ r ∧
       (∀ k, t.reg k = if k = x.dest ∧ k ≠ 0 then v.setWidth 32 else s.reg k) ∧ (∀ k, t.acc k = s.acc k) ∧ s.sameMem t) ∧
   (∀ (s : State) (l r : List Station) (x : Station) (v : BitVec 64), s.core.stations = l ++ x :: r →
     (∀ y ∈ l ++ r, y.kind ≠ .chissue ∧ y.n ≠ x.n) → x.kind = .chissue → x.result = some v → x.micro = false → x.dest < 32 →
     ∃ t, exec .chissueResult s = .next t ∧ t.core.stations = l ++ r ∧
       (∀ k, t.reg k = if k = x.dest ∧ k ≠ 0 then v.setWidth 32 else s.reg k) ∧ s.sameMem t) ∧
   (∀ (n : BitVec 3) (s : State) (x : Station), s.core.stations = [x] → x.n = n.toNat → x.result = none → x.kind = .load →
     x.micro = false → ∃ t, exec (.tagWaitTimeout n) s = .next t ∧
       exec (.faultCapture 0x15 x.at' 0) ((s.setReg x.dest 0).dropStation x.n) = .next t) ∧
   (∀ (addr : Word) (s : State), ∃ t, exec (.impreciseStoreError addr) s = .next t ∧
     exec (.faultCapture 0x16 addr 0) s = .next t))

/-- R95, R97, R98: a halt request, a breakpoint on the lead copy's address and BKPT with HALTEN stop the copies with their
cause; halted copies step, resume, and give their registers to DBG_REGDATA. In PRODUCTION without an unlock an intrusion is
captured as 0x78. -/
def Obligations.DebugHalts : Prop :=
  (∀ s : State, s.running = true → s.is DBG_STAT_HALTED = false → (s.get KS_LC_STATE ≠ 2 ∨ s.unlocked = true) →
    ∃ t, exec .haltreq s = .next t ∧ t.is DBG_STAT_HALTED = true ∧ t.get DBG_STAT_CAUSE = 0 ∧ s.sameRegs t ∧ s.sameMem t ∧
      t.core = s.core) ∧
  (∀ (addr : Word) (s : State), s.running = true → s.is DBG_STAT_HALTED = false → addr = s.core.pc → s.bpHit addr = true →
    ∃ t, exec (.breakpoint addr) s = .next t ∧ t.is DBG_STAT_HALTED = true ∧ t.get DBG_STAT_CAUSE = 1 ∧ s.sameRegs t ∧
      s.sameMem t ∧ t.core = s.core) ∧
  (∀ (imm : BitVec 12) (s f : State), s.fetches f → f.is DBG_CTL_HALTEN = true →
    ∃ t, exec (.bkpt imm) s = .next t ∧ t.is DBG_STAT_HALTED = true ∧ t.get DBG_STAT_CAUSE = 2 ∧ f.sameRegs t ∧ f.sameMem t ∧
      t.core.pc = f.core.pc) ∧
  (∀ s : State, s.is DBG_STAT_HALTED = true → (s.get KS_LC_STATE ≠ 2 ∨ s.unlocked = true) →
    (∃ t, exec .dbgStep s = .next t ∧ t.core.stepArmed = true ∧ t.is DBG_STAT_HALTED = true ∧ s.sameRegs t) ∧
    (∃ t, exec .dbgResume s = .next t ∧ t.is DBG_STAT_HALTED = false ∧ t.core.stepArmed = false ∧ s.sameRegs t)) ∧
  (∀ s : State, s.is DBG_STAT_HALTED = true → (s.get KS_LC_STATE ≠ 2 ∨ s.unlocked = true) → s.is DBG_REGSEL_CSR = false →
    let n := s.get DBG_REGSEL_SEL % 32
    (∃ t, exec (.dbgRegdata none) s = .next t ∧ t.rdata = s.reg n ∧ s.sameRegs t) ∧
    ∀ v : Word, ∃ t, exec (.dbgRegdata (some v)) s = .next t ∧ ∀ k, t.reg k = if k = n ∧ k ≠ 0 then v else s.reg k) ∧
  (∀ s : State, s.running = true → s.is DBG_STAT_HALTED = false → s.get KS_LC_STATE = 2 → s.unlocked = false →
    ∃ t, exec .haltreq s = .next t ∧ s.haltReq.captures t 0x78 0 0)

/-- R7, R12, R13: a 32-bit write to a register with no effect of its own gives each field without a sealed limit the nearest
legal value, of two equally near the lower, counts where a value was replaced and touches nothing else; a narrower write is
ignored and counts. FLT_INJADDR is one such register.
R224, R226: a refused transfer of a master other than the cluster is recorded, raises 0x28 and leaves its register.
R7: a 32-bit read of a register of RC counts answers the register; the count clears for every master but debug. -/
def Obligations.PeripheralRegisters : Prop :=
  ((∀ (l : List (Nat × Nat × Nat)) (x : Nat), l ≠ [] → (∀ r ∈ l, r.1 ≤ r.2.1 ∧ 0 < r.2.2 ∧ (r.2.1 - r.1) % r.2.2 = 0) →
     let ok (y : Nat) : Prop := ∃ r ∈ l, r.1 ≤ y ∧ y ≤ r.2.1 ∧ (y - r.1) % r.2.2 = 0
     ok (clampLegal l x) ∧ ∀ y, ok y → Machine.dist x (clampLegal l x) < Machine.dist x y ∨ Machine.dist x (clampLegal l x) = Machine.dist x y ∧ clampLegal l x ≤ y) ∧
   (∀ (m : Master) (addr v : Word) (r : RegD) (s : State), let a := addr.toNat
     s.issues m = true → inPeriph a = true → a % 4 = 0 → a / 4096 ≠ 0x40090 → s.refusal m .write a = none →
     s.aimed 0x27 a = false → regRow a = some r → r.only = [] → r.img = false → s.regWrite m a v = s.plainWrite m a v →
     a ≠ SYS_CLAMPCNT → a ≠ SYS_CLAMPLAST → (∀ f ∈ r.fields, f.lo + f.len ≤ 32 ∧ clampLegal f.legal (fld v f.lo f.len) < 2 ^ f.len) →
     r.fields.Pairwise (fun f g => f.lo + f.len ≤ g.lo) →
     ∃ t, exec (.registerWrite m addr .word v) s = .next t ∧ s.onlyRegs t [a, SYS_CLAMPCNT, SYS_CLAMPLAST] ∧ t.core = s.core ∧
       s.sameRegs t ∧ t.flt = s.flt ∧
       (∀ f ∈ r.fields, f.acc = .rw → t.get ⟨a, f.lo, f.len⟩ = clampLegal f.legal (fld v f.lo f.len)) ∧
       ((∃ f ∈ r.fields, f.acc = .rw ∧ clampLegal f.legal (fld v f.lo f.len) ≠ fld v f.lo f.len) →
         t.get SYS_CLAMPCNT_COUNT = min (s.get SYS_CLAMPCNT_COUNT + 1) 0xFFFF ∧ t.rd SYS_CLAMPLAST = addr)) ∧
   (∀ (m : Master) (v : Word) (s : State), s.issues m = true → s.refusal m .write FLT_INJADDR = none →
     s.aimed 0x27 FLT_INJADDR = false →
     (0x10000000 ≤ v.toNat → v.toNat < 0x100C0000 → v.toNat % 4 = 0 →
       ∃ t, exec (.registerWrite m (BitVec.ofNat 32 FLT_INJADDR) .word v) s = .next t ∧ t.rd FLT_INJADDR = v ∧
         s.onlyRegs t [FLT_INJADDR] ∧ t.core = s.core ∧ s.sameRegs t) ∧
     (0x18010000 ≤ v.toNat →
       ∃ t, exec (.registerWrite m (BitVec.ofNat 32 FLT_INJADDR) .word v) s = .next t ∧ t.rd FLT_INJADDR = 0x1800FFFC ∧
         t.get SYS_CLAMPCNT_COUNT = min (s.get SYS_CLAMPCNT_COUNT + 1) 0xFFFF ∧
         t.rd SYS_CLAMPLAST = BitVec.ofNat 32 FLT_INJADDR ∧ s.onlyRegs t [FLT_INJADDR, SYS_CLAMPCNT, SYS_CLAMPLAST]) ∧
     ∀ sz ∈ [Size.byte, .half], ∃ t, exec (.registerWrite m (BitVec.ofNat 32 FLT_INJADDR) sz v) s = .next t ∧
       t.get SYS_CLAMPCNT_COUNT = min (s.get SYS_CLAMPCNT_COUNT + 1) 0xFFFF ∧ s.onlyRegs t [SYS_CLAMPCNT, SYS_CLAMPLAST])) ∧
  (∀ (m : Master) (addr v : Word) (r : Nat) (s : State), m ≠ .cluster → s.issues m = true → inPeriph addr.toNat = true →
     s.refusal m .write addr.toNat = some r → addr.toNat % 4 = 0 → s.get MPU_FCNT_COUNT < 0xFFFF →
     ∃ t u : State, exec (.registerWrite m addr .word v) s = .next t ∧ u.captures t 0x28 addr 0 ∧ u.rd MPU_FADDR = addr ∧
       u.rd MPU_FINFO = BitVec.ofNat 32 (m.id + 16 + r * 256) ∧ u.get MPU_FCNT_COUNT = s.get MPU_FCNT_COUNT + 1 ∧
       s.onlyRegs u [MPU_FADDR, MPU_FINFO, MPU_FCNT]) ∧
  (∀ p ∈ [(FLT_REPEAT, 16), (FLT_LOST, 16), (LNT_STRETRY, 16), (LNT_BUBBLE, 16), (IC_HOLDMAX, 8), (MPU_FCNT, 16), (GT_CALLS, 32),
     (RNG_UNDER, 16), (MEM_WBLOST, 16), (CE_EVLOST, 16), (RING_FCNT, 32), (RING_CRCCNT, 32), (HOST_LATECNT, 16)],
   ∀ (m : Master) (s : State), s.issues m = true → s.refusal m .read p.1 = none → s.aimed 0x27 p.1 = false →
     ∃ t, exec (.rcRead m (BitVec.ofNat 32 p.1)) s = .next t ∧ t.rdata = s.rd p.1 ∧
       t.get ⟨p.1, 0, p.2⟩ = (if m = .debug then s.get ⟨p.1, 0, p.2⟩ else 0) ∧ s.onlyRegs t [p.1] ∧ s.sameRegs t)

/-- R26, R27, R32, R112: an input on a crossing of Table 1.3 is stamped with its gate's slot, an SRAM write takes its line from
the data cache, an equal rail pair raises 0x0A; a master's 65th contest costs the cluster 1 CCLK.
R77, R78, R82, R84, R91: with no injection waiting, the vectors that the copies present change nothing where they agree, Copy
B's complemented; in PAIR a difference of Copies A and B freezes LNT_CMPDIFF and LNT_CMPCYC and raises 0x00; in TRIO with Copy A as
lead, no window open and Copy C alone different, LNT_CMPDIFF takes the difference and 0x01 names Copy C. A copy whose cycle has one
result presents it in RW0 of its vector, Copy B with every bit inverted.
R85: with no injection waiting an engine comparison counts its ECLK cycle, and a difference of the vectors that the two engine
copies present is frozen and raises 0x08. -/
def Obligations.LockstepComparisons : Prop :=
  ((∀ (src : AdmSource) (s : State), s.noInj 0x0A 0x0A = true →
     (crossing .cluster src = true → s.presents = true →
       ∃ t, exec (.admission .cluster src false) s = .next t ∧ t.lock.admCluster = some (src, s.core.cycle) ∧
         s.onlyRegs t [] ∧ s.sameRegs t ∧ ∀ a, src = .sramWrite a → a.toNat % 32 = 0 → t.dfind a.toNat = none) ∧
     (crossing .ce src = true → s.engineRuns = true →
       ∃ t, exec (.admission .ce src false) s = .next t ∧ t.lock.admCe = some (src, s.lock.ecycle) ∧ s.onlyRegs t [] ∧
         s.sameRegs t) ∧
     (crossing .cluster src = true → s.presents = true →
       ∃ t, exec (.admission .cluster src true) s = .next t ∧ s.captures t 0x0A 0 0)) ∧
   (∀ (m : Master) (x : Target) (s : State), m ≠ .cluster → s.running = true →
     ∃ t, exec (.contestLimit m x) s = .next t ∧ t.core.cycle = s.core.cycle + 1 ∧ t.core.pc = s.core.pc ∧ s.sameRegs t ∧
       s.sameMem t)) ∧
  ((∀ (d : BitVec 6) (v : BitVec 64) (k : Nat) (s : State), d ≠ 0 → d.toNat < 32 → s.is DBG_STAT_HALTED = false →
     let x := BitVec.ofNat 256 (2 ^ 80 + d.toNat * 2 ^ 81 + v.toNat % 2 ^ 32 * 2 ^ 86)
     s.cvPresented k ⟨[.result d v], 0⟩ = if k = 1 then ~~~ x else x) ∧
   ∀ (ca cb cc : CopyCycle) (s : State), s.presents = true → s.noInj 0 2 = true →
     let a := s.cvPresented 0 ca
     let b := s.cvPresented 1 cb
     let c := s.cvPresented 2 cc
     (a = ~~~ b → b = ~~~ c → exec (.checkVectorCompare ca cb cc) s = .next s) ∧
     (s.lmode = 1 → s.insvc = 3 → s.lock.window = none → a ≠ ~~~ b →
       ∃ t u : State, exec (.checkVectorCompare ca cb cc) s = .next t ∧
         u.captures t 0x00 (BitVec.ofNat 32 ((lowestBit 256 0 (a ^^^ ~~~ b).toNat).getD 0 + 256 * 3)) 0 ∧
         (∀ n < 8, u.rd (LNT_CMPDIFF n) = (a ^^^ ~~~ b).extractLsb' (32 * n) 32) ∧
         u.rd LNT_CMPCYC = BitVec.ofNat 32 s.core.cycle) ∧
     (s.lmode = 2 → s.lock.window = none → s.get LNT_STAT_LEAD = 0 → a = ~~~ b → c ≠ a →
       ∃ t u v : State, exec (.checkVectorCompare ca cb cc) s = .next t ∧
         u.captures v 0x01 (BitVec.ofNat 32 ((lowestBit 256 0 (a ^^^ c).toNat).getD 0 + 256 * 4)) 2 ∧
         (∀ n < 8, u.rd (LNT_CMPDIFF n) = (a ^^^ c).extractLsb' (32 * n) 32) ∧ v.onlyRegs t [LNT_STAT] ∧
         t.lock = v.lock ∧ t.flt = v.flt)) ∧
  (∀ (ep es : EngineCycle) (s : State), s.engineRuns = true → s.noInj 8 8 = true →
     let p := engineVector ep
     let q := engineVector es
     (p = q → ∃ t, exec (.engineVectorCompare ep es) s = .next t ∧ t.lock.ecycle = s.lock.ecycle + 1 ∧ s.onlyRegs t [] ∧
       t.ce = s.ce ∧ t.core = s.core) ∧
     (p ≠ q → ∃ t u : State, exec (.engineVectorCompare ep es) s = .next t ∧
       u.captures t 0x08 (BitVec.ofNat 32 ((lowestBit 128 0 (p ^^^ q).toNat).getD 0 + 256 * 3)) 0 ∧
       (∀ n < 4, u.rd (LNT_ECMPDIFF n) = (p ^^^ q).extractLsb' (32 * n) 32) ∧
       u.rd LNT_ECMPCYC = BitVec.ofNat 32 (s.lock.ecycle + 1)))

/-- R86, R92: a period without deviation or injection gives every copy in service the CRC of its half of the scan list; in a cycle
without an event and with no difference near, a Lantern self-test whose shadow comparator works reports the bit and copy under test,
is OK and moves on by 37 bits, and one whose report misses that bit raises 0x04 (Lantern-C) or 0x09 (Lantern-E). -/
def Obligations.SignaturesAndSelfTests : Prop :=
  (∀ s : State, s.presents = true → s.noInj 3 3 = true →
    let sig := BitVec.ofNat 32 (crc32 (wordsBytes (s.scanList (if s.lock.half then 64 else 0) 64)))
    ∃ t, exec (.rollingSignature 0 0 0) s = .next t ∧ t.lock.half = !s.lock.half ∧
      (∀ k < 3, t.rd (LNT_SIG k) = if s.copyIn k then sig else s.rd (LNT_SIG k)) ∧
      s.onlyRegs t [LNT_SIG 0, LNT_SIG 1, LNT_SIG 2] ∧ t.core = s.core) ∧
  (∀ (e : Bool) (pc : BitVec 12) (s : State), s.lock.window = none → s.is LNT_STAT_JOINACT = false → s.noInj 4 9 = true →
    (if e then s.engineRuns else s.presents) = true → s.copyIn (s.get LNT_STSTAT_KC) = true → (s.lmode = 2 ∨ s.lmode = 1 ∧ s.insvc = 3) →
    let x : CopyCycle := ⟨[], 0⟩
    let y : EngineCycle := ⟨[], pc, 0⟩
    let p := s.get (if e then LNT_STSTAT_PE else LNT_STSTAT_PC)
    (∃ t, exec (.lanternSelfTest ⟨e, x, x, x, y, y, false, 0, none⟩) s = .next t ∧
      t.is (if e then LNT_STSTAT_OKE else LNT_STSTAT_OKC) = true ∧
      t.get (if e then LNT_STSTAT_PE else LNT_STSTAT_PC) = (p + 37) % (if e then 128 else 256) ∧ s.onlyRegs t [LNT_STSTAT]) ∧
    (∃ t u : State, exec (.lanternSelfTest ⟨e, x, x, x, y, y, false, BitVec.ofNat 256 (2 ^ p), none⟩) s = .next t ∧
      u.captures t (if e then 0x09 else 0x04) 0 0 ∧
      u.is (if e then LNT_STSTAT_OKE else LNT_STSTAT_OKC) = false ∧ s.onlyRegs u [LNT_STSTAT]))

/-- R88, R89, R95: a Rekindle window with nothing in flight leaves every register, empties the caches and counts its
phases; agreeing signatures close it as a success, and a halt request that has waited is served then; one not closed in 2,400
CCLK raises 0x05.
R75, R76: a write of a tighter LNT_MODE that enough healthy copies can serve starts a join, and a join that verifies brings
a copy into service in the mode of the copies then in service, JOINACT staying where the mode asked for needs another; a looser
value leaves the mode and counts. -/
def Obligations.RekindleAndLockstepModes : Prop :=
  (∀ (s : State) (w : Window), s.lock.window = some w → w.join = false → w.copy < 3 →
     (∀ r : CopyBusRun, w.moved = false → r.divided = false → s.noInj 5 5 = true → s.core.stations = [] → s.core.sb = [] →
       ∃ t, exec (.rekindle r) s = .next t ∧
         t.lock.window = some { w with len := w.len + r.quiesce.toNat + r.drain.toNat + 28 + 1152, moved := true, corrupt := false } ∧
         t.core.dcache = [] ∧ t.core.icache = [] ∧ t.core.btb = [] ∧ t.core.pc = s.core.pc ∧ s.sameRegs t ∧ s.onlyRegs t []) ∧
     (∀ x : Word, w.moved = true → w.corrupt = false → s.is DBG_CTL_HALTREQ = false →
       ∃ t, exec (.rekindleVerify x x x) s = .next t ∧ t.lock.window = none ∧ t.is LNT_STAT_RKACT = false ∧
         t.core.cycle = s.core.cycle + (w.len + 140) ∧ t.get (rkField w.copy) = min (s.get (rkField w.copy) + 1) 0xFF ∧
         s.sameRegs t ∧ s.onlyRegs t [LNT_RKLAST, LNT_STAT, LNT_RKCNT]) ∧
     (∀ x : Word, w.moved = true → w.corrupt = false → s.is DBG_CTL_HALTREQ = true → s.is DBG_STAT_HALTED = false →
       s.presents = true → ∃ t, exec (.rekindleVerify x x x) s = .next t ∧ t.lock.window = none ∧ t.is DBG_STAT_HALTED = true ∧
         t.get DBG_STAT_CAUSE = 0 ∧ s.sameRegs t) ∧
     ∃ t u : State, exec .rekindleTimeout s = .next t ∧ u.captures t 0x05 (BitVec.ofNat 32 (2 ^ w.copy)) (BitVec.ofNat 16 w.copy) ∧
       u.lock.window = none ∧ u.is LNT_STAT_RKACT = false) ∧
  ((∀ (m : Master) (v : Word) (s : State), s.admits m LNT_MODE = true → s.is LNT_STAT_JOINACT = false → s.lock.window = none →
     s.lmode < fld v 0 2 → fld v 0 2 ≤ 2 → fld v 0 2 < popN 3 s.healthy →
     ∃ t, exec (.lntModeWrite m v) s = .next t ∧ t.is LNT_STAT_JOINACT = true ∧ t.lock.joinMode = fld v 0 2 ∧
       t.lmode = s.lmode ∧ s.sameRegs t ∧ (∀ b, t.byteAt b = s.byteAt b) ∧
       ∀ a, a ∉ [LNT_STAT, CE_LEDGER 0x590, CE_LEDGER 0x591, CE_LEDGER 0x592] → t.rd a = s.rd a) ∧
   (∀ (m : Master) (v : Word) (s : State), s.admits m LNT_MODE = true → s.is LNT_STAT_JOINACT = false → s.lock.window = none →
     fld v 0 2 < s.lmode → ∃ t, exec (.lntModeWrite m v) s = .next t ∧ t.lmode = s.lmode ∧
       t.rd SYS_CLAMPLAST = BitVec.ofNat 32 LNT_MODE ∧ s.onlyRegs t [SYS_CLAMPCNT, SYS_CLAMPLAST]) ∧
   (∀ (r : CopyBusRun) (s : State), s.is LNT_STAT_JOINACT = true → s.lock.window = none → s.presents = true →
     s.noInj 5 5 = true → s.core.stations = [] → s.core.sb = [] → r.divided = false → s.lock.joinMode ≤ 2 →
     ∃ t, exec (.lntJoin r true) s = .next t ∧ t.insvc = s.insvc ||| 2 ^ s.joining ∧ t.lmode = popN 3 t.insvc - 1 ∧
       t.is LNT_STAT_JOINACT = decide (t.lmode < s.lock.joinMode) ∧ s.sameRegs t ∧ ∀ b, t.byteAt b = s.byteAt b))

/-- R45, R46, R47: after sealing and outside LIMP, a request for an ID not pending whose class is Notify or below sets the
pending bit and LASTID, requests Notify for class 2, and writes the entry of Table 2.4 at LOGHEAD.
R34, R37, R43, R67, R68, for the faults that isolate no unit, sealed and outside LIMP: a captured Snuff snuffs its output set and gives
the snuff notice; a Reset snuffs it, counts RSTCNT and holds the cluster in reset at its vector; a Limp snuffs every used output
and enters LIMP in SINGLE. -/
def Obligations.FaultCaptureAndReactions : Prop :=
  (∀ (id : BitVec 8) (detail : Word) (unit : BitVec 16) (s : State), (faultRow id.toNat).isSome = true →
     s.aoclkRuns = true → s.isSealed = true → s.limp = false → s.pend id.toNat = false → s.get (clsFld id.toNat) ≤ 2 →
     s.logOpen = true → s.flt.buffer = [] → s.noInj 0x27 0x27 = true →
     let cls := s.get (clsFld id.toNat)
     let at' := 0x1800F000 + 16 * s.get FLT_LOGHEAD_HEAD
     let w0 := BitVec.ofNat 32 (id.toNat * 2 ^ 20 + cls * 2 ^ 16 + (5 - s.pstate) % 8 * 2 ^ 13 + s.insvc * 2 ^ 8 + s.flt.seq % 256)
     ∃ t, exec (.faultCapture id detail unit) s = .next t ∧ t.pend id.toNat = true ∧ t.get FLT_STAT_LASTID = id.toNat ∧
       t.is FLT_STAT_NINT = (s.is FLT_STAT_NINT || decide (cls = 2)) ∧ t.snuffed = s.snuffed ∧
       t.get FLT_LOGHEAD_HEAD = (s.get FLT_LOGHEAD_HEAD + 1) % 256 ∧ t.wordAt at' = w0 ∧ t.wordAt (at' + 4) = detail ∧
       t.wordAt (at' + 8) = s.rd WK_CNT_LO ∧ (∀ b, (b < at' ∨ at' + 16 ≤ b) → t.byteAt b = s.byteAt b) ∧ s.sameRegs t ∧
       t.core.pc = s.core.pc) ∧
  (∀ (id : BitVec 8) (detail : Word) (s : State) (row : FaultRow), faultRow id.toNat = some row → row.iso = .none →
     s.aoclkRuns = true → s.isSealed = true → s.limp = false → s.core.inReset = false → s.noInj 0x27 0x27 = true →
     let cls := s.get (clsFld id.toNat)
     let o := s.rd (FLT_OSET id.toNat) &&& 0xFFFFFF
     let set := if o = 0 then s.used else o &&& s.used
     (cls = 5 → ∃ t, exec (.faultCapture id detail 0) s = .next t ∧ t.pend id.toNat = true ∧ t.is FLT_STAT_SNOTICE = true ∧
       t.snuffed = s.snuffed ||| set ∧ s.sameRegs t ∧ t.core.pc = s.core.pc) ∧
     (cls = 6 → s.get FLT_STAT_RSTCNT ≠ 3 → ∃ t, exec (.faultCapture id detail 0) s = .next t ∧ t.pend id.toNat = true ∧
       (s.snuffed ||| set) &&& ~~~t.snuffed = 0 ∧ t.core.inReset = true ∧ t.core.pc = 0x00046000 ∧
       t.get FLT_STAT_RSTCNT = min (s.get FLT_STAT_RSTCNT + 1) 7) ∧
     (cls = 7 → ∃ t, exec (.faultCapture id detail 0) s = .next t ∧ t.pend id.toNat = true ∧ t.limp = true ∧
       (s.snuffed ||| s.used) &&& ~~~t.snuffed = 0 ∧ (s.pstate ≠ 2 → t.snuffed = s.snuffed ||| s.used) ∧ t.lmode = 0 ∧
       t.core.pc = 0x00046000))

/-- R38, R45, R49: RSTCNT clears alone; with no condition present a W1C clears the pending bits it names; a held log entry is
written at LOGHEAD while master 8 can write, and stays held while it cannot.
R70, R71: the key opens the injection window and any other value closes it, as its expiry does; within it a legal
injection of a method other than CO, with INJEN set in DEVELOP or PRODUCTION, closes the window and waits for the data it
corrupts; the expiry of a timed injection ends it and no other. -/
def Obligations.CollectorUpkeepAndInjection : Prop :=
  ((∀ s : State, s.reaches FLT_STAT = true → ∃ t, exec .rstcntClear s = .next t ∧ t.get FLT_STAT_RSTCNT = 0 ∧ t.is FLT_STAT_LIMP = s.is FLT_STAT_LIMP ∧
     s.onlyRegs t [FLT_STAT] ∧ t.core = s.core) ∧
   (∀ (n : BitVec 2) (w : Word) (s : State), s.flt.cond = [] → s.flt.faulty = [] → s.reaches (FLT_PEND n.toNat) = true →
     ∃ t, exec (.fltPendClear n w) s = .next t ∧ t.rd (FLT_PEND n.toNat) = (s.rd (FLT_PEND n.toNat) &&& ~~~w) ∧
       s.onlyRegs t [FLT_PEND n.toNat] ∧ t.core = s.core) ∧
   (∀ (a b c d : Word) (s : State), s.flt.buffer = [[a, b, c, d]] → s.noInj 0x27 0x27 = true →
     let at' := 0x1800F000 + 16 * s.get FLT_LOGHEAD_HEAD
     (s.logOpen = true → ∃ t, exec .logBufferFlush s = .next t ∧ t.flt.buffer = [] ∧ t.wordAt at' = a ∧
       t.wordAt (at' + 4) = b ∧ t.wordAt (at' + 8) = c ∧ t.wordAt (at' + 12) = d ∧
       t.get FLT_LOGHEAD_HEAD = (s.get FLT_LOGHEAD_HEAD + 1) % 256 ∧
       ∀ x, (x < at' ∨ at' + 16 ≤ x) → t.byteAt x = s.byteAt x) ∧
     (s.logOpen = false → exec .logBufferFlush s = .next s))) ∧
  ((∀ (v : Word) (s : State), s.reaches FLT_INJKEY = true → ∃ t, exec (.fltInjkey v) s = .next t ∧ t.flt.keyOpen = decide (v = 0x1A7E) ∧ s.onlyRegs t []) ∧
   (∀ s : State, ∃ t, exec .injkeyExpiry s = .next t ∧ t.flt.keyOpen = false ∧ t.flt.inj = s.flt.inj ∧ s.onlyRegs t []) ∧
   (∀ (m : Master) (v : Word) (s : State) (row : FaultRow), s.admits m FLT_INJ = true → s.flt.keyOpen = true → s.is FLT_CFG_INJEN = true →
     (s.get KS_LC_STATE = 1 ∨ s.get KS_LC_STATE = 2) → faultRow (fld v 0 8) = some row → s.injLegal row (fld v 16 16) = true →
     row.inject ≠ .co → ∃ t, exec (.fltInj m v) s = .next t ∧ t.flt.keyOpen = false ∧
       t.flt.inj = s.flt.inj ++ [injSelect row (fld v 16 16)] ∧ s.onlyRegs t []) ∧
   (∀ (k : TimedInj) (s : State), ∃ t, exec (.injectionExpiry k) s = .next t ∧
     (∀ i, i ∈ t.flt.inj ↔ i ∈ s.flt.inj ∧ timedOf k i = false) ∧ s.onlyRegs t []))

/-- R53, R54, R55, R69: while every used output's pin shows its commanded level, a readback cycle shows the pins in SNF_RDBK and raises
nothing; the 16th consecutive mismatch of an output raises 0x75 with its index; a self-check that passes ends the condition of
0x76, one that fails makes it present and raises it; loss of the clock snuffs every used output with FAULT_N low, and no master
issues; while the Snuffer's supply is out of range neither an output nor FAULT_N is driven.
R57, R59, R61: a software snuff snuffs the used outputs named and sets their SNF_SWSNUFF bits; the arming value arms the sequence
with a fresh challenge (a free value, log entry 2), and any other raises 0x77 with code 2; a response to no armed sequence raises
it with code 5, and an armed sequence that ran out with code 4: each disarms and leaves the outputs as they were. -/
def Obligations.SnufferChecksAndArming : Prop :=
  ((∀ (pins : BitVec 24) (s : State), s.noInj 0x75 0x75 = true →
     (∀ n < 24, s.is (SNF_OCFG_USED n) = true → pins.getLsbD n = s.outLevel n) →
     ∃ t, exec (.snufferReadback pins) s = .next t ∧ t.rd SNF_RDBK = pins.setWidth 32 ∧ s.onlyRegs t [SNF_RDBK] ∧
       t.core = s.core) ∧
   (∀ (pins : BitVec 24) (n : BitVec 5) (s : State), s.noInj 0x75 0x75 = true → n.toNat < 24 → s.readBack n.toNat = true →
     pins.getLsbD n.toNat ≠ s.outLevel n.toNat → s.mismatches n.toNat = 15 →
     (∀ k < 24, k ≠ n.toNat → s.is (SNF_OCFG_USED k) = true → pins.getLsbD k = s.outLevel k) →
     ∃ t u : State, exec (.snufferReadback pins) s = .next t ∧ u.captures t 0x75 (n.setWidth 32) 0 ∧
       u.rd SNF_RDBK = pins.setWidth 32 ∧ u.flt.cond.contains 0x75 = true ∧ s.onlyRegs u [SNF_RDBK]) ∧
   (∀ s : State, s.noInj 0x76 0x76 = true →
     (∃ t, exec (.snufferSelfCheck true) s = .next t ∧ t.flt.cond.contains 0x76 = false ∧ s.onlyRegs t []) ∧
     (∃ t u : State, exec (.snufferSelfCheck false) s = .next t ∧ u.captures t 0x76 0 0 ∧ u.flt.cond.contains 0x76 = true ∧
       s.onlyRegs u [])) ∧
   (∀ s : State, ∃ t, exec .clockLoss s = .next t ∧ t.snuffed = s.snuffed ||| s.used ∧ t.faultN = true ∧
     t.is SNF_STAT_FAULTN = true ∧ t.snf.only = true ∧ t.snf.clockLost = true ∧ ∀ m, t.issues m = false) ∧
   (∀ (bad : Bool) (s : State), ∃ t, exec (.snufferSupplyOutOfRange bad) s = .next t ∧ t.snf.supplyBad = bad ∧
     (bad = true → (∀ n, t.outDriven n = false) ∧ t.faultSupplied = false) ∧ s.onlyRegs t [] ∧ t.core = s.core)) ∧
  ((∀ (v : Word) (s : State), s.reaches SNF_SWSNUFF = true → s.noInj 0x27 0x27 = true → let m := v &&& s.used &&& 0xFFFFFF
     ∃ t, exec (.snfSwsnuff v) s = .next t ∧ t.snuffed = s.snuffed ||| m ∧ t.rd SNF_SWSNUFF = s.rd SNF_SWSNUFF ||| m ∧
       s.sameRegs t ∧ t.core = s.core) ∧
   (∀ (v : Word) (s : State), s.reaches SNF_UNSNUFF = true →
     (v = 0x5A5AC3C3 → ∃ t, exec (.snfUnsnuff v) s = .next t ∧ t.is SNF_STAT_ARMED = true ∧ t.snf.armAge = 0 ∧
       t.rd SNF_CHAL = s.freeVal ∧ t.snuffed = s.snuffed ∧ s.onlyRegs t [SNF_STAT, SNF_CHAL]) ∧
     (v ≠ 0x5A5AC3C3 → ∃ t u : State, exec (.snfUnsnuff v) s = .next t ∧ u.captures t 0x77 2 0 ∧ u.rd SNF_UNSRES = 2 ∧
       u.is SNF_STAT_ARMED = false ∧ u.snuffed = s.snuffed ∧ s.onlyRegs u [SNF_STAT, SNF_UNSRES])) ∧
   (∀ (v : Word) (s : State), s.reaches SNF_CHALRSP = true → s.is SNF_STAT_ARMED = false →
     ∃ t u : State, exec (.snfChalrsp v) s = .next t ∧ u.captures t 0x77 5 0 ∧ u.rd SNF_UNSRES = 5 ∧ u.is SNF_STAT_ARMED = false ∧
       u.snuffed = s.snuffed ∧ s.onlyRegs u [SNF_STAT, SNF_UNSRES]) ∧
   (∀ s : State, s.is SNF_STAT_ARMED = true →
     ∃ t u : State, exec .unsnuffLate s = .next t ∧ u.captures t 0x77 4 0 ∧ u.rd SNF_UNSRES = 4 ∧ u.is SNF_STAT_ARMED = false ∧
       u.snuffed = s.snuffed ∧ s.onlyRegs u [SNF_STAT, SNF_UNSRES]))

/-- R60, R61, R62: a response in time with the complement of the challenge, sealed, outside LIMP, with a used output in the mask, both
watchdogs healthy, no blocking fault pending and no active cause of a masked output, releases the masked outputs: one without
a hold-off at once, one with it when it expires. The first reason that applies, in R61's order 5, 4, 3, 10, 9, 11, 6, 7, 8, is
recorded in SNF_UNSRES (with the lowest blocking fault in FAULT, or the lowest output with a cause in OUT), disarms the
sequence, raises 0x77 and leaves every output as it was. -/
def Obligations.Unsnuff : Prop :=
  (∀ (v : Word) (s : State), s.reaches SNF_CHALRSP = true →
    let m := s.rd SNF_RELMASK &&& s.used &&& 0xFFFFFF
    let refused (res : Word) : Prop := ∃ t u : State, exec (.snfChalrsp v) s = .next t ∧ u.captures t 0x77 res 0 ∧
      u.rd SNF_UNSRES = res ∧ u.is SNF_STAT_ARMED = false ∧ u.snuffed = s.snuffed ∧ s.onlyRegs u [SNF_STAT, SNF_UNSRES]
    let inTime : Prop := s.is SNF_STAT_ARMED = true ∧ s.snf.armAge ≤ 1600 ∧ v = ~~~ s.rd SNF_CHAL
    let noBlock : Prop := ∀ id < 128, s.blocks id = false
    let served : Bool := s.wwdOk && s.qawOk
    (s.is SNF_STAT_ARMED = false → refused 5) ∧
    (s.is SNF_STAT_ARMED = true → 1600 < s.snf.armAge → refused 4) ∧
    (s.is SNF_STAT_ARMED = true → s.snf.armAge ≤ 1600 → v ≠ ~~~ s.rd SNF_CHAL → refused 3) ∧
    (inTime → s.isSealed = false → refused 10) ∧
    (inTime → s.isSealed = true → s.limp = true → refused 9) ∧
    (inTime → s.isSealed = true → s.limp = false → m = 0 → refused 11) ∧
    (inTime → s.isSealed = true → s.limp = false → m ≠ 0 → served = false → refused 6) ∧
    (∀ id < 128, inTime → s.isSealed = true → s.limp = false → m ≠ 0 → served = true → s.blocks id = true →
      (∀ k < id, s.blocks k = false) → refused (BitVec.ofNat 32 (7 + id * 256))) ∧
    (∀ o < 24, inTime → s.isSealed = true → s.limp = false → m ≠ 0 → served = true → noBlock →
      bitOf (m &&& s.activeCauses) o = true → (∀ k < o, bitOf (m &&& s.activeCauses) k = false) →
      refused (BitVec.ofNat 32 (8 + o * 65536))) ∧
    (inTime → s.isSealed = true → s.limp = false → m ≠ 0 → served = true → noBlock → m &&& s.activeCauses = 0 →
      s.noInj 0x27 0x27 = true → ∃ t, exec (.snfChalrsp v) s = .next t ∧ t.rd SNF_UNSRES = 1 ∧ t.is SNF_STAT_ARMED = false ∧
        t.is SNF_STAT_RELEASED = true ∧ t.rd SNF_SWSNUFF = (s.rd SNF_SWSNUFF &&& ~~~m) ∧
        ∀ n < 24, bitOf t.snuffed n = (bitOf s.snuffed n && (!bitOf m n || decide (s.get (SNF_OCFG_HOLDOFF n) ≠ 0))) ∧
          (bitOf (m &&& s.snuffed) n = true → s.get (SNF_OCFG_HOLDOFF n) ≠ 0 → bitOf t.snf.holding n = true ∧
            Store.get (fun _ => 0) t.snf.holdLeft n = 16 * s.get (SNF_OCFG_HOLDOFF n)) ∧
          (s.is (SNF_OCFG_USED n) = true → bitOf t.snuffed n = false → t.outLevel n = bitOf (s.rd SNF_OPLVL) n))) ∧
  (∀ (n : BitVec 5) (s : State), n.toNat < 24 → bitOf s.snf.holding n.toNat = true →
    ∃ t, exec (.holdoffExpiry n) s = .next t ∧ bitOf t.snuffed n.toNat = false ∧ bitOf t.snf.holding n.toNat = false ∧
      (s.is (SNF_OCFG_USED n.toNat) = true → t.outLevel n.toNat = bitOf (s.rd SNF_OPLVL) n.toNat) ∧
      (∀ k, k ≠ n.toNat → bitOf t.snuffed k = bitOf s.snuffed k) ∧ t.core = s.core)

/-- R63, R64, R65: the right service inside the window latched at the last restart restarts a watchdog, the Q&A watchdog with
its next question; anything else, and the window's close, restarts it and raises 0x70 or 0x71.
R65: limits no looser than sealed are taken and the running window stays as it was latched. -/
def Obligations.WatchdogsAndTheirLimits : Prop :=
  (State.reset.question = 0x5C ∧ ∀ (s : State), let c := s.get ⟨SNF_WWDCNT, 0, 16⟩
     let q := s.get ⟨SNF_QAWCNT, 0, 16⟩
     let x := s.question
     let ans : Word := (x + 0x69) ++ (x.rotateLeft 1 ^^^ 0x5A) ++ (~~~x) ++ (x ^^^ 0x3C)
     let next : BitVec 8 := (x <<< 1) ||| BitVec.ofNat 8 ((x.getLsbD 7).toNat ^^^ (x.getLsbD 5).toNat ^^^ (x.getLsbD 4).toNat ^^^ (x.getLsbD 3).toNat)
     (∀ v : Word, s.snf.wdRun = true → 4 ≤ s.pstate → s.snf.only = false →
       (v = 0xA5C3 → s.snf.wwd.openAt ≤ c → c < s.snf.wwd.closeAt →
         ∃ t, exec (.snfWwdkick v) s = .next t ∧ t.rd SNF_WWDCNT = 0 ∧
           t.snf.wwd = ⟨0, s.get SNF_WWDCFG_OPEN, s.get SNF_WWDCFG_CLOSE, true⟩ ∧ s.onlyRegs t [SNF_WWDCNT]) ∧
       ((v ≠ 0xA5C3 ∨ c < s.snf.wwd.openAt ∨ s.snf.wwd.closeAt ≤ c) →
         ∃ t u : State, exec (.snfWwdkick v) s = .next t ∧ u.captures t 0x70 (BitVec.ofNat 32 c) 0 ∧ u.rd SNF_WWDCNT = 0 ∧
           s.onlyRegs u [SNF_WWDCNT]) ∧
       (v = ans → s.snf.qaw.openAt ≤ q → q < s.snf.qaw.closeAt →
         ∃ t, exec (.snfQawans v) s = .next t ∧ t.rd SNF_QAWCNT = 0 ∧ t.question = next ∧
           t.snf.qaw.served = true ∧ s.onlyRegs t [SNF_QAWCNT, SNF_QAWQ]) ∧
       ((v ≠ ans ∨ q < s.snf.qaw.openAt ∨ s.snf.qaw.closeAt ≤ q) →
         ∃ t u : State, exec (.snfQawans v) s = .next t ∧ u.captures t 0x71 (BitVec.ofNat 32 q) 0 ∧
           u.rd SNF_QAWCNT = 0 ∧ u.question = s.question ∧ s.onlyRegs u [SNF_QAWCNT])) ∧
     (s.wdCounts = true →
       (∃ t u : State, exec .windowedWatchdogClose s = .next t ∧ u.captures t 0x70 (BitVec.ofNat 32 s.snf.wwd.closeAt) 0 ∧
         u.rd SNF_WWDCNT = 0 ∧ s.onlyRegs u [SNF_WWDCNT]) ∧
       (∃ t u : State, exec .qaWatchdogClose s = .next t ∧ u.captures t 0x71 (BitVec.ofNat 32 s.snf.qaw.closeAt) 0 ∧
         u.rd SNF_QAWCNT = 0 ∧ u.question = s.question ∧ s.onlyRegs u [SNF_QAWCNT]))) ∧
  (∀ (m : Master) (qa : Bool) (v : Word) (s : State), let a := if qa then SNF_QAWCFG else SNF_WWDCFG
     s.admits m a = true → s.isSealed = true → 0 < fld v 0 16 → fld v 0 16 ≤ fld (s.latched a) 0 16 → fld v 16 16 < fld v 0 16 →
     fld (s.latched a) 16 16 ≤ fld v 16 16 →
     ∃ t, exec (.snfWdcfgWrite m qa v) s = .next t ∧ t.rd a = v ∧ s.onlyRegs t [a] ∧ t.snf = s.snf)

/-- R153, R177, R178: a scan of two good words moves on and the last of a pass sets PASS; debug reads the addressed word where
that is allowed (halted, in DEVELOP or unlocked), and where a write is allowed (halted, in DEVELOP, the writable windows) stores
the word of MC_CSDATA with its own check field, which marks the saved micro-states stale; other words stay.
R187: a software request of a listed vector from 34 on stands, and that vector alone. -/
def Obligations.ControlStoreAndSoftwareRequests : Prop :=
  ((∀ s : State, 4 ≤ s.pstate → s.core.inReset = false → s.snf.only = false → s.noInj 0x19 0x19 = true →
     s.mc.flipped.contains 0x1FFF = false →
     (∀ a ∈ [0x1000 + s.mc.scan, 0x1400 + s.mc.scan], mf (s.mword a) 0 8 = mwChk (s.mword a) a) →
     ∃ t, exec .controlStoreScan s = .next t ∧ t.mc.scan = (s.mc.scan + 1) % 1024 ∧ (∀ a, t.mword a = s.mword a) ∧
       t.is MC_SCAN_PASS = (s.is MC_SCAN_PASS || decide (s.mc.scan = 1023)) ∧ s.onlyRegs t [MC_SCAN]) ∧
   (∀ s : State, s.reaches MC_CSCTL = true → s.csReadable = true →
     ∃ t, exec .mcCsctlRd s = .next t ∧
       (∀ n < 4, t.rd (MC_CSDATA n) = (s.mword (s.get MC_CSADDR_V)).extractLsb' (32 * n) 32) ∧
       t.rd MC_CSDATA4 = BitVec.ofNat 32 (mf (s.mword (s.get MC_CSADDR_V)) 128 16) ∧
       s.onlyRegs t [MC_CSDATA 0, MC_CSDATA 1, MC_CSDATA 2, MC_CSDATA 3, MC_CSDATA4]) ∧
   (∀ s : State, let a := s.get MC_CSADDR_V
     s.reaches MC_CSCTL = true → s.csWritable = true → 0x1000 ≤ a → a < 0x1800 →
     ∃ t, exec .mcCsctlWr s = .next t ∧ s.onlyRegs t [] ∧ (∀ b, b ≠ a → t.mword b = s.mword b) ∧
       mf (t.mword a) 0 8 = mwChk (t.mword a) a ∧ mf (t.mword a) 128 16 = fld (s.rd MC_CSDATA4) 0 16 ∧
       (t.mword a).extractLsb' 8 24 = (s.rd (MC_CSDATA 0)).extractLsb' 8 24 ∧
       (∀ n ∈ [1, 2, 3], (t.mword a).extractLsb' (32 * n) 32 = s.rd (MC_CSDATA n)) ∧
       ∀ c ≤ 8, fld (s.csrRaw (saveCsr c 6)) 30 2 = 1 → fld (t.csrRaw (saveCsr c 6)) 28 1 = 1)) ∧
  (∀ (n : BitVec 8) (s : State), 34 ≤ n.toNat → vectorListed n.toNat = true →
     s.reaches (IC_VCFG n.toNat) = true →
     ∃ t, exec (.icVcfgSw n) s = .next t ∧ t.vecReq n.toNat = true ∧ s.onlyRegs t [IC_VCFG n.toNat] ∧ t.core = s.core ∧
       t.vecLevel n.toNat = s.vecLevel n.toNat)

/-- R234, R236, R238: with its key and no operation running, a command of the flash controller latches address and data and
runs; with another key it finishes with RESULT 1; a locked target refuses PROGRAM and ERASE with RESULT 2. Memory stays.
R235, R236: a verified PROGRAM of an erased line, with data of more than two zero bits, stores its 32 bytes alone; a verified ERASE
turns its 8 KiB sector alone to ones; a BLANK_CHECK stores nothing and its RESULT says whether the sector is erased; BUSY clears
with RESULT and DONE. -/
def Obligations.FlashCommandsAndOperations : Prop :=
  (∀ p ∈ [(Instr.flashProgram, 1), (Instr.flashErase, 2), (Instr.blankCheck, 3)], ∀ (key : BitVec 16) (s : State),
     s.lit = true → s.snf.only = false → s.is FLC_STAT_BUSY = false → let a := s.get FLC_ADDR_V
     (key = 0x6C5E → (p.2 = 3 ∨ s.flashLocked a = false) →
       ∃ t, exec (p.1 key) s = .next t ∧ t.memi.flash = some ⟨p.2, a, s.flashData, false⟩ ∧ t.is FLC_STAT_BUSY = true ∧
         t.get FLC_STAT_BANK = a / 0x200000 % 2 ∧ s.onlyRegs t [FLC_STAT]) ∧
     (key = 0x6C5E → p.2 ≠ 3 → s.flashLocked a = true →
       ∃ t, exec (p.1 key) s = .next t ∧ t.memi = s.memi ∧ t.get FLC_STAT_RESULT = 2 ∧ t.is FLC_STAT_DONE = true ∧
         s.onlyRegs t [FLC_STAT]) ∧
     (key ≠ 0x6C5E →
       ∃ t, exec (p.1 key) s = .next t ∧ t.memi = s.memi ∧ t.get FLC_STAT_RESULT = 1 ∧ t.is FLC_STAT_DONE = true ∧
         s.onlyRegs t [FLC_STAT])) ∧
  (∀ (s : State) (o : FlashOp), s.pstate ≠ 0 → s.memi.flash = some o → o.orphan = false → s.noInj 0x20 0x26 = true →
     let l := o.addr / 32 * 32
     let sec := o.addr / 8192 * 8192
     let done (t : State) : Prop := t.memi.flash = none ∧ t.is FLC_STAT_BUSY = false ∧ t.is FLC_STAT_DONE = true ∧
       s.sameRegs t ∧ ∀ a, a ≠ FLC_STAT → t.rd a = s.rd a
     (o.op = 1 → o.data.length = 8 → s.lineZeros l ≤ 2 → 2 < (s.putLine l o.data).lineZeros l →
       ∃ t, exec (.flashOperationComplete true) s = .next t ∧ done t ∧ t.get FLC_STAT_RESULT = 0 ∧
         ∀ b, t.byteAt b = if l ≤ b ∧ b < l + 32 then (wordsBytes o.data).getD (b - l) 0 else s.byteAt b) ∧
     (o.op = 2 → ∃ t, exec (.flashOperationComplete true) s = .next t ∧ done t ∧ t.get FLC_STAT_RESULT = 0 ∧
         ∀ b, t.byteAt b = if sec ≤ b ∧ b < sec + 8192 then 0xFF else s.byteAt b) ∧
     (o.op = 3 → ∃ t, exec (.flashOperationComplete true) s = .next t ∧ done t ∧ s.sameMem t ∧
         t.get FLC_STAT_RESULT = if s.linesErased sec 256 then 0 else 6))

/-- R238, R244, R248, R253: lock bits only set; a write-back stores its one word; a scrub of a good row moves on; a starved
monitor raises 0x2A. -/
def Obligations.ScrubAndLocks : Prop :=
  (∀ (k : BitVec 1) (v : Word) (s : State), s.reaches (FLC_LOCK k.toNat) = true → ∃ t, exec (.flcLock k v) s = .next t ∧
    t.rd (FLC_LOCK k.toNat) = (s.rd (FLC_LOCK k.toNat) ||| v) ∧ s.onlyRegs t [FLC_LOCK k.toNat] ∧ t.core = s.core) ∧
  (∀ (bank : BitVec 3) (s : State) (a : Nat) (w : Word), bank.toNat < 5 → s.bankServed = true → a % 4 = 0 →
    Store.get (fun _ => none) s.memi.wb bank.toNat = some (a, w) →
    ∃ t, exec (.writeBack bank) s = .next t ∧ t.wordAt a = w ∧ t.codeAt a = 0 ∧
      (∀ b, (b < a ∨ a + 4 ≤ b) → t.byteAt b = s.byteAt b) ∧ Store.get (fun _ => none) t.memi.wb bank.toNat = none ∧
      ∀ r, t.rd r = s.rd r) ∧
  (∀ (bank : BitVec 3) (s : State), let b := bank.toNat
    let r := Store.get (fun _ => 0) s.memi.row b
    b < 5 → s.lit = true → s.det = false → Store.get (fun _ => none) s.memi.wb b = none →
    s.unitClass (bankBase b + 8 * r) = .good → s.unitClass (bankBase b + 8 * r + 4) = .good →
    ∃ t, exec (.scrubRead bank) s = .next t ∧ s.onlyRegs t [MEM_SCRPASS, MEM_SPPASS] ∧
      Store.get (fun _ => 0) t.memi.row b = if r + 1 = bankRows b then 0 else r + 1) ∧
  (∀ s : State, s.lit = true → s.det = true →
    ∃ t u : State, exec .scrubStarvation s = .next t ∧ u.captures t 0x2A 0 0 ∧ u.get MEM_DETPTR_ELAPSED = 0 ∧
      s.onlyRegs u [MEM_DETPTR])

/-- R259, R261, R282, where nothing is mirrored: a doorbell within the depth moves TAIL of an SQ, a disabled queue takes a legal base,
and CE_CTL takes RUN; a STANDBY keeps RUN.
R264, R265, R273, R274: the good entry at the head of the SQ whose turn it is becomes an operation under its tag and HEAD moves
on; a stall ends when its tag has freed, and its entry is fetched where the turn is then its queue's.
R138, R281, R282: the oldest CHISSUE is admitted: with RUN 0 its station receives UNAVAIL, else an operation without a
channel takes the lowest free tag of the window, which its station receives. -/
def Obligations.QueuesAndTheDirectLane : Prop :=
  ((∀ (m : Master) (q : BitVec 8) (v : Word) (s : State), s.admits m (CE_QDB q.toNat) = true → s.mirrors = false → s.get (CE_QCFG_TYPE q.toNat) = 1 →
     fld v 0 12 < s.qDepth q.toNat →
     ∃ t, exec (.doorbell m q v) s = .next t ∧ t.get (CE_QPTR_TAIL q.toNat) = fld v 0 12 ∧
       t.get (CE_QPTR_HEAD q.toNat) = s.get (CE_QPTR_HEAD q.toNat) ∧ s.onlyRegs t [CE_QPTR q.toNat] ∧ t.ce = s.ce) ∧
   (∀ (m : Master) (q : BitVec 8) (v : Word) (s : State), s.admits m (CE_QBASE q.toNat) = true → s.mirrors = false → s.is (CE_QCFG_EN q.toNat) = false →
     (s.get (CE_QCFG_TYPE q.toNat) ≠ 1 ∨ bitOf v 4 = false) → fld v 4 16 ≤ 0xBFFF →
     ∃ t, exec (.ceQcfgWrite m (BitVec.ofNat 32 (CE_QBASE q.toNat)) v) s = .next t ∧
       t.rd (CE_QBASE q.toNat) = BitVec.ofNat 32 (0x10000000 + 16 * fld v 4 16) ∧ s.onlyRegs t [CE_QBASE q.toNat]) ∧
   (∀ (m : Master) (v : Word) (s : State), s.admits m CE_CTL = true → s.mirrors = false →
     (s.get RING_PSTAT_ROLE ≠ 2 → ∃ t, exec (.ceCtlWrite m v) s = .next t ∧ t.is CE_CTL_RUN = bitOf v 0 ∧
       s.onlyRegs t [CE_CTL]) ∧
     (s.get RING_PSTAT_ROLE = 2 → ∃ t, exec (.ceCtlWrite m v) s = .next t ∧ t.is CE_CTL_RUN = s.is CE_CTL_RUN ∧
       s.onlyRegs t [SYS_CLAMPCNT, SYS_CLAMPLAST]))) ∧
  (∀ (s : State) (q : Nat), s.ceOn = true → s.is CE_CTL_RUN = true → s.ledgerGood → q < 256 →
     let a := (s.rd (CE_QBASE q)).toNat + 32 * s.get (CE_QPTR_HEAD q)
     let o := entryOp q ((List.range 8).map (fun k => s.goodWord (a + 4 * k)))
     let taken (t : State) : Prop := t.get (CE_QPTR_HEAD q) = (s.get (CE_QPTR_HEAD q) + 1) % s.qDepth q ∧
       ∃ x ∈ t.ce.ops, x.tag = o.tag ∧ x.op = o.op ∧ x.args = o.args ∧ x.src = .sq q
     (s.turnSq = some q → s.entryGood q = true → ∃ t, exec .queueEntryFetch s = .next t ∧ taken t ∧ s.sameRegs t) ∧
     (s.is (CE_QPTR_STALL q) = true → s.mirrors = false → (s.put (CE_QPTR_STALL q) 0).turnSq = some q → s.entryGood q = true →
       s.wordAt (a + 4) = s.goodWord (a + 4) →
       ∃ t, exec (.tagStallResume (BitVec.ofNat 8 q)) s = .next t ∧ taken t ∧ t.is (CE_QPTR_STALL q) = false ∧ s.sameRegs t)) ∧
  (∀ (s : State) (r : LaneReq) (rest : List LaneReq) (x : Station), s.ceClock = true → s.ce.lane = r :: rest →
     s.core.stations = [x] → x.n = r.st → x.kind = .chissue → x.result = none →
     (s.is CE_CTL_RUN = false → ∃ t, exec .directLaneIssue s = .next t ∧ t.ce.lane = rest ∧
       t.core.stations = [{ x with result := some 0x8000000F }] ∧ s.onlyRegs t []) ∧
     (∀ tag, s.is CE_CTL_RUN = true → r.op ≤ 0xF → needsChannel r.op = false → s.ledgerGood →
       s.freeTag (s.get CE_DLWIN_TBASE) (s.get CE_DLWIN_TCNT) = some tag →
       ∃ t, exec .directLaneIssue s = .next t ∧ t.ce.lane = rest ∧
         t.core.stations = [{ x with result := some (BitVec.ofNat 64 tag) }] ∧ s.onlyRegs t [] ∧
         ∃ o ∈ t.ce.ops, o.tag = tag ∧ o.op = r.op ∧ o.args = r.args ∧ o.src = .lane))

/-- R270, R271, R275, R280: an operation of the engine's own that has started and has no result completes its command: NOP
echoes its arguments, WAIT_EVENT and TIMER_SET wait at their unit with the timer armed, BARRIER completes, and LEDGER_READ answers
the good ledger word. -/
def Obligations.EngineOperations : Prop :=
  ∀ (tag : BitVec 10) (s : State) (o : CeOp), s.ceOn = true → s.ceFind tag.toNat = some o → o.started = true →
    o.atUnit = false → o.result = none →
    (o.op = 0 → ∃ t, exec (.ceNop tag) s = .next t ∧ s.opEnded t tag stOk (o.arg 1 ++ o.arg 0) ∧ s.onlyRegs t []) ∧
    (o.op = 7 → ∃ t, exec (.waitEvent tag) s = .next t ∧ t.ceFind tag.toNat = some { o with atUnit := true } ∧
      s.onlyRegs t []) ∧
    (o.op = 8 → ∃ t, exec (.timerSet tag) s = .next t ∧ t.ceFind tag.toNat = some { o with atUnit := true } ∧
      Store.get (fun _ => none) t.ce.timers (o.handle % 1024) = some (bitOf (o.arg 1) 0, 0) ∧ s.onlyRegs t []) ∧
    (o.op = 0xB → ∃ t, exec (.ceBarrier tag) s = .next t ∧ s.opEnded t tag stOk 0 ∧ s.onlyRegs t []) ∧
    (o.op = 0xE → s.codeAt (CE_LEDGER (fld (o.arg 0) 0 11)) = 0 →
      ∃ t, exec (.ledgerRead tag) s = .next t ∧
        s.opEnded t tag stOk ((s.rd (CE_LEDGER (fld (o.arg 0) 0 11))).setWidth 64) ∧ s.onlyRegs t [])

/-- R268, R269, R277, with the ledger good and nothing mirrored: CREATE opens the lowest free channel (a timer one while fewer than 64 are open) under a new
generation and answers its handle, or NOCHAN where none is free; DESTROY of a current handle ends every operation of the channel
and its timer and succeeds, and of a stale one answers STALE. -/
def Obligations.ChannelLifecycle : Prop :=
  ∀ (tag : BitVec 10) (s : State) (o : CeOp), s.ceOn = true → s.ceFind tag.toNat = some o → o.started = true →
    o.atUnit = false → o.result = none →
    (o.op = 0xC → s.mirrors = false → s.ledgerGood →
      (∀ i, s.freeChan 0 1024 = some i → (fld (o.arg 0) 0 3 = 2 → s.timerCount 1024 < 64) →
        let g := if s.get (CE_CHINFO_GEN i) = 63 then 1 else s.get (CE_CHINFO_GEN i) + 1
        ∃ t, exec (.create tag) s = .next t ∧ s.opEnded t tag stOk (BitVec.ofNat 64 (i + 1024 * g)) ∧
          t.is (CE_CHINFO_OPEN i) = true ∧ t.get (CE_CHINFO_GEN i) = g ∧ t.get (CE_CHINFO_KIND i) = fld (o.arg 0) 0 3 ∧
          ∀ k, k ≠ i → k < 1024 → t.rd (CE_CHINFO k) = s.rd (CE_CHINFO k)) ∧
      (s.freeChan 0 1024 = none → ∃ t, exec (.create tag) s = .next t ∧ s.opEnded t tag stNochan 0 ∧ s.onlyRegs t [])) ∧
    (o.op = 0xD → let h := fld (o.arg 0) 0 16
      (s.current h = false → ∃ t, exec (.destroy tag) s = .next t ∧ s.opEnded t tag stStale 0 ∧ s.onlyRegs t []) ∧
      (s.current h = true → o.chan = none → s.ledgerGood → ∃ t, exec (.destroy tag) s = .next t ∧ s.opEnded t tag stOk 0 ∧
        Store.get (fun _ => none) t.ce.timers (h % 1024) = none ∧
        (∀ e ∈ t.ce.ops, e.chan = some (h % 1024) → e.tag ≠ tag.toNat → e.result.isSome = true)))

/-- R266, R271, R276, R279, R280: with one operation outstanding, a QUIET success frees its tag and a direct-lane result is held for
its CHWAIT; an operation with a timeout of its own on a channel ends TIMEOUT when it runs out and raises 0x34; a timer's end and
an event complete the operation that waits, and an event without a queue is counted. -/
def Obligations.CompletionsAndEvents : Prop :=
  (∀ (tag : BitVec 10) (s : State) (o : CeOp) (r : CeRes), s.ceClock = true → s.ce.ops = [o] → o.tag = tag.toNat →
    o.result = some r → o.held = false → o.op ≠ 0xD →
    (∀ q, o.src = .sq q → o.flags / 2 % 2 = 1 → r.status = stOk →
      ∃ t, exec (.completion tag) s = .next t ∧ t.ce.ops = [] ∧ s.onlyRegs t []) ∧
    (o.src = .lane → s.core.stations = [] →
      ∃ t, exec (.completion tag) s = .next t ∧ t.ce.ops = [{ o with held := true }] ∧ s.onlyRegs t [])) ∧
  (∀ (tag : BitVec 10) (s : State) (o : CeOp), s.ceOn = true → s.ceFind tag.toNat = some o → o.result = none → o.tmo ≠ 0 →
    s.heldBack o.tag = false →
    ∀ i, o.chan = some i → ∃ t u : State, exec (.operationTimeout tag) s = .next t ∧
      u.captures t 0x34 (BitVec.ofNat 32 (o.handle + o.tag * 65536)) (BitVec.ofNat 16 i) ∧ s.opEnded u tag stTimeout 0 ∧
      s.onlyRegs u []) ∧
  (∀ (ch : BitVec 10) (s : State) (per : Bool) (n : Nat), s.ceOn = true →
    Store.get (fun _ => none) s.ce.timers ch.toNat = some (per, n) →
    ∀ o ∈ s.ce.ops, o.op = 8 → o.chan = some ch.toNat → o.atUnit = true → o.result = none →
      ∃ t, exec (.timerExpiry ch) s = .next t ∧ s.onlyRegs t [] ∧
        Store.get (fun _ => none) t.ce.timers ch.toNat = (if per then some (true, n + 1) else none) ∧
        ∃ x ∈ t.ce.ops, x.tag = o.tag ∧ ∃ k, x.result = some ⟨stOk, BitVec.ofNat 64 ((n + 1) % 256), s.ceTime, k⟩) ∧
  (∀ (ch : BitVec 10) (code : BitVec 8) (data : BitVec 64) (s : State), s.ceOn = true →
    s.is (CE_CHINFO_OPEN ch.toNat) = true →
    (∀ o, s.ce.ops.find? (fun o => o.op == 7 && o.chan == some ch.toNat && o.started && o.result.isNone) = some o →
      ∃ t, exec (.ceEvent ch code data) s = .next t ∧ s.onlyRegs t [] ∧
        ∃ x ∈ t.ce.ops, x.tag = o.tag ∧ ∃ k, x.result = some ⟨stOk, data, s.ceTime, k⟩) ∧
    (s.ce.ops = [] → s.get (CE_CHINFO_EQ ch.toNat) = 0 →
      ∃ t, exec (.ceEvent ch code data) s = .next t ∧ t.is CE_IRQ_EVLOST = true ∧ t.ce = s.ce ∧
        t.get CE_EVLOST_COUNT = min (s.get CE_EVLOST_COUNT + 1) 0xFFFF ∧
        s.onlyRegs t [CE_EVLOST, CE_IRQ]))

/-- R289–R294, R302, R317: the raw outputs of a live analog slice that shares its pin with no rate slice follow its input with the
hysteresis; the filtered output of an analog slice in no voter group, with no channel open on it and no slice that raises 0x40, takes the
raw value, and the side that becomes 1 snuffs its route; a rate slice's hold takes an input inside the range, and its raw
outputs clear; a slice that settles is live, with its raw outputs by its input.
R297, R301, R304: a failed self-check of an analog slice keeps its step and raises 0x42, a passed one shows LASTOK; a voter whose upper
inputs differ raises 0x41 with the minority member; a restart under no hold frees an isolated slice whose fault is not pending
(one in no voter group, with no slice that raises 0x40). -/
def Obligations.SliceOutputsAndFaults : Prop :=
  (∀ (k : BitVec 7) (s : State), let n := k.toNat
     let u := s.get (MON_THR_UPPER n)
     let l := s.get (MON_THR_LOWER n)
     let y := s.get (MON_FILT_HYST n)
     let upper (t : State) (x : Nat) : Prop :=
       t.is (MON_STAT_UR n) = (decide (16 * u < x) || (s.is (MON_STAT_UR n) && decide (16 * (u - y) ≤ x)))
     let lower (t : State) (x : Nat) : Prop :=
       t.is (MON_STAT_LR n) = (decide (x < 16 * l) || (s.is (MON_STAT_LR n) && decide (x ≤ 16 * min (l + y) 1023)))
     (∀ x : BitVec 16, s.pm.held = [] → s.matrixOn = true → s.sliceLive n = true → s.get (MON_CFG_MODE n) = 0 →
       (n < 127 → s.get (MON_CFG_MODE (n + 1)) ≠ 2) →
       ∃ t, exec (.sliceThresholdCrossing k x) s = .next t ∧ upper t x.toNat ∧ lower t x.toNat ∧
         t.is (MON_STAT_UF n) = s.is (MON_STAT_UF n) ∧ t.is (MON_STAT_LF n) = s.is (MON_STAT_LF n) ∧
         s.onlyRegs t [MON_STAT n] ∧ t.core = s.core) ∧
     (∀ up : Bool, let raw := s.is (if up then MON_STAT_UR n else MON_STAT_LR n)
       s.pm.held = [] → s.noInj 0x27 0x27 = true →
       s.lit = true → s.matrixOn = true → s.sliceLive n = true → s.is (MON_STAT_ISO n) = false → s.digital n = false →
       s.groupsOf n 32 = [] → s.sliceChans n = [] → (∀ j < 128, s.is (MON_CFG_FLT j) = false) →
       s.is (if up then MON_STAT_UF n else MON_STAT_LF n) ≠ raw →
       ∃ t, exec (.deglitch k up) s = .next t ∧ t.is (if up then MON_STAT_UF n else MON_STAT_LF n) = raw ∧
         t.snuffed = s.snuffed ||| (if raw then s.rd (if up then MON_RTEU n else MON_RTEL n) &&& s.used else 0) ∧
         s.sameRegs t ∧ t.core = s.core) ∧
     (s.get (MON_CFG_MODE n) = 2 → s.sliceLive n = true → y < u → y < l → 0 < Store.get (fun _ => 0) s.mon.input n →
       Store.get (fun _ => 0) s.mon.input n < 16 * 1023 →
       ∃ t, exec (.rateRecapture k) s = .next t ∧
         Store.get (fun _ => 0) t.mon.hold n = Store.get (fun _ => 0) s.mon.input n ∧ t.is (MON_STAT_UR n) = false ∧
         t.is (MON_STAT_LR n) = false ∧ s.onlyRegs t [MON_STAT n]) ∧
     (s.lit = true → s.is (MON_CFG_EN n) = true → s.get (MON_CFG_MODE n) = 0 → s.groupsOf n 32 = [] →
       s.get ⟨MON_STAT n, 0, 7⟩ = 0 →
       ∃ t, exec (.sliceSettled k) s = .next t ∧ t.is (MON_STAT_LIVE n) = true ∧ upper t (Store.get (fun _ => 0) s.mon.input n) ∧
         lower t (Store.get (fun _ => 0) s.mon.input n) ∧ s.onlyRegs t [MON_STAT n, MON_VIOL (n / 32)])) ∧
  ((∀ (k : BitVec 7) (s : State), let n := k.toNat
     s.matrixOn = true → s.sliceLive n = true → s.unwatched n = false → s.noInj 0x42 0x42 = true →
     (∃ t, exec (.sliceSelfCheck k none) s = .next t ∧ t.is (MON_SC_LASTOK n) = true ∧ s.onlyRegs t [MON_SC n]) ∧
     ∀ step : BitVec 3, s.digital n = false →
       ∃ t v : State, exec (.sliceSelfCheck k (some step)) s = .next t ∧ v.captures t 0x42 (BitVec.ofNat 32 n) (BitVec.ofNat 16 n) ∧
         v.is (MON_SC_LASTOK n) = false ∧ v.get (MON_SC_STEP n) = step.toNat ∧
         v.get (MON_SC_FAILS n) = min (s.get (MON_SC_FAILS n) + 1) 255 ∧ s.onlyRegs v [MON_SC n]) ∧
   (∀ (g : BitVec 5) (s : State) (m : Nat), s.matrixOn = true → s.noInj 0x41 0x41 = true → s.disagree g.toNat true = true →
     s.minority g.toNat true = some m →
     ∃ t v : State, exec (.voterDisagreement g) s = .next t ∧
       v.captures t 0x41 (BitVec.ofNat 32 (g.toNat + 256)) (BitVec.ofNat 16 m) ∧ v.flt.cond.contains 0x41 = true ∧
       s.onlyRegs v []) ∧
   (∀ (k : BitVec 7) (s : State), let n := k.toNat
     s.codeAt (CE_LEDGER (0x510 + n)) = 0 → s.ledgerHeld (0x510 + n) = false → s.is (MON_STAT_ISO n) = true → s.pend (s.get (MON_STAT_ISOID n)) = false →
     s.groupsOf n 32 = [] → s.reaches (MON_CFG n) = true → (∀ j < 128, s.is (MON_CFG_FLT j) = false) →
     ∃ t, exec (.monRestart k) s = .next t ∧ t.is (MON_STAT_ISO n) = false ∧ t.is (MON_STAT_UF n) = false ∧
       t.is (MON_STAT_LF n) = false ∧ t.ledgerSt (0x510 + n) = 1 ∧ t.snuffed = s.snuffed ∧ s.sameRegs t))

/-- R295, R296, R312, R313, R457: a threshold write of an analog slice is kept within its limits, and a digital slice's does nothing; the
watch set takes a new slice while it has room, and a write of 0 leaves the sealed ones; a scan tick in EMBER captures every enabled
slice.
R306, R307, R311, R318: MON_ARM arms its channel, MON_SAMPLE answers the slice's state, ADC_CONVERT queues on its converter, and
the conversions give their mean, rounded half up, to the operation at the head.
R308–R311: a step of a calibration moves on, and the eighth turns the converter on with age 0; at 200 ms 0x43 is raised; a reference code from 9,504
to 9,696 is good, and another raises 0x44. -/
def Obligations.SliceSettingsOperationsAndCalibration : Prop :=
  ((∀ (m : Master) (k : BitVec 7) (v : Word) (s : State), let n := k.toNat
     s.admits m (MON_THR n) = true → s.pm.phase = false → s.pm.held = [] →
     (s.digital n = true → exec (.monThrWrite m k v) s = .next s) ∧
     (s.get (MON_CFG_MODE n) = 0 → ∃ t, exec (.monThrWrite m k v) s = .next t ∧
       t.get (MON_THR_UPPER n) = min (fld v 0 10) (s.get (MON_LIM_ULIM n)) ∧
       t.get (MON_THR_LOWER n) = max (fld v 16 10) (s.get (MON_LIM_LLIM n)) ∧
       s.onlyRegs t [MON_THR n, MON_STAT n, SYS_CLAMPCNT, SYS_CLAMPLAST])) ∧
   (∀ (m : Master) (k : BitVec 2) (b : BitVec 5) (s : State), s.admits m (MON_WSET k.toNat) = true → s.pm.phase = false → s.pm.held = [] →
     (s.watchCount 128 < 16 → s.latched (MON_WSET k.toNat) &&& ~~~ s.rd (MON_WSET k.toNat) = 0 →
       ∃ t, exec (.monWsetWrite m k (s.rd (MON_WSET k.toNat) ||| bit b.toNat)) s = .next t ∧
         t.rd (MON_WSET k.toNat) = s.rd (MON_WSET k.toNat) ||| bit b.toNat ∧ s.onlyRegs t [MON_WSET k.toNat, MON_GCTL]) ∧
     ∃ t, exec (.monWsetWrite m k 0) s = .next t ∧
       ∀ j < 4, t.rd (MON_WSET j) = if j = k.toNat then s.latched (MON_WSET j) else s.rd (MON_WSET j)) ∧
   (∀ s : State, s.pstate = 3 → s.ceOn = true → s.mon.latched = [] →
     ∃ t, exec .scanTick s = .next t ∧ (∀ n ∈ s.enabledSlices, Store.get (fun _ => 0) t.mon.scan n = s.sampleNow n) ∧
       s.onlyRegs t [])) ∧
  ((∀ (tag : BitVec 10) (s : State) (o : CeOp), let c := o.handle % 1024
     (s.runsOp tag 4 o → ∃ t, exec (.monArm tag) s = .next t ∧ s.opEnded t tag stOk 0 ∧
       Store.get (fun _ => 0) t.ce.arm c = fld (o.arg 0) 0 3 ∧ s.onlyRegs t []) ∧
     (s.runsOp tag 5 o → ∃ t, exec (.monSample tag) s = .next t ∧ s.onlyRegs t [] ∧ s.opEnded t tag stOk
       (BitVec.ofNat 64 (if s.pstate = 3 then Store.get (fun _ => 0) s.mon.scan (s.chBound c) else s.sampleNow (s.chBound c)))) ∧
     (s.runsOp tag 6 o →
       let d := if bitOf (o.arg 0) 1 then (if (s.adcQ 1).length < (s.adcQ 0).length then 1 else 0) else fld (o.arg 0) 0 1
       (s.is (MON_CFG_EN (s.chBound c)) = false →
         ∃ t, exec (.adcConvert tag) s = .next t ∧ s.opEnded t tag stUnavail 0 ∧ s.onlyRegs t [ADC_STAT 0, ADC_STAT 1]) ∧
       (s.is (MON_CFG_EN (s.chBound c)) = true → s.is (ADC_STAT_ISO d) = true →
         ∃ t, exec (.adcConvert tag) s = .next t ∧ s.opEnded t tag stIsolated 0 ∧ s.onlyRegs t [ADC_STAT 0, ADC_STAT 1]) ∧
       (s.is (MON_CFG_EN (s.chBound c)) = true → s.is (ADC_STAT_ISO d) = false →
         ∃ t, exec (.adcConvert tag) s = .next t ∧ t.ceFind tag.toNat = some { o with atUnit := true } ∧
           t.adcQ d = s.adcQ d ++ [tag.toNat] ∧ s.onlyRegs t [ADC_STAT 0, ADC_STAT 1]))) ∧
   (∀ (c : BitVec 1) (codes : List (BitVec 14)) (s : State) (o : CeOp) (q : List Nat), s.adcRuns = true →
     s.mon.refd.contains c.toNat = true → s.is (ADC_STAT_ON c.toNat) = true → s.adcQ c.toNat = o.tag :: q → o.tag ∉ q → s.ceFind o.tag = some o → o.op = 6 →
     o.atUnit = true → o.result = none → codes.length = fld (o.arg 0) 4 4 + 1 →
     ∃ t, exec (.conversionComplete c codes) s = .next t ∧ t.adcQ c.toNat = q ∧ s.onlyRegs t [ADC_STAT c.toNat, ADC_CNT c.toNat] ∧
       ∃ x k, t.ceFind o.tag = some x ∧ x.result = some ⟨stOk, BitVec.ofNat 64
         (((codes.map (fun v => v.toNat)).sum + codes.length / 2) / codes.length + c.toNat * 65536), s.ceTime, k⟩)) ∧
  (∀ (b : BitVec 1) (s : State), let c := b.toNat
     s.adcRuns = true → s.noInj 0x43 0x44 = true →
     (s.get (ADC_STAT_STEP c) < 7 →
       ∃ t, exec (.calibrationStep b) s = .next t ∧ t.get (ADC_STAT_STEP c) = s.get (ADC_STAT_STEP c) + 1 ∧
         t.is (ADC_STAT_CALACT c) = true ∧ s.onlyRegs t [ADC_STAT c, ADC_FORCE c]) ∧
     (s.get (ADC_STAT_STEP c) = 7 →
       ∃ t, exec (.calibrationStep b) s = .next t ∧ t.get (ADC_STAT_STEP c) = 0 ∧ t.is (ADC_STAT_CALACT c) = false ∧
         t.is (ADC_STAT_ON c) = true ∧ t.rd (ADC_CALAGE c) = 0 ∧ s.onlyRegs t [ADC_STAT c, ADC_FORCE c, ADC_CALAGE c, ADC_IRQ]) ∧
     (∃ t u : State, exec (.calibrationOverdue b) s = .next t ∧ u.captures t 0x43 (BitVec.ofNat 32 c) (BitVec.ofNat 16 c) ∧
       u.rd (ADC_CALAGE c) = 200 ∧ s.onlyRegs u [ADC_CALAGE c]) ∧
     ∀ code : BitVec 14,
       (9504 ≤ code.toNat → code.toNat ≤ 9696 →
         ∃ t, exec (.referenceCheck b code) s = .next t ∧ t.rd (ADC_REF c) = code.setWidth 32 ∧ t.is (ADC_STAT_REFOK c) = true ∧
           s.onlyRegs t [ADC_REF c, ADC_STAT c]) ∧
       (code.toNat < 9504 ∨ 9696 < code.toNat →
         ∃ t u : State, exec (.referenceCheck b code) s = .next t ∧ u.captures t 0x44 (BitVec.ofNat 32 c) (BitVec.ofNat 16 c) ∧
           u.rd (ADC_REF c) = code.setWidth 32 ∧ u.is (ADC_STAT_REFOK c) = false ∧ s.onlyRegs u [ADC_REF c, ADC_STAT c, ADC_IRQ]))

/-- R270, R271, R328, R333: an operation of a port goes to the port of its partner's record and waits there; on a LOOP channel
PORT_WRITE stores its bytes and PORT_READ answers them.
R326, R328, R329, R333, R334, R336: an I2C port starts its next transaction with the command and the byte; bytes read end one OK and
a NACK ends one NACK, each counted; TXTMO raises 0x51; the fourth lost arbitration raises 0x50. -/
def Obligations.PortOperationsAndTransactions : Prop :=
  (∀ p ∈ [(Instr.portRead, 1), (Instr.portWrite, 2), (Instr.portXfer, 3)], ∀ (tag : BitVec 10) (s : State) (o : CeOp),
     s.runsOp tag p.2 o → let c := o.handle % 1024
     (s.chKind c ≠ 4 ∨ p.2 = 3 → ∃ t, exec (p.1 tag) s = .next t ∧ t.ceFind tag.toNat = some { o with atUnit := true } ∧
       t.ports.queue.getLast? = some (s.partnerPort (s.chBound c), tag.toNat) ∧ s.onlyRegs t []) ∧
     (s.chKind c = 4 → p.2 = 1 → ∃ t, exec (p.1 tag) s = .next t ∧
       s.opEnded t tag stOk (Store.get (fun _ => 0) s.ce.loop c) ∧ s.onlyRegs t []) ∧
     (s.chKind c = 4 → p.2 = 2 → ∃ t, exec (p.1 tag) s = .next t ∧ s.opEnded t tag stOk 0 ∧
       Store.get (fun _ => 0) t.ce.loop c = o.arg 2 ++ o.arg 1 ∧ s.onlyRegs t [])) ∧
  (∀ (k : BitVec 4) (s : State), let p := k.toNat
     s.portRuns p = true → s.is (PORT_STAT_HUNG p) = false → s.pers p = 4 → s.portBank p = true →
     (∀ o : CeOp, s.portCur p = none → s.is (PORT_CTL_DAA p) = false → s.is (PORT_STAT_TEST p) = false →
       s.portNext p = some o → o.op = 2 → fld (o.arg 0) 16 3 = 0 → fld (o.arg 0) 8 8 = 1 → s.pValid (s.opPartner o) = true →
       s.partnerPort (s.opPartner o) = p → s.recordGood (s.opPartner o) → s.ptInj p = none →
       ∃ t x, exec (.portTransaction k .begins) s = .next t ∧ t.portCur p = some x ∧ x.tag = o.tag ∧
         x.addr = s.pAddr (s.opPartner o) ∧ s.onlyRegs t [] ∧
         Store.get (fun _ => []) t.ports.sent p = [BitVec.ofNat 8 (fld (o.arg 0) 0 8), BitVec.ofNat 8 (fld (o.arg 1) 0 8)]) ∧
     (∀ (x : PortXfer) (o : CeOp), s.portCur p = some x → s.ceFind x.tag = some o → x.inj = none →
       let ended (t : State) (st : Nat) (d : BitVec 64) : Prop :=
         t.portCur p = none ∧ ∃ y k, t.ceFind x.tag = some y ∧ y.result = some ⟨st, d, s.ceTime, k⟩
       let detail := BitVec.ofNat 32 (p + 16 * s.opPartner o)
       (∀ l : List Byte, o.op = 1 → 0 < x.need → x.need ≤ l.length → x.block = false → x.pec = false →
         ∃ t, exec (.portTransaction k (.done l)) s = .next t ∧ ended t stOk (BitVec.ofNat 64 (bytesNat (l.take x.need))) ∧
           t.get (PORT_CNT_DONE p) = min (s.get (PORT_CNT_DONE p) + 1) 65535 ∧ s.onlyRegs t [PORT_CNT p]) ∧
       (∃ t, exec (.portTransaction k .nack) s = .next t ∧ ended t stNack 0 ∧
         t.get (PORT_CNT_BAD p) = min (s.get (PORT_CNT_BAD p) + 1) 65535 ∧ s.onlyRegs t [PORT_CNT p]) ∧
       (x.tmo ≠ 0 →
         ∃ t u : State, exec (.txtmo k) s = .next t ∧ u.captures t 0x51 detail (BitVec.ofNat 16 p) ∧ ended u stTimeout 0 ∧
           s.onlyRegs u [PORT_CNT p]) ∧
       (x.losses < 3 → ∃ t, exec (.arbitrationLost k) s = .next t ∧ t.portCur p = some { x with losses := x.losses + 1 } ∧
         bitOf (t.rd (PORT_IRQ p)) 8 = true ∧ s.onlyRegs t [PORT_IRQ p]) ∧
       (x.losses = 3 → ∃ t u : State, exec (.arbitrationLost k) s = .next t ∧ u.captures t 0x50 detail (BitVec.ofNat 16 p) ∧
         ended u stProtocol 0 ∧ s.onlyRegs u [PORT_IRQ p, PORT_CNT p])))

/-- R335, R343, on an idle I2C port where nothing is mirrored: SCL held low hangs it and raises 0x51, SCL and SDA high again recover
it, and a request of recovery is noted in RECOVER; a restart under no hold frees an isolated port or partner whose fault is not
pending.
R325, R339: RD shows the good record at PORT_PIDX, WR stores a legal record of an I2C port, and a locked one after sealing stays and
counts a clamp; a DAA of an I3C port with no device ends, and one with a device and no record counts it as unmatched and keeps
its identity. -/
def Obligations.PortRecoveryAndPartnerRecords : Prop :=
  ((∀ (k : BitVec 4) (s : State), let p := k.toNat
     s.portRuns p = true → s.pers p = 4 → s.portCur p = none → s.mirrors = false → s.portBank p = true →
     (s.is (PORT_STAT_HUNG p) = false →
       ∃ t u : State, exec (.busLowTimeout k) s = .next t ∧
         u.captures t 0x51 (BitVec.ofNat 32 (p + 16 * 0xFFF)) (BitVec.ofNat 16 p) ∧ u.is (PORT_STAT_HUNG p) = true ∧
         u.is (PORT_STAT_SCLLOW p) = true ∧ bitOf (u.rd (PORT_IRQ p)) 0 = true ∧ u.ledgerSt (0x500 + p) = 4) ∧
     (s.is (PORT_STAT_HUNG p) = true →
       ∃ t, exec (.busRecovery k true true) s = .next t ∧ t.is (PORT_STAT_HUNG p) = false ∧
         t.is (PORT_STAT_SCLLOW p) = false ∧ t.is (PORT_STAT_SDALOW p) = false ∧ bitOf (t.rd (PORT_IRQ p)) 1 = true ∧
         t.ledgerSt (0x500 + p) = 1) ∧
     (s.reaches (PORT_CTL p) = true → ∃ t, exec (.portRecover k) s = .next t ∧ t.is (PORT_CTL_RECOVER p) = true ∧ s.onlyRegs t [PORT_CTL p])) ∧
   (∀ (k : BitVec 4) (s : State), let p := k.toNat
     s.codeAt (CE_LEDGER (0x500 + p)) = 0 → s.ledgerHeld (0x500 + p) = false → s.is (PORT_STAT_ISO p) = true → s.pend (s.get (PORT_STAT_ISOID p)) = false →
     s.get RING_PSTAT_ROLE ≠ 2 → s.reaches (PORT_CTL p) = true →
     ∃ t, exec (.portRestart k) s = .next t ∧ t.is (PORT_STAT_ISO p) = false ∧ t.ledgerSt (0x500 + p) = 1 ∧ s.sameRegs t) ∧
   (∀ s : State, let n := s.get PORT_PIDX_V
     s.codeAt (CE_LEDGER (0x600 + n / 8)) = 0 → s.ledgerHeld (0x600 + n / 8) = false → s.pIso n = true → s.pend 0x52 = false → s.reaches PORT_PCMD = true →
     ∃ t, exec .portPcmdRestart s = .next t ∧ t.pIso n = false ∧ t.pAddr n = s.pAddr n ∧ t.pValid n = s.pValid n ∧ s.sameRegs t)) ∧
  ((∀ s : State, s.recordGood (s.get PORT_PIDX_V) → s.reaches PORT_PCMD = true → ∃ t, exec .portPcmdRd s = .next t ∧ (∀ k < 4, t.rd (PORT_PDATA k) = s.partnerWord (s.get PORT_PIDX_V) k) ∧
     s.onlyRegs t [PORT_PDATA 0, PORT_PDATA 1, PORT_PDATA 2, PORT_PDATA 3]) ∧
   (∀ (m : Master) (s : State), s.admits m PORT_PCMD = true → let n := s.get PORT_PIDX_V
     (s.isSealed = true → s.pField n 5 1 = 1 →
       ∃ t, exec (.portPcmdWr m) s = .next t ∧ t.ports = s.ports ∧ s.onlyRegs t [SYS_CLAMPCNT, SYS_CLAMPLAST]) ∧
     (s.pField n 5 1 = 0 → let v := s.rd (PORT_PDATA 0)
       s.pers (fld v 0 4) = 4 → 8 ≤ fld v 8 7 → fld v 8 7 ≤ 0x77 → fld v 16 4 ≤ 2 → fld (s.rd (PORT_PDATA 1)) 16 7 = 0 →
       ∃ t, exec (.portPcmdWr m) s = .next t ∧ t.pField n 0 5 = fld v 0 5 ∧ t.pAddr n = fld v 8 7 ∧
         t.pField n 16 4 = fld v 16 4 ∧ fld (t.partnerWord n 1) 0 16 = fld (s.rd (PORT_PDATA 1)) 0 16 ∧
         t.partnerWord n 2 = s.rd (PORT_PDATA 2) ∧ (∀ j k, j ≠ n → t.partnerWord j k = s.partnerWord j k))) ∧
   (∀ (k : BitVec 4) (pid : BitVec 48) (bcr dcr : BitVec 8) (s : State), let p := k.toNat
     s.portRuns p = true → s.pers p = 1 → s.portCur p = none →
     (∃ t, exec (.portDaa k []) s = .next t ∧ t.rd (PORT_DAA p) = 0 ∧ bitOf (t.rd (PORT_IRQ p)) 5 = true ∧
       t.is (PORT_CTL_DAA p) = false ∧ s.onlyRegs t [PORT_DAA p, PORT_CTL p, PORT_STAT p, PORT_IRQ p]) ∧
     (s.ports.partners = [] →
       ∃ t, exec (.portDaa k [.dynamic pid bcr dcr]) s = .next t ∧ t.get (PORT_DAA_UNMATCHED p) = 1 ∧
         t.get (PORT_DAA_ASSIGNED p) = 0 ∧ t.rd (PORT_NEWPIDL p) = pid.extractLsb' 0 32 ∧
         t.rd (PORT_NEWPIDH p) = BitVec.ofNat 32 (pid.toNat / 2 ^ 32 + bcr.toNat * 2 ^ 16 + dcr.toNat * 2 ^ 24) ∧
         bitOf (t.rd (PORT_IRQ p)) 5 = true ∧ bitOf (t.rd (PORT_IRQ p)) 6 = true)))

/-- R337, R338, R340, R342: while the port is idle with nothing queued, in no power state entry, an in-band interrupt, alert or
notification of a known partner with an open channel becomes that partner's event, and of an unknown address sets its status
bit; a hot-join sets its own. -/
def Obligations.PartnerEvents : Prop :=
  ∀ (k : BitVec 4) (a : BitVec 7) (s : State), let p := k.toNat
    s.portRuns p = true → s.is (PORT_STAT_HUNG p) = false → s.pstate ≠ 4 → s.portCur p = none → s.portBank p = true →
    s.portQueue p = [] → s.ports.served.contains p = false → s.pm.phase = false →
    let posted (c : Instr) (ch code d : Nat) : Prop :=
      ∃ t, exec c s = .next t ∧ exec (.ceEvent (BitVec.ofNat 10 ch) (BitVec.ofNat 8 code) (BitVec.ofNat 64 d)) s = .next t
    (s.pers p = 1 →
      (∀ l : List Byte, s.ports.partners = [] →
        ∃ t, exec (.inBandInterrupt k a l) s = .next t ∧ bitOf (t.rd (PORT_IRQ p)) 3 = true ∧
          t.get (PORT_STAT_UNKADDR p) = a.toNat ∧ s.onlyRegs t [PORT_IRQ p, PORT_STAT p]) ∧
      (∀ (l : List Byte) (n ch : Nat),
        findPartner (fun _ w => fld w 0 4 == p && fld w 8 7 == a.toNat && bitOf w 22 && !bitOf w 31) s.ports.partners = some n →
        s.partnerChan n 0 1024 = some ch → l.length = s.pField n 23 3 →
        posted (.inBandInterrupt k a l) ch 0x10 (a.toNat + 256 * bytesNat l)) ∧
      (s.is (PORT_CFG_HJEN p) = true → ∃ t, exec (.hotJoin k) s = .next t ∧ bitOf (t.rd (PORT_IRQ p)) 2 = true ∧
        s.onlyRegs t [PORT_IRQ p])) ∧
    (s.pers p = 2 →
      (s.byAddr p a.toNat = none →
        (s.is (PORT_CFG_ALERTEN p) = true → ∃ t, exec (.smbusAlert k (some a)) s = .next t ∧
          bitOf (t.rd (PORT_IRQ p)) 4 = true ∧ s.onlyRegs t [PORT_IRQ p]) ∧
        (s.is (PORT_CFG_HNEN p) = true → ∀ d, ∃ t, exec (.hostNotify k a d) s = .next t ∧
          bitOf (t.rd (PORT_IRQ p)) 4 = true ∧ s.onlyRegs t [PORT_IRQ p])) ∧
      ∀ n ch, s.byAddr p a.toNat = some n → s.partnerChan n 0 1024 = some ch →
        (s.is (PORT_CFG_ALERTEN p) = true → posted (.smbusAlert k (some a)) ch 0x12 a.toNat) ∧
        (s.is (PORT_CFG_HNEN p) = true → ∀ d : BitVec 16, posted (.hostNotify k a d) ch 0x11 (a.toNat + 256 * d.toNat)))

/-- R332, R341: a target port without PEC, whose tables can be read and written without an error and whose channel has an operation waiting for
its event, stores a written byte in its receive table and answers a read from its reply table; a target port drives and releases
SMBALERT_N; an idle UART gathers characters, hands them on by sevens, and a bad one raises 0x50. -/
def Obligations.TargetsAndUarts : Prop :=
  ∀ (k : BitVec 4) (s : State), let p := k.toNat
    s.portRuns p = true → s.is (PORT_STAT_HUNG p) = false → s.pstate ≠ 4 → s.portBank p = true →
    (∀ (c b : Byte) (ch n : Nat), s.pers p = 3 → s.is (PORT_CFG_TPEC p) = false → s.selfOf p = some n →
      s.partnerChan n 0 1024 = some ch → s.flt.inj = [] → s.mirrors = false →
      let a := (s.rd (PORT_TBASE p)).toNat + 32 * c.toNat
      (∀ j < 32, ∀ x ∈ [a + j, a + 0x2000 + j], inSram x = true ∧ s.unitClass x = .good ∧
        s.refusal .mover .read x = none ∧ s.refusal .mover .write x = none) →
      a % 32 = 0 → s.ce.ops.any (fun o => o.op == 7 && o.chan == some ch && o.started && o.result.isNone) = true →
      (∃ t, exec (.targetWrite k [c, b]) s = .next t ∧ s.onlyRegs { t with mem := s.mem, syn := s.syn } [] ∧
        ∀ x, t.byteAt x = if x = a + 0x2000 then 1 else if x = a + 0x2001 then b else s.byteAt x) ∧
      (∀ m : BitVec 9, let l := (s.byteAt a).toNat
        l < 32 → ∃ t, exec (.targetRead k (some c) m) s = .next t ∧ s.onlyRegs t [] ∧
          Store.get (fun _ => []) t.ports.sent p = (s.bytesAt (a + 1) l ++ List.replicate m.toNat 0xFF).take m.toNat)) ∧
    (s.pers p = 3 →
      (s.reaches (PORT_CTL p) = true → ∃ t, exec (.portAlert k true) s = .next t ∧ t.is (PORT_CTL_ALERT p) = true ∧ t.ports.alert.contains p = true ∧
        s.onlyRegs t [PORT_CTL p]) ∧
      (s.ports.alert.contains p = true → ∃ t, exec (.portAlert k false) s = .next t ∧ t.ports.alert.contains p = false ∧
        Store.get (fun _ => []) t.ports.sent p = [BitVec.ofNat 8 (2 * s.get (PORT_TADDR_V p))] ∧ s.onlyRegs t [])) ∧
    (s.pers p = 7 → s.portCur p = none →
      (∀ c : Byte, (s.uartFifo p).length < 64 → ∃ t, exec (.uartReceive k c false) s = .next t ∧
        t.uartFifo p = s.uartFifo p ++ [c] ∧ s.onlyRegs t []) ∧
      (∀ c : Byte, ∃ t u : State, exec (.uartReceive k c true) s = .next t ∧
        u.captures t 0x50 (BitVec.ofNat 32 (p + 16 * s.selfIdx p)) (BitVec.ofNat 16 p) ∧ bitOf (u.rd (PORT_IRQ p)) 7 = true ∧
        s.onlyRegs u [PORT_IRQ p]) ∧
      (∀ n ch, s.selfOf p = some n → s.partnerChan n 0 1024 = some ch → s.uartFifo p ≠ [] →
        ∃ t u : State, exec (.uartReceiveEvent k) s = .next t ∧ u.uartFifo p = (s.uartFifo p).drop 7 ∧ s.onlyRegs u [] ∧
          exec (.ceEvent (BitVec.ofNat 10 ch) 0x15
            (BitVec.ofNat 64 (min (s.uartFifo p).length 7 + 256 * bytesNat ((s.uartFifo p).take 7)))) u = .next t))

/-- R345, R346, R347: a link test runs on an idle port lane as its control says; a checker that is not looped back locks where 64 bits follow
its polynomial from the first n, which seed it, and stays unlocked where they do not; a locked one with no earlier checks counts each bit, and a wrong one as an
error that raises 0x58; the level of a pin reaches GP_IN, and its rising edge GP_IRQ where that is selected. -/
def Obligations.LinkTestAndPins : Prop :=
  (∀ (m : Master) (k : BitVec 5) (v : Word) (s : State), k.toNat < 16 → s.admits m (TST_CTL k.toNat) = true → s.portBusy k.toNat = false →
    fld v 2 2 ≤ 2 → fld v 4 2 ≤ 2 → 0 < fld v 16 16 →
    ∃ t, exec (.tstCtlWrite m k v) s = .next t ∧ t.is (TST_CTL_GEN k.toNat) = bitOf v 0 ∧ t.is (TST_CTL_CHK k.toNat) = bitOf v 1 ∧
      t.is (TST_STAT_RUN k.toNat) = (bitOf v 0 || bitOf v 1) ∧ t.is (PORT_STAT_TEST k.toNat) = (bitOf v 0 || bitOf v 1) ∧
      s.onlyRegs t [TST_CTL k.toNat, TST_STAT k.toNat, PORT_STAT k.toNat]) ∧
  (∀ (k : BitVec 5) (s : State), k.toNat ≤ 0x12 → s.is (TST_CTL_CHK k.toNat) = true → s.noInj 0x58 0x58 = true →
    s.prbsLoop k.toNat = false →
    (∀ l : List Bool, s.is (TST_STAT_LOCK k.toNat) = false →
      let p := s.prbsTaps k.toNat
      let rx (j : Nat) : Bool := l.getD j false != s.is (TST_CTL_INV k.toNat)
      let good : Prop := p.1 + 64 ≤ l.length ∧ ∀ j < 64, rx (p.1 + j) = (rx j != rx (p.1 + j - p.2))
      (good → ∃ t, exec (.prbsLock ⟨k, l⟩) s = .next t ∧ t.is (TST_STAT_LOCK k.toNat) = true ∧ s.onlyRegs t [TST_STAT k.toNat]) ∧
      (¬ good → ∃ t, exec (.prbsLock ⟨k, l⟩) s = .next t ∧ t.is (TST_STAT_LOCK k.toNat) = false ∧ s.onlyRegs t [])) ∧
    (∀ b : Bool, s.is (TST_STAT_LOCK k.toNat) = true → Store.get (fun _ => []) s.ports.checks k.toNat = [] →
      let right : Prop := (b != s.is (TST_CTL_INV k.toNat)) =
        prbsBit (s.prbsTaps k.toNat) (Store.get (fun _ => 0) s.ports.chk k.toNat)
      (right → ∃ t, exec (.prbsCheck k b) s = .next t ∧ s.onlyRegs t [TST_BITS k.toNat] ∧
        t.get (TST_BITS_COUNT k.toNat) = min (s.get (TST_BITS_COUNT k.toNat) + 1) 0xFFFFFFFF) ∧
      (¬ right → ∃ t u : State, exec (.prbsCheck k b) s = .next t ∧
        u.captures t 0x58 (BitVec.ofNat 32 (k.toNat % 16 + if k.toNat < 16 then 0 else 0xFFF0)) 0 ∧
        u.get (TST_BITS_COUNT k.toNat) = min (s.get (TST_BITS_COUNT k.toNat) + 1) 0xFFFFFFFF ∧
        u.get (TST_ERR_COUNT k.toNat) = min (s.get (TST_ERR_COUNT k.toNat) + 1) 0xFFFFFFFF ∧
        s.onlyRegs u [TST_BITS k.toNat, TST_ERR k.toNat]))) ∧
  (∀ (k : BitVec 6) (level : Bool) (s : State), let n := k.toNat
    n < 40 → s.is (GP_CFG_OWNED n) = false → 3 ≤ s.pstate → s.gpBank n = true →
    ∃ t, exec (.gpInput k level) s = .next t ∧ t.is (gpBit (GP_IN 0) (GP_IN 1) n) = level ∧
      s.onlyRegs t [GP_IN 0, GP_IN 1, GP_IRQ0, GP_IRQ1] ∧
      (s.get (GP_CFG_IRQ n) = 0 → t.rd GP_IRQ0 = s.rd GP_IRQ0 ∧ t.rd GP_IRQ1 = s.rd GP_IRQ1) ∧
      (s.get (GP_CFG_IRQ n) = 1 → level = true → s.is (gpBit (GP_IN 0) (GP_IN 1) n) = false →
        t.is (gpBit GP_IRQ0 GP_IRQ1 n) = true))

/-- R350, R353, R354, R356, R357, R371: the link in sync shows LINKIN; a master that is enabled sends ENUM with its UID then, on request, and
again on ENUM_RESEND until it returns; a member takes the ID an ENUM brings and sends it on with the next one; an enumerated
member out of sync raises 0x54; a bad frame goes on stomped, is counted and raises 0x53, a stomped one goes on, and an invalid
ordered set goes on and raises 0x53; no ENUM sets NOENUM; RING_CTL takes EN. -/
def Obligations.RingEnumeration : Prop :=
  ∀ s : State, s.ringIn = true → s.ks.ringSet = true → s.laneTest 0x11 = false → s.flt.inj = [] →
    let enum : RingItem := .frame 1 ⟨true, false, 0, 0, 0, 0, 0, natBytes 8 s.uid ++ [1]⟩
    let up := BitVec.ofNat 32 s.upstream
    (s.is RING_STAT_LINKIN = false →
      (s.ringEn = false ∨ s.is RING_STAT_MST = false →
        ∃ t, exec .linkin s = .next t ∧ t.is RING_STAT_LINKIN = true ∧ t.ring = s.ring ∧ s.onlyRegs t [RING_STAT]) ∧
      (s.ringEn = true → s.is RING_STAT_MST = true →
        ∃ t, exec .linkin s = .next t ∧ t.is RING_STAT_LINKIN = true ∧ t.ring.sent = enum :: s.ring.sent ∧
          s.onlyRegs t [RING_STAT]) ∧
      (s.ringEn = true → s.is RING_STAT_ENUMD = true →
        ∃ t u : State, exec .ringLinkLoss s = .next t ∧ u.captures t 0x54 up 0 ∧ s.onlyRegs u [])) ∧
    (s.ringEn = true → s.is RING_STAT_MST = true → ∀ c ∈ [Instr.ringEnumWrite, .enumResend],
      (c = .enumResend → s.ring.enumOut = true ∧ s.is RING_STAT_LINKIN = true) →
      ∃ t, exec c s = .next t ∧ t.ring.sent = enum :: s.ring.sent ∧ t.ring.enumOut = true ∧ s.onlyRegs t []) ∧
    (∀ f : RingFrame, f.payload.length = 9 → f.bc = true → s.ownSrc f.src.toNat = false →
      let n := (f.payload.getD 8 0).toNat
      s.is RING_STAT_MST = false → n < 64 →
        ∃ t, exec (.ringEnum f) s = .next t ∧ t.get RING_STAT_ID = n ∧ t.is RING_STAT_ENUMD = true ∧
          t.ring.sent = .frame 1 { f with payload := f.payload.take 8 ++ [BitVec.ofNat 8 (n + 1)] } :: s.ring.sent ∧
          s.onlyRegs t [RING_STAT, RING_IRQ, RING_FCNT]) ∧
    (∀ raw : List Byte, (rawSrc raw).any s.ownSrc = false →
      (∀ groups ended : Bool, groups = true ∨ ended = false ∨ rawGood raw = false →
        ∃ t u : State, exec (.badFrame (.frame raw groups ended)) s = .next t ∧ u.captures t 0x53 up 0 ∧
          u.ring.sent = .stomped raw :: s.ring.sent ∧ s.onlyRegs u [RING_CRCCNT] ∧
          u.get RING_CRCCNT_COUNT = min (s.get RING_CRCCNT_COUNT + 1) 0xFFFF) ∧
      ∃ t, exec (.badFrame (.stomped raw)) s = .next t ∧ t.ring.sent = .stomped raw :: s.ring.sent ∧ s.onlyRegs t []) ∧
    (∀ y : Bool, ∃ t u : State, exec (.badFrame (.orderedSet y)) s = .next t ∧ u.captures t 0x53 up 0 ∧
      u.ring.sent = .badSet y :: s.ring.sent ∧ s.onlyRegs u []) ∧
    (s.ringEn = true → s.is RING_STAT_MST = false → s.is RING_STAT_ENUMD = false →
      ∃ t, exec .noenum s = .next t ∧ t.is RING_IRQ_NOENUM = true ∧ s.onlyRegs t [RING_IRQ]) ∧
    (∀ (m : Master) (v : Word), s.admits m RING_CTL = true → bitOf v 1 = false → bitOf v 2 = false →
      (s.is RING_CTL_EN = true ∨ bitOf v 0 = false ∨ s.is RING_STAT_LINKIN = false) →
      ∃ t, exec (.ringCtlEn m v) s = .next t ∧ t.is RING_CTL_EN = bitOf v 0 ∧ s.onlyRegs t [RING_CTL])

/-- R357, R358, R359, R369, where nothing is mirrored: a member sends the BEAT on with its bit set, takes N, and, unless time is held, takes the
master's count at the tick; the master keeps the map of its own BEAT that came back, sends it with the next one, and notes
another master's; a lost member raises 0x55, no BEAT at a member 0x54, and a restart under no hold ends a present member's
isolation. -/
def Obligations.RingHeartbeats : Prop :=
  ∀ s : State, s.ringIn = true → s.ks.ringSet = true → s.laneTest 0x11 = false → s.flt.inj = [] → s.ringEn = true → s.is RING_STAT_ENUMD = true →
    s.mirrors = false →
    let present (map : Nat) : Prop := ∀ m < 64, s.is (memberBit RING_PRES m) = map.testBit m
    (∀ f : RingFrame, f.payload.length = 18 → f.bc = true →
      let map := bytesNat (f.payload.take 8)
      (∀ b, s.is RING_STAT_MST = true → s.ring.beat = some b → f.src = b.src → f.arg = b.arg → f.addr = b.addr →
        f.payload.drop 8 = b.payload.drop 8 →
        ∃ t, exec (.ringBeat f) s = .next t ∧ t.ring.ret = map ∧ t.ring.beat = none ∧ s.sameMem t ∧
          ∀ a, a ≠ RING_FCNT → t.rd a = s.rd a) ∧
      (s.is RING_STAT_MST = true → s.ownBeat f = false →
        ∃ t, exec (.ringBeat f) s = .next t ∧ t.is RING_IRQ_MSTCONF = true ∧
          (t.is RING_STAT_MST = false → t.is RING_STAT_DEMOTED = true)) ∧
      (s.is RING_STAT_MST = false → s.ownSrc f.src.toNat = false → s.ring.gtHold = false → s.is RING_STAT_LINKIN = true →
        present (bytesNat ((f.payload.drop 8).take 8)) →
        ∃ t, exec (.ringBeat f) s = .next t ∧ t.get RING_STAT_N = f.arg.toNat % 128 ∧ t.rd RING_GTMCNT = f.addr ∧
          t.ring.sent = .frame 0 { f with payload := natBytes 8 (map ||| 2 ^ s.ringId) ++ f.payload.drop 8 } :: s.ring.sent ∧
          ∀ m < 64, t.is (memberBit RING_PRES m) = s.is (memberBit RING_PRES m))) ∧
    (s.is RING_STAT_MST = true → present s.ring.ret →
      ∃ t, exec .beatSend s = .next t ∧ t.ring.sent = .frame 0 ⟨true, false, 0, s.ringSrc, 0, BitVec.ofNat 16 s.ringN,
        s.rd WK_CNT_LO, natBytes 8 1 ++ natBytes 8 s.ring.ret ++ natBytes 2 (s.sinceTick / 10)⟩ :: s.ring.sent ∧
        t.ring.beat.isSome = true) ∧
    (∀ id : BitVec 6, let m := id.toNat
      s.is RING_STAT_MST = true →
      (m ≠ 0 → m < s.ringN → s.flt.isolated.contains (.member m) = false →
        ∃ t u : State, exec (.ringMemberLost id) s = .next t ∧ u.captures t 0x55 (BitVec.ofNat 32 m) (BitVec.ofNat 16 m) ∧
          u.ledgerSt (0x5C0 + m) = 0 ∧ u.ring.lost.contains m = true) ∧
      (s.codeAt (CE_LEDGER (0x5C0 + m)) = 0 → s.ledgerHeld (0x5C0 + m) = false → s.flt.isolated.contains (.member m) = true → s.pend 0x55 = false →
        s.is (memberBit RING_PRES m) = true → s.reaches RING_MRST = true →
        ∃ t, exec (.ringMrst id) s = .next t ∧ t.is (memberBit RING_ISO m) = false ∧ t.ledgerSt (0x5C0 + m) = 1 ∧
          t.flt.isolated.contains (.member m) = false)) ∧
    (s.is RING_STAT_MST = false → ∃ t u : State, exec .beatTimeout s = .next t ∧ u.captures t 0x54 0 0 ∧
      u.flt.cond.contains 0x54 = true ∧ s.onlyRegs u [])

/-- R350, R360, R363, with one request of one frame outstanding: a RESP frees its entry and ends a SEND with its status, or fills the
station of a word load with the data; BUSY holds the request, which is sent again; no RESP in time and a lost link end a SEND.
RING_SEND sends a message of four bytes, and ends RINGDOWN without a link. -/
def Obligations.RingRequests : Prop :=
  ∀ (s : State) (r : RingReq) (x : RingFrame) (i : BitVec 3), s.ringIn = true → s.ks.ringSet = true → s.laneTest 0x11 = false → s.flt.inj = [] →
    r.frames = [x] → s.ring.reqs = [(i.toNat, some r)] → s.ring.wait = [] →
    let freed (t : State) : Prop := ∀ k, Store.get (fun _ => none) t.ring.reqs k = none
    (∀ f : RingFrame, f.bc = false → s.hasId = true → f.dst.toNat = s.ringId → f.src.toNat ≠ s.ringId → x.dst = f.src →
      r.seq = f.seq.toNat →
      (∀ (tag : BitVec 10) (o : CeOp), r.who = .op tag.toNat → s.ceFind tag.toNat = some o → o.result = none →
        f.payload = [] → f.arg.toNat % 16 ≠ 3 → let st := f.arg.toNat % 16
        ∃ t, exec (.ringResp f) s = .next t ∧ freed t ∧ s.onlyRegs t [RING_FCNT, RING_RERR] ∧
          s.opEnded t tag stOk (BitVec.ofNat 64 ((if st = 0 then 1 else 0) + (if st = 15 then 7 else st) * 256))) ∧
      (∀ y : Station, r.who = .access y.n → s.core.stations = [y] → y.kind = .load → y.tag = r.seq → y.result = none →
        y.mode % 4 = 2 → y.opA.toNat % 4 = 0 → f.payload.length = 4 → f.arg.toNat % 16 = 0 →
        ∃ t, exec (.ringResp f) s = .next t ∧ freed t ∧ s.onlyRegs t [RING_FCNT] ∧ s.sameRegs t ∧
          t.core.stations = [{ y with result := some (BitVec.ofNat 64 (bytesNat f.payload)) }]) ∧
      (f.payload = [] → f.arg.toNat % 16 = 3 → ∃ t, exec (.ringResp f) s = .next t ∧
        Store.get (fun _ => none) t.ring.reqs i.toNat = some { r with busy := true } ∧ s.onlyRegs t [RING_FCNT])) ∧
    (r.busy = true → s.ringEn = true → ∃ t, exec (.busyResend i) s = .next t ∧ t.ring.sent = .frame r.typ x :: s.ring.sent ∧
      Store.get (fun _ => none) t.ring.reqs i.toNat = some { r with busy := false } ∧ s.onlyRegs t []) ∧
    (∀ (tag : BitVec 10) (o : CeOp), r.who = .op tag.toNat → s.ceFind tag.toNat = some o → o.result = none →
      (∃ t, exec (.remoteTimeout i) s = .next t ∧ freed t ∧ s.opEnded t tag stOk (BitVec.ofNat 64 (7 * 256)) ∧
        t.rd RING_RERR = BitVec.ofNat 32 (15 + x.dst.toNat * 256 + 65536) ∧ s.onlyRegs t [RING_RERR]) ∧
      ∃ t, exec .lossOfSync s = .next t ∧ freed t ∧ s.opEnded t tag stRingdown 0 ∧ t.is RING_STAT_LINKIN = false ∧
        s.onlyRegs t [RING_STAT]) ∧
    (∀ (tag : BitVec 10) (o : CeOp), s.runsOp tag 9 o → let m := s.chBound (o.handle % 1024) % 64
      let a := (o.arg 0).toNat
      (s.is RING_STAT_LINKIN = false → ∃ t, exec (.ringSend tag) s = .next t ∧ s.opEnded t tag stRingdown 0 ∧ s.onlyRegs t []) ∧
      (s.is RING_STAT_LINKIN = true → s.ringTarget m = true → (o.arg 1).toNat = 4 → inSram a = true → a % 4 = 0 →
        s.refusal .mover .read a = none → s.plainWord a = true →
        ∃ t g, exec (.ringSend tag) s = .next t ∧ t.ring.sent = .frame 5 g :: s.ring.sent ∧ g.dst.toNat = m ∧
          g.bc = false ∧ g.more = false ∧ g.src = s.ringSrc ∧ g.payload = wordBytes (s.goodWord a) ∧
          g.seq = BitVec.ofNat 16 s.ring.seq ∧ t.ceFind tag.toNat = some { o with atUnit := true } ∧ s.onlyRegs t []))

/-- R361, R364, where nothing is mirrored and no event waits: a request for a good word of SRAM that the map grants master 5 is carried
out and answered; a first fragment waits, and its timeout drops it; a whole message goes to the lowest free slot and the event
queue it names, with the answer; one without a slot or queue is answered so. -/
def Obligations.RingService : Prop :=
  ∀ (f : RingFrame) (s : State), s.ringIn = true → s.ks.ringSet = true → s.laneTest 0x11 = false → s.flt.inj = [] → s.hasId = true → f.bc = false →
    f.dst.toNat = s.ringId → f.src.toNat ≠ s.ringId → s.mirrors = false →
    let a := f.addr.toNat
    let resp (st : Nat) (l : List Byte) : RingItem := .frame 4 ⟨false, false, f.src, s.ringSrc, f.seq, BitVec.ofNat 16 st, 0, l⟩
    (inSram a = true → a % 4 = 0 →
      (f.payload.length = 4 → f.arg.toNat % 16 = 15 → s.refusal .ring .write a = none →
        ∃ t, exec (.ringWreq f) s = .next t ∧ t.ring.sent.head? = some (resp 0 []) ∧
          ∀ b, t.byteAt b = if a ≤ b ∧ b < a + 4 then f.payload.getD (b - a) 0 else s.byteAt b) ∧
      (f.payload = [] → s.refusal .ring .read a = none → s.plainWord a = true →
        ∃ t, exec (.ringRreq f) s = .next t ∧ t.ring.sent.head? = some (resp 0 (wordBytes (s.goodWord a))) ∧
          s.onlyRegs t [RING_FCNT])) ∧
    (0 < f.payload.length → f.payload.length ≤ 56 → let q := f.arg.toNat % 256
      (f.more = true → ∃ t, exec (.ringMsg f) s = .next t ∧
        Store.get (fun _ => none) t.ring.frag f.src.toNat = some f ∧ s.onlyRegs t [RING_FCNT]) ∧
      (f.more = false → Store.get (fun _ => none) s.ring.frag f.src.toNat = none → f.arg.toNat / 256 % 128 ≤ 56 →
        (s.slotFree 0 64 = none → ∃ t, exec (.ringMsg f) s = .next t ∧ t.ring.sent.head? = some (resp 4 []) ∧
          s.onlyRegs t [RING_FCNT]) ∧
        ∀ k, s.slotFree 0 64 = some k →
          (s.get (CE_QCFG_TYPE q) ≠ 3 → ∃ t, exec (.ringMsg f) s = .next t ∧ t.ring.sent.head? = some (resp 5 []) ∧
            s.onlyRegs t [RING_FCNT]) ∧
          (s.get (CE_QCFG_TYPE q) = 3 → s.is (CE_QCFG_EN q) = true → s.ce.events = [] →
            (s.get (CE_QPTR_TAIL q) + 1) % s.qDepth q ≠ s.get (CE_QPTR_HEAD q) →
            let b := (s.rd RING_RXBASE).toNat + 64 * k
            let e := (s.rd (CE_QBASE q)).toNat + 16 * s.get (CE_QPTR_TAIL q)
            (∀ j < 64, inSram (b + j) = true ∧ s.refusal .mover .write (b + j) = none ∧ s.unitClass (b + j) = .good) →
            (∀ j < 16, inSram (e + j) = true ∧ s.refusal .ce .write (e + j) = none ∧ s.unitClass (e + j) = .good) →
            b % 4 = 0 → e % 16 = 0 →
            ∃ t, exec (.ringMsg f) s = .next t ∧ t.ring.sent.head? = some (resp 0 []) ∧
              t.is (memberBit RING_RXMAP k) = true ∧
              t.get (CE_QPTR_TAIL q) = (s.get (CE_QPTR_TAIL q) + 1) % s.qDepth q))) ∧
    ∃ t, exec (.sendFragmentTimeout f.src) s = .next t ∧ Store.get (fun _ => none) t.ring.frag f.src.toNat = none ∧ s.onlyRegs t []

/-- R353, R366, R367: a ring-wide snuff of another member is sent on and, the first time, snuffs the used outputs with RINGRX; the
member's own is sent under a new sequence, again by each SNUFF_REPEAT up to eight times until it returns, and then SNFLOST sets;
SNUFF_FORGET forgets a member's. -/
def Obligations.RingSnuff : Prop :=
  ∀ (id : BitVec 6) (seq : BitVec 2) (s : State), s.ringIn = true → s.ks.ringSet = true → s.laneTest 0x11 = false →
    s.noInj 0x27 0x27 = true →
    let i := id.toNat
    let q := seq.toNat
    (s.ownSrc i = false → Store.get (fun _ => none) s.ring.acted i ≠ some q →
      ∃ t, exec (.ringSnuff id seq) s = .next t ∧ t.ring.sent = .snuff i q :: s.ring.sent ∧
        (∀ n < 24, bitOf t.snuffed n = (bitOf s.snuffed n || (s.is (SNF_OCFG_RINGRX n) && s.is (SNF_OCFG_USED n)))) ∧
        t.is FLT_STAT_SNOTICE = true ∧ t.get RING_SNF_LASTID = i ∧ t.get RING_SNF_LASTSEQ = q ∧ s.sameRegs t) ∧
    (s.ownSrc i = false → Store.get (fun _ => none) s.ring.acted i = some q →
      ∃ t, exec (.ringSnuff id seq) s = .next t ∧ t.ring.sent = .snuff i q :: s.ring.sent ∧ s.onlyRegs t []) ∧
    (s.ownSrc i = true → s.ring.xsends ≠ 0 → q = (s.ring.xseq + 3) % 4 →
      ∃ t, exec (.ringSnuff id seq) s = .next t ∧ t.ring.xsends = 0 ∧ t.get RING_SNF_OWNRET = 1 ∧ s.onlyRegs t [RING_SNF]) ∧
    (s.is RING_STAT_OVER = false → ∃ t, exec .snufftx s = .next t ∧ t.ring.sent = .snuff s.ringId s.ring.xseq :: s.ring.sent ∧
      t.ring.xseq = (s.ring.xseq + 1) % 4 ∧ t.ring.xsends = 1 ∧ t.get RING_SNF_OWNRET = 0 ∧ s.onlyRegs t [RING_SNF]) ∧
    (s.ring.xsends ≠ 0 →
      (s.ring.xsends < 8 → ∃ t, exec .snuffRepeat s = .next t ∧ t.ring.xsends = s.ring.xsends + 1 ∧
        t.ring.sent = .snuff s.ringId ((s.ring.xseq + 3) % 4) :: s.ring.sent ∧ s.onlyRegs t []) ∧
      (8 ≤ s.ring.xsends → ∃ t, exec .snuffRepeat s = .next t ∧ t.ring.xsends = 0 ∧ t.is RING_IRQ_SNFLOST = true ∧
        t.ring.sent = s.ring.sent ∧ s.onlyRegs t [RING_IRQ])) ∧
    ∃ t, exec (.snuffForget id) s = .next t ∧ Store.get (fun _ => none) t.ring.acted i = none ∧ s.onlyRegs t []

/-- R373, R374, R381, R382, in pair mode: a member sends its group, role and applied SEQ; one without a role that meets an ACTIVE
partner is STANDBY, one that meets a STANDBY is ACTIVE, and of two without a role the lower ID is; one that meets none is ACTIVE;
a yield makes the synced STANDBY ACTIVE with RUN as mirrored, and a request makes ACTIVE yield; a lost partner raises 0x56.
R375–R378: a STANDBY applies the words of memory and the ledger entries of its partner's MIRROR frames in sequence, and asks for a new sync
at RESYNC; a flush point at ACTIVE is reached at once where the STANDBY has applied it, and waits otherwise; a sync ends with
the Wick counter. -/
def Obligations.PairRolesAndMirror : Prop :=
  (∀ s : State, s.ringIn = true → s.ks.ringSet = true → s.laneTest 0x11 = false → s.flt.inj = [] → s.pairMode = true → s.hasId = true →
     (s.ringEn = true → s.is RING_STAT_ENUMD = true →
       ∃ t g, exec .pairSend s = .next t ∧ t.ring.sent = .frame 6 g :: s.ring.sent ∧ g.bc = true ∧ g.src = s.ringSrc ∧
         g.arg = BitVec.ofNat 16 (s.get RING_MSEQ_SENT) ∧ g.payload.take 2 =
           [BitVec.ofNat 8 (s.get RING_PCFG_GROUP), BitVec.ofNat 8 (s.get RING_PSTAT_ROLE)] ∧ s.onlyRegs t []) ∧
     (∀ f : RingFrame, f.payload.length = 4 → f.bc = true → s.is RING_STAT_OVER = false → f.src.toNat ≠ s.ringId →
       s.get RING_PSTAT_ROLE = 0 →
       s.ring.partner = none → (f.payload.getD 0 0).toNat = s.get RING_PCFG_GROUP →
       ∃ t, exec (.ringPair f) s = .next t ∧ t.is RING_PSTAT_PEER = true ∧ t.get RING_PSTAT_PARTNER = f.src.toNat ∧
         t.get RING_PSTAT_ROLE = if f.payload.getD 1 0 = 1 then 2
           else if f.payload.getD 1 0 = 2 ∨ s.ringId < f.src.toNat then 1 else 2) ∧
     (s.get RING_PSTAT_ROLE = 0 → s.ring.partner = none →
       ∃ t, exec .pairFormationTimeout s = .next t ∧ t.get RING_PSTAT_ROLE = 1 ∧ t.is RING_PIRQ_ROLE = true ∧
         s.onlyRegs t [RING_PSTAT, RING_PIRQ]) ∧
     (∀ p, s.ring.partner = some p → s.is RING_PSTAT_PEER = true →
       ∃ t u v : State, exec .pairHeartbeatLoss s = .next t ∧ u.captures v 0x56 (BitVec.ofNat 32 p) 0 ∧
         u.is RING_PSTAT_PEER = false ∧ u.is RING_PIRQ_PEERLOST = true ∧ s.onlyRegs u [RING_PSTAT, RING_PIRQ] ∧
         (v.get RING_PSTAT_ROLE ≠ 2 → t = v)) ∧
     (∀ id : BitVec 6, s.ownSrc id.toNat = false → s.ring.partner = some id.toNat → s.get RING_PSTAT_ROLE = 2 →
       s.is RING_PSTAT_SYNCED = true → s.ring.rx = [] →
       ∃ t, exec (.ringYield id) s = .next t ∧ t.ring.sent = .yield id.toNat :: s.ring.sent ∧ t.get RING_PSTAT_ROLE = 1 ∧
         t.is CE_CTL_RUN = s.ring.mrun ∧ t.get RING_PSTAT_REASON = 3 ∧ s.onlyRegs t [RING_PSTAT, RING_PIRQ, CE_CTL]) ∧
     (s.get RING_PSTAT_ROLE = 1 → s.is RING_STAT_OVER = false → s.reaches RING_PCTL = true →
       ∃ t, exec .ringPctlYield s = .next t ∧ t.ring.sent = .yield s.ringId :: s.ring.sent ∧ t.get RING_PSTAT_ROLE = 2 ∧
         t.is CE_CTL_RUN = false ∧ s.onlyRegs t [RING_PSTAT, RING_PIRQ, CE_CTL])) ∧
  ((∀ (f : RingFrame) (w : Word) (s : State), s.ringIn = true → s.flt.inj = [] → s.hasId = true → f.bc = false →
     f.dst.toNat = s.ringId → f.src.toNat ≠ s.ringId → s.get RING_PSTAT_ROLE = 2 → s.ring.partner = some f.src.toNat →
     s.pstate ≠ 4 → s.ring.fresh = false → f.seq.toNat = (s.get RING_MSEQ_SENT + 1) % 65536 → f.payload = wordBytes w →
     let a := f.addr.toNat
     (f.arg.toNat % 8 = 0 → inSram a = true → s.inMirror a = true → a % 4 = 0 →
       ∃ t, exec (.ringMirror f) s = .next t ∧ t.get RING_MSEQ_SENT = f.seq.toNat ∧ t.wordAt a = w ∧ t.codeAt a = 0 ∧
         ∀ b, (b < a ∨ a + 4 ≤ b) → t.byteAt b = s.byteAt b) ∧
     (f.arg.toNat % 8 = 1 → ledgerMirrored a = true →
       ∃ t, exec (.ringMirror f) s = .next t ∧ t.rd (CE_LEDGER a) = w ∧ t.get RING_MSEQ_SENT = f.seq.toNat)) ∧
   (∀ s : State, s.get RING_PSTAT_ROLE = 2 → s.reaches RING_PCTL = true →
     ∃ t, exec .ringPctlResync s = .next t ∧ t.is RING_PSTAT_SYNCED = false ∧ t.ring.resync = true ∧ s.onlyRegs t [RING_PSTAT]) ∧
   (∀ s : State, s.get RING_PSTAT_ROLE = 1 → s.reaches RING_MFLUSH = true → let q := s.get RING_MSEQ_SENT
     ∃ t, exec .ringMflush s = .next t ∧ s.onlyRegs t [RING_PSTAT] ∧
       (s.ring.peerStandby = true → s.get RING_MSEQ_APPLIED = q → t.is RING_PSTAT_FLUSHED = true) ∧
       (s.ring.peerStandby = false ∨ s.get RING_MSEQ_APPLIED + 1 = q → t.is RING_PSTAT_FLUSHED = false ∧ t.ring.flush = some q)) ∧
   (∀ s : State, s.mirrors = true → s.linksOn = true → s.ks.ringSet = true → s.laneTest 0x11 = false → s.ring.syncing = true →
     ∃ t f, exec .mirrorSync s = .next t ∧ t.ring.syncing = false ∧ t.ring.sent.head? = some (.frame 7 f) ∧
       f.arg = 4 ∧ f.payload = wordBytes (s.rd WK_CNT_LO) ++ wordBytes (s.rd WK_CNT_HI) ∧ s.onlyRegs t [RING_MSEQ]))

/-- R388–R393, R399, R401: over SPI in LIT a word in the SRAM window of an enabled mailbox that is not isolated is written once the
CRC matches, a wrong CRC is discarded and raises 0x57, and a read of a good word answers STATUS, the word and the CRC, or, late,
0xFF from a byte on and the complement of the CRC; over I3C a pointer is set, and the first dynamic address taken, with the
provisional ID, BCR and DCR sent at ENTDAA; in DIM and EMBER a transaction is a wake source.
R395, R397, R399: on an enabled channel that is not isolated, a host doorbell within the depth moves TAIL of its SQ or HEAD of its CQ
(where nothing waits for the CQ and nothing is mirrored), and a message of either side sets the other side's event; a restart
under no hold ends a channel's isolation where 0x57 is not pending. -/
def Obligations.HostTransactionsAndMailboxes : Prop :=
  ((∀ (a c : Nat) (cmd : Byte) (w : Word) (s : State), s.hostReach = true → s.lit = true → s.hostI3c = false → s.flt.inj = [] →
     s.mirrors = false → a % 4 = 0 → a < 2 ^ 24 → s.winChan a = some c → s.mbIsolated c = false → s.is (HOST_MBCFG_EN c) = true →
     let b := s.winAddr c a
     let body := cmd :: (natBytes 3 a ++ [0] ++ wordBytes w)
     inSram b = true →
     (0x10 ≤ cmd.toNat → cmd.toNat ≤ 0x12 →
       (s.refusal .host .write b = none →
         ∃ t, exec (.hostWrite (body ++ natBytes 2 (crc16 body))) s = .next t ∧ s.onlyRegs { t with mem := s.mem, syn := s.syn } [] ∧
           ∀ x, t.byteAt x = if b ≤ x ∧ x < b + 4 then (wordBytes w).getD (x - b) 0 else s.byteAt x) ∧
       ∀ l : List Byte, l.length = 2 → bytesNat l ≠ crc16 body →
         ∃ u v : State, exec (.hostWrite (body ++ l)) s = .next v.werr ∧ u.captures v 0x57 0 (BitVec.ofNat 16 c) ∧
           u.get HOST_ERR_CODE = 2 ∧ u.get HOST_ERR_CHAN = c ∧ u.is (HOST_MBIRQ_ERR c) = true ∧
           s.onlyRegs u [HOST_ERR, HOST_MBIRQ c]) ∧
     (0x20 ≤ cmd.toNat → cmd.toNat ≤ 0x22 → s.refusal .host .read b = none → s.plainWord b = true →
       ∃ t, exec (.hostRead (cmd :: (natBytes 3 a ++ [0])) false) s = .next t ∧ t.host.werr = false ∧
         let d := wordBytes (s.goodWord b)
         let r := s.hostStatus :: d
         (s.onlyRegs t [] ∧ t.host.out = r ++ natBytes 2 (crc16 r) ∨
          s.onlyRegs t [HOST_LATECNT] ∧ t.get HOST_LATECNT_COUNT = min (s.get HOST_LATECNT_COUNT + 1) 0xFFFF ∧ ∃ k < 4,
            t.host.out = s.hostStatus :: (d.take k ++ List.replicate (4 - k) 0xFF) ++ natBytes 2 (0xFFFF - crc16 r)))) ∧
   (∀ (f : List Byte) (s : State), s.hostReach = true → s.pstate = 3 ∨ s.pstate = 4 → s.pm.phase = false → ∀ c ∈ [Instr.hostWake, .hostWrite f],
     ∃ t, exec c s = .next t ∧ t.pm.wake = s.pm.wake ||| 0x400 ∧ s.onlyRegs t []) ∧
   (∀ (a n : Nat) (s : State), s.hostReach = true → s.hostI3c = true → a < 2 ^ 24 → n < 64 →
     let body := natBytes 3 a ++ [BitVec.ofNat 8 n]
     ∃ t, exec (.i3cPointerWrite (body ++ natBytes 2 (crc16 body))) s = .next t ∧ t.host.ptr = some (a, n + 1) ∧ s.onlyRegs t []) ∧
   (∀ (addr : BitVec 7) (s : State), s.hostOn = true → s.hostI3c = true → ∀ c ∈ [Instr.entdaa addr, .setdasa 0x2C addr],
     (s.is HOST_CFG_ASSIGNED = false → ∃ t, exec c s = .next t ∧ t.get HOST_CFG_DYNADDR = addr.toNat ∧
       t.is HOST_CFG_ASSIGNED = true ∧ s.onlyRegs t [HOST_CFG] ∧
       (c = .entdaa addr → t.host.out = (natBytes 6 s.provisionalId).reverse ++ [0x06, 0x00])) ∧
     (s.is HOST_CFG_ASSIGNED = true → exec c s = .next s))) ∧
  (∀ (b : BitVec 3) (v : Word) (s : State), let c := b.toNat
     let sq := s.get (HOST_MBCFG_SQ c)
     let cq := s.get (HOST_MBCFG_CQ c)
     (s.mbIsolated c = false → s.is (HOST_MBCFG_EN c) = true →
       s.hostOn = true →
       (s.limp = false → s.queueOn sq 1 = true → s.queueOn cq 2 = true → s.mirrors = false →
         (s.admits .host (HOST_SQDB c) = true → fld v 0 12 < s.qDepth sq →
           ∃ t, exec (.hostSqdb b v) s = .next t ∧ t.get (CE_QPTR_TAIL sq) = fld v 0 12 ∧ t.is (HOST_MBIRQ_SQDB c) = true ∧
             s.onlyRegs t [CE_QPTR sq, HOST_MBIRQ c]) ∧
         (s.admits .host (HOST_CQDB c) = true → fld v 0 12 < s.qDepth cq → s.ce.late = [] → s.ce.ops = [] → s.ce.events = [] →
           ∃ t, exec (.hostCqdb b v) s = .next t ∧ t.get (CE_QPTR_HEAD cq) = fld v 0 12 ∧ s.sameRegs t)) ∧
       (s.admits .host (HOST_H2D c) = true → ∃ t, exec (.hostH2d b v) s = .next t ∧ t.rd (HOST_H2D c) = v ∧ t.is (HOST_MBIRQ_H2D c) = true ∧
         s.onlyRegs t [HOST_H2D c, HOST_MBIRQ c])) ∧
     (s.reaches (HOST_D2H c) = true → ∃ t, exec (.hostD2h b v) s = .next t ∧ t.rd (HOST_D2H c) = v ∧ bitOf (t.rd HOST_ATTN) c = true ∧
       s.onlyRegs t [HOST_D2H c, HOST_ATTN]) ∧
     (s.reaches (HOST_MBIRQ c) = true → s.codeAt (CE_LEDGER (0x400 + sq)) = 0 → s.ledgerHeld (0x400 + sq) = false → s.mbIsolated c = true → s.pend 0x57 = false →
       ∃ t, exec (.hostMbirqRestart b) s = .next t ∧ t.mbIsolated c = false ∧ t.is (HOST_MBIRQ_ISO c) = false ∧
         s.onlyRegs t [HOST_MBIRQ c]))

/-- R404, R405, R407, R413: while the map lets master 4 read, each block read of Table 14.7 answers OK and its data, and the ledger and
log indices go on; PRES answers without a status, a response that is not ready is BUSY, and a code that no command has counts
as an error. -/
def Obligations.ManagementReads : Prop :=
  ∀ s : State, s.mgmtOn = true → s.limp = false → s.flt.inj = [] →
    let answers (c : Instr) (cmd : Nat) (read : List Nat) (l : List Byte) (regs : List Nat) : Prop :=
      (∀ a ∈ read, s.refusal .mgmt .read a = none) → ∃ t, exec c s = .next t ∧ t.mgmt.out = s.mgmtBlockFrame cmd 0 l ∧ s.onlyRegs t regs
    let i := s.get MGMT_LIDX_V
    let j := s.get MGMT_LOGIDX_V
    let e := 0x1800F000 + 16 * j
    answers .mgmtIdent 0x01 [SYS_ID, SYS_VARIANT, RING_UIDL] (wordsBytes [s.rd SYS_ID, s.rd SYS_VARIANT, s.rd RING_UIDL]) [] ∧
    answers .mgmtState 0x02 [FLT_STAT, FLT_LOGHEAD] (BitVec.ofNat 8 (s.pstate + 16 * s.get SNF_STAT_FAULTN +
      32 * s.get FLT_STAT_SNOTICE) :: wordBytes (s.rd FLT_LOGHEAD)) [] ∧
    answers .mgmtPend 0x22 [FLT_PEND 0, FLT_PEND 1, FLT_PEND 2, FLT_PEND 3]
      (wordsBytes [s.rd (FLT_PEND 0), s.rd (FLT_PEND 1), s.rd (FLT_PEND 2), s.rd (FLT_PEND 3)]) [] ∧
    answers .mgmtClamp 0x50 [SYS_CLAMPCNT, SYS_CLAMPLAST]
      ((wordBytes (s.rd SYS_CLAMPCNT)).take 2 ++ wordBytes (s.rd SYS_CLAMPLAST)) [] ∧
    (s.codeAt (CE_LEDGER i) = 0 →
      answers .mgmtLedger 0x11 [CE_LEDGER i] (wordBytes (s.rd (CE_LEDGER i))) [MGMT_LIDX] ∧
      ∀ t, s.refusal .mgmt .read (CE_LEDGER i) = none → exec .mgmtLedger s = .next t → t.get MGMT_LIDX_V = (i + 1) % 2048) ∧
    (s.pstate ≠ 4 → (∀ k < 4, s.unitClass (e + 4 * k) = .good) →
      answers .mgmtLog 0x21 [e, e + 4, e + 8, e + 12] (wordsBytes [s.wordAt e, s.wordAt (e + 4), s.wordAt (e + 8), s.wordAt (e + 12)]) [MGMT_LOGIDX] ∧
      ∀ t, (∀ a ∈ [e, e + 4, e + 8, e + 12], s.refusal .mgmt .read a = none) → exec .mgmtLog s = .next t →
        t.get MGMT_LOGIDX_V = (j + 1) % 256) ∧
    (s.mgmt.busy = false → s.ce.hold = none → ∃ t, exec .mgmtHoldres s = .next t ∧ s.onlyRegs t [] ∧
      t.mgmt.out = s.mgmtBlockFrame 0x31 (s.get MGMT_ERRCNT_HOLDST) (wordBytes (s.rd MGMT_HOLDRES))) ∧
    (∃ t, exec .mgmtPres s = .next t ∧ t.mgmt.out = s.mgmtFrame 0x41 [BitVec.ofNat 8 (s.get MGMT_PRES_RES)] ∧ s.onlyRegs t []) ∧
    (∀ cmd ∈ [0x01, 0x02, 0x11, 0x21, 0x22, 0x31, 0x50], ∃ t, exec (.mgmtResponseTimeout (BitVec.ofNat 8 cmd)) s = .next t ∧
      t.mgmt.out = s.mgmtBlockFrame cmd 4 (List.replicate (mgmtLen cmd) 0) ∧ s.onlyRegs t []) ∧
    ∀ cmd : Byte, mgmtCodes.contains cmd.toNat = false → ∃ t, exec (.mgmtResponseTimeout cmd) s = .next t ∧
      t.get MGMT_ERRCNT_COUNT = min (s.get MGMT_ERRCNT_COUNT + 1) 65535 ∧ s.onlyRegs t [MGMT_ERRCNT]

/-- R403, R404, R408–R413: while the map lets master 4 write, a whole write with its packet error code sets an index, hands a proposal to the
CE or a power request that is not refused to firmware in LIT; one that is not whole or has another code is discarded and
counted. A proposal of the expected SEQ to a good, free entry sets the hold, another SEQ is STALE and raises 0x35. The cluster's
answer ends a power request, another master's does nothing; CLR clears the clamp count. -/
def Obligations.ManagementWrites : Prop :=
  (∀ (s : State) (x : Word), s.mgmtOn = true → s.noInj 0x27 0x27 = true →
    (∀ a ∈ [MGMT_LIDX, MGMT_LOGIDX, MGMT_PROP0, MGMT_PROP1, MGMT_PREQ], s.refusal .mgmt .write a = none) →
    let frame (cmd : Byte) (l : List Byte) : List Byte :=
      l ++ [BitVec.ofNat 8 (pec (BitVec.ofNat 8 (2 * s.mgmtAddr) :: cmd :: l))]
    (∃ t, exec (.mgmtLidx (frame 0x10 (natBytes 2 (x.toNat % 2048)))) s = .next t ∧ t.get MGMT_LIDX_V = x.toNat % 2048 ∧
      s.onlyRegs t [MGMT_LIDX]) ∧
    (∃ t, exec (.mgmtLogidx (frame 0x20 (natBytes 1 (x.toNat % 256)))) s = .next t ∧ t.get MGMT_LOGIDX_V = x.toNat % 256 ∧
      s.onlyRegs t [MGMT_LOGIDX]) ∧
    (∀ (p0 p1 : Word), s.ce.hold = none → s.limp = false → p0.toNat < 2 ^ 24 → fld p0 17 7 ≠ 0 →
      p1.toNat < 4096 →
      ∃ t a b, exec (.mgmtHold (frame 0x30 (5 :: natBytes 5 (p0.toNat + p1.toNat * 2 ^ 24)))) s = .next t ∧
        t.ce.hold = some (a, b) ∧ fld a 0 11 = fld p0 0 11 ∧ fld a 16 8 = fld p0 16 8 ∧ fld b 0 12 = p1.toNat ∧ s.onlyRegs t [MGMT_PROP0, MGMT_PROP1]) ∧
    (∀ q : Nat, q ≤ 5 → s.preqRefused q = false → s.lit = true →
      ∃ t, exec (.mgmtPreq (frame 0x40 (natBytes 1 q))) s = .next t ∧ t.get MGMT_PREQ_STATE = q ∧
        t.is MGMT_PREQ_PENDING = true ∧ t.get MGMT_PRES_RES = 0 ∧ t.is MGMT_IRQ_PREQ = true ∧
        s.onlyRegs t [MGMT_PREQ, MGMT_PRES, MGMT_IRQ]) ∧
    ∀ p ∈ [(Instr.mgmtLidx, (0x10 : Byte), 2), (.mgmtLogidx, 0x20, 1), (.mgmtHold, 0x30, 6), (.mgmtPreq, 0x40, 1)], ∀ f : List Byte,
      f ≠ frame p.2.1 (f.take p.2.2) ∨ f.length ≠ p.2.2 + 1 → ∃ t, exec (p.1 f) s = .next t ∧
        t.get MGMT_ERRCNT_COUNT = min (s.get MGMT_ERRCNT_COUNT + 1) 65535 ∧ s.onlyRegs t [MGMT_ERRCNT]) ∧
  (∀ (tag : BitVec 10) (p0 p1 : Word) (s : State), s.ce.hold = some (p0, p1) → s.ceClock = true →
    s.get RING_PSTAT_ROLE ≠ 2 → s.mirrors = false → let i := fld p0 0 11
    let w := s.rd (CE_LEDGER i)
    (ledgerKind i).isSome = true → s.codeAt (CE_LEDGER i) = 0 →
    (fld w 4 12 = fld p1 0 12 → bitOf p0 16 = true → s.ledgerHeld i = false →
      ∃ t, exec (.ledgerHold tag) s = .next t ∧ t.ledgerHeld i = true ∧ fld (t.rd (CE_LEDGER i)) 17 7 = fld p0 17 7 ∧
        fld (t.rd (CE_LEDGER i)) 4 12 = (fld w 4 12 + 1) % 4096 ∧ t.ledgerSt i = s.ledgerSt i ∧ t.ce.hold = none ∧
        t.get MGMT_ERRCNT_HOLDST = 0 ∧ t.rd MGMT_HOLDRES = t.rd (CE_LEDGER i) ∧
        s.onlyRegs { t with mem := s.mem, syn := s.syn } [CE_LEDGER i, MGMT_HOLDRES, MGMT_ERRCNT, MGMT_IRQ]) ∧
    (fld w 4 12 ≠ fld p1 0 12 →
      ∃ t u : State, exec (.ledgerHold tag) s = .next t ∧ u.captures t 0x35 0 0 ∧ u.get MGMT_ERRCNT_HOLDST = 1 ∧
        u.rd MGMT_HOLDRES = w ∧ u.rd (CE_LEDGER i) = w ∧ s.onlyRegs u [MGMT_HOLDRES, MGMT_ERRCNT, MGMT_IRQ])) ∧
  (∀ (v : Word) (s : State),
    (s.admits .cluster MGMT_PRES = true → fld v 0 2 = 1 ∨ fld v 0 2 = 2 →
      ∃ t, exec (.mgmtPresWrite .cluster v) s = .next t ∧ t.get MGMT_PRES_RES = fld v 0 2 ∧ t.is MGMT_PREQ_PENDING = false ∧
        s.onlyRegs t [MGMT_PRES, MGMT_PREQ]) ∧
    (∀ m : Master, m ≠ .cluster → s.refusal m .write MGMT_PRES = none → s.aimed 0x27 MGMT_PRES = false →
      exec (.mgmtPresWrite m v) s = .next s) ∧
    (bitOf v 31 = true → ∀ m, s.admits m SYS_CLAMPCNT = true → ∃ t, exec (.sysClampcntClr m v) s = .next t ∧ t.get SYS_CLAMPCNT_COUNT = 0 ∧
      t.rd SYS_CLAMPLAST = 0 ∧ s.onlyRegs t [SYS_CLAMPCNT, SYS_CLAMPLAST]))

/-- R416–R418, R420–R422: a request of 1 to 4 is armed or shows its refusal, and one of LIT disarms; an armed and eligible one prepares and
then, with no wake source, enters DIM; a wake source other than a vector brings DIM, where nothing waits for the exit, back to LIT, and PM_STAT and
PM_WAKESRC show it; a wake pin that is enabled is recorded in LIT.
R423, R440, R461: a supply or the temperature out of its threshold raises its fault, and back in it ends the condition; below the
reset threshold the state is DARK; power starts the block cold; the Wick domain moves to VBAT and loses its state without it. -/
def Obligations.PowerStatesAndSupplies : Prop :=
  ((∀ (m : Master) (v : Word) (s : State), s.admits m PM_REQ = true → let x := fld v 0 3
     (1 ≤ x → x ≤ 4 → s.reqRefusal x = 0 → ∃ t, exec (.pmReqWrite m v) s = .next t ∧ t.is PM_REQ_ARMED = true ∧
       t.get PM_REQ_TARGET = x ∧ s.onlyRegs t [PM_REQ]) ∧
     (1 ≤ x → x ≤ 4 → s.reqRefusal x ≠ 0 → ∃ t, exec (.pmReqWrite m v) s = .next t ∧ t.is PM_REQ_ARMED = false ∧
       t.get PM_STAT_RESULT = s.reqRefusal x ∧ t.is PM_IRQ_DONE = true ∧ s.onlyRegs t [PM_REQ, PM_STAT, PM_IRQ]) ∧
     (x = 5 → ∃ t, exec (.pmReqWrite m v) s = .next t ∧ t.is PM_REQ_ARMED = false ∧ s.onlyRegs t [PM_REQ])) ∧
   (∀ s : State, s.is PM_REQ_ARMED = true → s.entryReady = true → s.get PM_REQ_TARGET = 4 →
     (s.pm.phase = false → ∃ t, exec .powerStateEntry s = .next t ∧ t.pm.phase = true ∧ s.onlyRegs t []) ∧
     (s.pm.phase = true → s.pm.wake = 0 → s.wakeNow 7 = false → ∃ t, exec .powerStateEntry s = .next t ∧ t.pm.phase = false ∧ t.pstate = 4 ∧
       t.is PM_REQ_ARMED = false ∧ s.onlyRegs t [PM_REQ, PM_STAT])) ∧
   (∀ (r : WakeRun) (s : State), s.pstate = 4 → s.pm.phase = false → bitOf s.pm.wake r.src.toNat = true → r.src.toNat ≠ 7 →
     s.mon.latched = [] → s.ring.rx = [] → s.pm.held = [] → s.ce.waits = [] → s.is DBG_CTL_HALTREQ = false →
     ∃ t, exec (.wake r) s = .next t ∧ t.pstate = 5 ∧ t.get PM_STAT_LAST = 4 ∧ t.get PM_STAT_RESULT = 1 ∧
       t.rd PM_WAKESRC = s.rd PM_WAKESRC ||| s.pm.wake ∧ t.core.wfi = false ∧ t.pm.wake = 0 ∧
       s.onlyRegs t [PM_STAT, PM_WAKESRC, PM_EXITCYC, PM_IRQ]) ∧
   (∀ (n : BitVec 2) (s : State), s.lit = true → bitOf (s.rd PM_WAKECFG) n.toNat = true →
     ∃ t, exec (.wakePin n) s = .next t ∧ t.rd PM_WAKESRC = s.rd PM_WAKESRC ||| bit n.toNat ∧ s.onlyRegs t [PM_WAKESRC])) ∧
  ((∀ p ∈ [(Instr.vmainWarning, 0x68, 2), (Instr.coreUndervoltage, 0x65, 3), (Instr.coreOvervoltage, 0x66, 3),
       (Instr.dieOverTemperature, 0x67, 2)], ∀ s : State, p.2.2 ≤ s.pstate → s.noInj 0x65 0x68 = true →
     (∃ t, exec (p.1 false) s = .next t ∧ t.flt.cond.contains p.2.1 = false ∧ s.onlyRegs t [PM_SUPPLY]) ∧
     ∃ t u : State, exec (p.1 true) s = .next t ∧ u.captures t (BitVec.ofNat 8 p.2.1) 0 0 ∧
       u.flt.cond.contains p.2.1 = true ∧ s.onlyRegs u [PM_SUPPLY]) ∧
   (∀ s : State,
     (∃ t, exec .vmainReset s = .next t ∧ t.pstate = 0 ∧ t.core.inReset = true ∧ s.onlyRegs t [PM_STAT, PM_SUPPLY]) ∧
     (s.pstate = 0 → ∃ t, exec .powerOn s = .next t ∧ t.rd PM_WAKESRC = 0x4000 ∧ t.pm.due = 2 ∧
       s.onlyRegs t [PM_WAKESRC, PM_SUPPLY]) ∧
     (∀ b : Bool, ∃ t, exec (.wickSwitchover b) s = .next t ∧ t.is WK_STAT_ONVBAT = b ∧ s.onlyRegs t [WK_STAT, PM_SUPPLY]) ∧
     (s.is WK_STAT_ONVBAT = true → ∃ t, exec .wickPowerLoss s = .next t ∧ t.is WK_STAT_ONVBAT = true ∧ s.sameMem t ∧
       ∀ a, a ≠ WK_STAT → t.rd a = if a / 4096 = 0x4000C then regReset a else s.rd a)))

/-- R427–R429, R431: a clock in its window ends its condition and one out of it raises its fault and falls back; a PLL out of lock
does so; a relock or restart runs on AOCLK until the PLL locks, and raises 0x64 when it does not. -/
def Obligations.Clocks : Prop :=
  ∀ (s : State), s.noInj 0x60 0x64 = true →
    (∀ k : BitVec 3, k.toNat < 4 → s.monRuns k.toNat = true → let id := 0x60 + k.toNat
      (∃ t, exec (.clockMonitor k false) s = .next t ∧ t.flt.cond.contains id = false ∧ s.onlyRegs t [CLK_MON, CLK_STAT]) ∧
      ∃ u v : State, u.captures v (BitVec.ofNat 8 id) 0 0 ∧ u.flt.cond.contains id = true ∧
        exec (.clockMonitor k true) s = .next (v.clockFallback k.toNat) ∧ s.onlyRegs u [CLK_MON, CLK_STAT] ∧
        (k.toNat = 0 → (v.clockFallback k.toNat).is CLK_STAT_CCLKPLLA = false)) ∧
    (∀ b : BitVec 1, let p := b.toNat
      (s.monRuns 4 = true → s.relocking p = false →
        ∃ u v : State, u.captures v 0x64 0 0 ∧ exec (.pllLossOfLock b) s = .next (v.clockFallback (4 + p)) ∧
          u.is (if p = 0 then CLK_STAT_PLLALOCK else CLK_STAT_PLLBLOCK) = false ∧ bitOf (u.rd CLK_MON) (4 + p) = true ∧
          s.onlyRegs u [CLK_MON, CLK_STAT]) ∧
      (s.relocking p = true →
        (∀ cyc : BitVec 16, ∃ t, exec (.pllLock b cyc) s = .next t ∧ t.relocking p = false ∧
          t.is (if p = 0 then CLK_STAT_CCLKPLLA else CLK_STAT_ECLKPLLB) = true ∧ t.is CLK_IRQ_RELOCK = true ∧
          t.get CLK_RELOCKCYC_V = cyc.toNat ∧ s.onlyRegs t [CLK_IRQ, CLK_RELOCKCYC, CLK_MON, CLK_STAT, CLK_CTL]) ∧
        ∃ t u : State, exec (.lockfail b) s = .next t ∧ u.captures t 0x64 0 0 ∧ u.is CLK_IRQ_LOCKFAIL = true ∧
          u.relocking p = false ∧ s.onlyRegs u [CLK_IRQ, CLK_MON, CLK_STAT, CLK_CTL])) ∧
    (∀ (m : Master) (v : Word),
      (s.admits m CLK_PLLA = true → s.lit = true → 2 ≤ fld v 0 5 → fld v 0 5 ≤ 16 →
        ∃ t, exec (.relock m v) s = .next t ∧ t.get CLK_PLLA_MULT = fld v 0 5 ∧ t.is CLK_STAT_RELOCK = true ∧
          t.is CLK_STAT_CCLKPLLA = false ∧ t.pm.relA = true ∧ s.onlyRegs t [CLK_PLLA, CLK_STAT]) ∧
      (s.admits m CLK_CLKOUT = true → 8 ≤ fld v 16 9 → fld v 16 9 ≤ 400 → fld v 16 9 % 2 = 0 →
        ∃ t, exec (.clkClkoutWrite m v) s = .next t ∧ fld (t.rd CLK_CLKOUT) 0 2 = fld v 0 2 ∧
          fld (t.rd CLK_CLKOUT) 16 9 = fld v 16 9 ∧ s.onlyRegs t [CLK_CLKOUT])) ∧
    (s.reaches CLK_CTL = true → s.lit = true → s.ring.reqs = [] → s.ring.wait = [] →
      ∃ t, exec .pllbrst s = .next t ∧ t.is CLK_STAT_ECLKPLLB = false ∧ t.is CLK_STAT_PLLBLOCK = false ∧
        t.is RING_STAT_LINKIN = false ∧ t.is CLK_CTL_PLLBRST = true ∧ t.pm.relB = true ∧
        s.onlyRegs t [CLK_STAT, CLK_CTL, RING_STAT, ADC_STAT 0, ADC_STAT 1])

/-- R433–R438: an XTAL32 edge adds one to the Wick counter and to the prescaler, two or none at a trim correction, and none to a held one,
which counts it in WK_HCNT; a carry into bit K is a periodic event in LIT; a read of the low half latches the high one; a
write of WK_CTL is stored; a held counter is written, and TRIM_IN lets its release go; a measurement starts in LIT, and after WIN
rises of TRIM_IN none faster than 1 kHz it gives the XTAL32 edges, or MERR where a period is not within 10 % of REF's (16,670 µs
for 16.67 ms).
R439, where no conversion is in progress: TODATE gives the date, time and weekday of a count from 2000 to 2199, and TOCNT the count of
a date of those years; a month that does not exist sets RANGE and leaves 0. -/
def Obligations.WickCounterAndCalendar : Prop :=
  (∀ s : State,
     (s.wickRuns = true →
       (s.pm.pre < 32767 → s.is WK_WAKE_EN = false → ∃ t, exec .wickTick s = .next t ∧ t.wick = (s.wick + 1) % 2 ^ 48 ∧
         t.pm.pre = s.pm.pre + 1 ∧ s.onlyRegs t [WK_CNT_LO, WK_CNT_HI, WK_STAT]) ∧
       (s.pm.pre < 32767 → s.is WK_WAKE_EN = true → s.lit = true →
         (s.wick + 1) / 2 ^ s.get WK_WAKE_K ≠ s.wick / 2 ^ s.get WK_WAKE_K →
         ∃ t, exec .periodicWake s = .next t ∧ t.wick = (s.wick + 1) % 2 ^ 48 ∧ t.is WK_IRQ_PWAKE = true ∧
           s.onlyRegs t [WK_CNT_LO, WK_CNT_HI, WK_STAT, WK_IRQ]) ∧
       (s.pm.pre = 32767 → s.is WK_WAKE_EN = false → s.is WK_TRIM_EN = true → s.get WK_TRIM_N ≤ s.pm.sec + 1 →
         ∃ t, exec .trimCorrection s = .next t ∧ t.pm.pre = 0 ∧ t.pm.sec = 0 ∧
           t.wick = (s.wick + if s.is WK_TRIM_DIR then 0 else 2) % 2 ^ 48 ∧ s.onlyRegs t [WK_CNT_LO, WK_CNT_HI, WK_STAT])) ∧
     (s.is WK_CTL_HALT = true → s.is WK_STAT_HALTED = true →
       ∃ t, exec .wickTick s = .next t ∧ t.wick = s.wick ∧ t.get WK_HCNT_V = min (s.get WK_HCNT_V + 1) 0xFFFFFFFF ∧
         s.onlyRegs t [WK_HCNT, WK_STAT]) ∧
     (∀ m : Master, s.issues m = true → s.refusal m .read WK_CNT_LO = none → s.aimed 0x27 WK_CNT_LO = false →
       ∃ t, exec (.wkCntLoRead m) s = .next t ∧ t.rdata = s.rd WK_CNT_LO ∧
       Store.get (fun _ => 0) t.pm.hi m.id = s.rd WK_CNT_HI ∧ s.onlyRegs t []) ∧
     (∀ (m : Master) (v : Word), s.admits m WK_CTL = true → ∃ t, exec (.wkCtlWrite m v) s = .next t ∧ t.is WK_CTL_HALT = bitOf v 0 ∧
       t.is WK_CTL_RELSRC = bitOf v 1 ∧ t.is WK_STAT_WPEND = true ∧ s.onlyRegs t [WK_CTL, WK_STAT]) ∧
     (s.is WK_STAT_HALTED = true → s.is WK_CTL_HALT = false → s.is WK_CTL_RELSRC = true →
       ∃ t, exec .trimInRelease s = .next t ∧ t.pm.relGo = true ∧ s.onlyRegs t []) ∧
     (∀ (m : Master) (hi : Bool) (v : Word), let a := if hi then WK_CNT_HI else WK_CNT_LO
       s.admits m a = true →
       (s.is WK_STAT_HALTED = true → s.mirrors = false → ∃ t, exec (.wkCntWrite m hi v) s = .next t ∧
         t.rd a = (if hi then v &&& 0xFFFF else v) ∧ s.onlyRegs t [a, WK_STAT]) ∧
       (s.is WK_STAT_HALTED = false → ∃ t, exec (.wkCntWrite m hi v) s = .next t ∧ t.wick = s.wick ∧
         s.onlyRegs t [SYS_CLAMPCNT, SYS_CLAMPLAST])) ∧
     (s.lit = true → s.snf.only = false → ∃ t, exec .trimMeasurement s = .next t ∧ t.pm.meas = true ∧ t.is WK_STAT_MDONE = false ∧
       t.is WK_STAT_MERR = false ∧ s.onlyRegs t [WK_STAT]) ∧
     (s.pm.meas = true →
       let ref := if s.get WK_TRIMCFG_REF = 1 then 20000 else if s.get WK_TRIMCFG_REF = 2 then 16670 else 1000000
       let near (r : TrimRise) : Prop := 9 * ref ≤ 10 * r.micros.toNat ∧ 10 * r.micros.toNat ≤ 11 * ref
       ∀ l : List TrimRise, l.length = s.get WK_TRIMCFG_WIN → (∀ r ∈ l, 1000 ≤ r.micros.toNat) →
         ((∀ r ∈ l, near r) → ∃ t, exec (.trimMeasurementDone l) s = .next t ∧
           t.rd WK_TRIMMEAS = BitVec.ofNat 32 (l.map (fun r => r.edges.toNat)).sum ∧ t.is WK_STAT_MDONE = true ∧
           t.pm.meas = false ∧ s.onlyRegs t [WK_TRIMMEAS, WK_STAT]) ∧
         ((∃ r ∈ l, ¬ near r) → ∃ t, exec (.trimMeasurementDone l) s = .next t ∧ t.is WK_STAT_MERR = true ∧
           t.pm.meas = false ∧ s.onlyRegs t [WK_STAT]))) ∧
  (∀ s : State, 4 ≤ s.pstate → s.snf.only = false → s.pm.cal = none →
     (let n := (s.rd WK_CALTLO).toNat + s.get WK_CALTHI_V * 2 ^ 32
      let day := n / 32768 / 86400
      day < 73049 → ∃ t y m d, exec .todate s = .next t ∧ y < 200 ∧ 1 ≤ m ∧ m ≤ 12 ∧ 1 ≤ d ∧ d ≤ monthDays y m ∧
       daysBefore y + daysToMonth y (m - 1) + (d - 1) = day ∧ t.get WK_CALDATE_YEAR = y ∧ t.get WK_CALDATE_MONTH = m ∧
       t.get WK_CALDATE_DAY = d ∧ t.get WK_CALDATE_WDAY = (day + 6) % 7 ∧ t.is WK_CALCTL_RANGE = false ∧
       t.get WK_CALTIME_HOUR * 3600 + t.get WK_CALTIME_MIN * 60 + t.get WK_CALTIME_SEC = n / 32768 % 86400 ∧
       t.get WK_CALTIME_MIN < 60 ∧ t.get WK_CALTIME_SEC < 60 ∧ t.get WK_CALSUB_V = n % 32768 ∧
       s.onlyRegs t [WK_CALDATE, WK_CALTIME, WK_CALSUB, WK_CALCTL]) ∧
     (let y := s.get WK_CALDATE_YEAR
      let m := s.get WK_CALDATE_MONTH
      let d := s.get WK_CALDATE_DAY
      (y ≤ 199 → 1 ≤ m → m ≤ 12 → 1 ≤ d → d ≤ monthDays y m →
       let n := ((daysBefore y + daysToMonth y (m - 1) + (d - 1)) * 86400 + s.get WK_CALTIME_HOUR * 3600 +
         s.get WK_CALTIME_MIN * 60 + s.get WK_CALTIME_SEC) * 32768 + s.get WK_CALSUB_V
       ∃ t, exec .tocnt s = .next t ∧ t.rd WK_CALTLO = BitVec.ofNat 32 n ∧ t.rd WK_CALTHI = BitVec.ofNat 32 (n / 2 ^ 32) ∧
         t.is WK_CALCTL_RANGE = false ∧ s.onlyRegs t [WK_CALTLO, WK_CALTHI, WK_CALCTL]) ∧
      (m = 0 ∨ 12 < m → ∃ t, exec .tocnt s = .next t ∧ t.is WK_CALCTL_RANGE = true ∧ t.rd WK_CALTLO = 0 ∧ t.rd WK_CALTHI = 0 ∧
       s.onlyRegs t [WK_CALTLO, WK_CALTHI, WK_CALCTL])))

/-- R461, R462, R464, R466: a cold start of a BLANK device with erased flash keeps the OTP and the Wick counter, clears the SRAM and the
scratchpad and, finding no image, starts one copy in LIMP at the reset vector; a ROM that fails its check leaves the
Snuffer-only hold; a good warm start starts the cluster at the reset vector. -/
def Obligations.Starts : Prop :=
  ∀ (r : StartRun) (s : State),
    (∀ c ∈ [Instr.coldStart r, .resetN r], (c = .coldStart r → s.pm.due = 2) → (c = .resetN r → s.pstate ≠ 0) →
      s.ks.run = none → s.ks.target = none → s.memi.flash = none →
      (r.romOk = false → ∃ t, exec c s = .next t ∧ t.snf.only = true ∧ t.core.inReset = true ∧ t.ks.otp = s.ks.otp ∧
        ∀ a, t.byteAt a = if inFlash a then s.byteAt a else 0) ∧
      (r.romOk = true → r.spOk = true → r.sramOk = true → r.copies = 7 → r.lntC = true → r.lntE = true → r.bist = [] →
        r.pllA = true → r.pllB = true → (∀ a, inFlash a = true → s.byteAt a = 0xFF ∧ s.codeAt a = 0xFF) →
        s.ks.otp.state = 0 →
        ∃ t, exec c s = .next t ∧ t.limp = true ∧ t.pstate = 5 ∧ t.lmode = 0 ∧ t.core.inReset = false ∧
          t.core.pc = 0x00046000 ∧ t.ks.otp = s.ks.otp ∧ t.rd WK_CNT_LO = s.rd WK_CNT_LO ∧
          ∀ a, t.byteAt a = if inFlash a then 0xFF else 0)) ∧
    (s.core.inReset = true → s.lit = true → s.snf.only = false → s.pm.due = 0 → s.limp = false → r.copies = 7 → r.lntC = true →
      r.lntE = true → r.pllA = true → r.pllB = true → s.get LNT_STAT_RETIRED = 0 → s.flt.inj = [] → s.flt.buffer = [] →
      s.plainWord 0x46000 = true → (∀ p ∈ s.mc.words, mf (s.mword p.1) 0 8 = mwChk (s.mword p.1) p.1) →
      s.mc.flipped.contains 0x1FFF = false → s.pm.held = [] → s.is DBG_CTL_HALTREQ = false →
      ∃ t, exec (.warmStart r) s = .next t ∧ t.core.inReset = false ∧ t.core.pc = 0x00046000 ∧ t.core.cycle = 0 ∧
        (∀ n, t.reg n = 0) ∧ t.get KS_BOOT_CAUSE = 5 ∧ t.rd KS_BOOTCYC = r.cycles ∧ t.rd SNF_WWDCNT = 0 ∧ t.rd SNF_QAWCNT = 0 ∧
        t.lmode = s.lmode ∧ ∀ b, t.byteAt b = s.byteAt b)

/-- R453, R471, R474, R475: with its key and nothing else running a permitted OTP command latches its data and runs, and another shows
its result; its end programs the bits for good. The rollback counter advances no further than the image allows.
R478–R480: a package that passes its checks is written to the sector that is not active, and that sector alone; another shows the
check that failed. With VCORE on, the COMMIT line makes it the active record, and a line that does not verify leaves the old
one; with VCORE lost nothing completes.
R482: with its key, in LIT and with nothing else running, VERIFY starts a stream and PROGRAM, after a pass that verified, erases the
patch area alone; PROGRAM without such a pass shows RESULT 2. A word that neither fills a line nor ends the stream is kept. -/
def Obligations.FusesKeysAndPatches : Prop :=
  ((∀ p ∈ [(Instr.programRoot, 1), (Instr.programRoot, 2), (Instr.revokeRoot, 3), (Instr.revokeRoot, 4),
       (Instr.advanceLifecycle, 5)], ∀ (m : Master) (v : Word) (s : State), s.admits m KS_OTPCMD = true → fld v 16 16 = 0x4F54 → fld v 0 4 = p.2 →
     s.is KS_OTPSTAT_BUSY = false → s.is KS_KSTAT_BUSY = false → s.is KS_PSTAT_BUSY = false → s.is FLC_STAT_BUSY = false →
     (s.otpRefusal p.2 = 0 → ∃ t, exec (p.1 m v) s = .next t ∧ t.is KS_OTPSTAT_BUSY = true ∧ t.ks.otp = s.ks.otp ∧
       t.ks.run = some ⟨p.2, [0, 1, 2, 3, 4, 5, 6, 7].map (fun n => s.rd (KS_OTPDATA n))⟩ ∧ s.onlyRegs t [KS_OTPSTAT]) ∧
     (s.otpRefusal p.2 ≠ 0 → ∃ t, exec (p.1 m v) s = .next t ∧ t.get KS_OTPSTAT_RESULT = s.otpRefusal p.2 ∧ t.ks = s.ks ∧
       s.onlyRegs t [KS_OTPSTAT])) ∧
   (∀ (s : State) (r : OtpRun), s.ks.run = some r →
     ∃ t, exec .otpProgramDone s = .next t ∧ t.is KS_OTPSTAT_BUSY = false ∧ t.get KS_OTPSTAT_RESULT = 1 ∧ t.ks.run = none ∧
       s.onlyRegs t [KS_OTPSTAT] ∧
       (r.op = 1 → t.ks.otp.hash0 = wordsBytes r.data ∧ t.ks.otp.hasRoot 0 = true) ∧
       (r.op = 2 → t.ks.otp.hash1 = wordsBytes r.data ∧ t.ks.otp.hasRoot 1 = true) ∧
       (r.op = 3 → t.ks.otp.isRevoked 0 = true) ∧ (r.op = 4 → t.ks.otp.isRevoked 1 = true) ∧
       (r.op = 5 → fld (r.data.getD 0 0) 0 2 = 2 → s.ks.otp.state ≤ 2 → t.ks.otp.state = 2)) ∧
   (∀ (v : Word) (s : State), let c := s.get KS_RBCNT_COUNT
     s.admits .cluster KS_RBADV = true → fld v 16 16 = 0x52B1 → s.is KS_RBCNT_BUSY = false → s.is KS_IMGSEL_APPLIED = true → c < s.get KS_RBCNT_RBVAL →
     c < fld v 0 7 →
     ∃ t, exec (.rollbackAdvance .cluster v) s = .next t ∧ t.is KS_RBCNT_BUSY = true ∧
       t.ks.target = some (min (fld v 0 7) (s.get KS_RBCNT_RBVAL)) ∧ s.onlyRegs t [KS_RBCNT, SYS_CLAMPCNT, SYS_CLAMPLAST]) ∧
   (∀ (s : State) (n : Nat), s.ks.target = some n → n ≤ 64 → s.ks.otp.thermo < 2 ^ n →
     ∃ t, exec .rollbackAdvanceDone s = .next t ∧ t.is KS_RBCNT_BUSY = false ∧ t.get KS_RBCNT_COUNT = n ∧
       t.ks.target = none ∧ t.ks.otp.thermo = 2 ^ n - 1 ∧ s.onlyRegs t [KS_RBCNT])) ∧
  ((∀ (m : Master) (v : Word) (s : State), s.admits m KS_KCMD = true → bitOf v 0 = true →
     let k := s.updateRefusal v s.package
     let j := if s.ks.record.isEmpty then 0 else 1 - s.get KS_KSTAT_ACTIVE
     ∃ t, exec (.keyUpdate m v) s = .next t ∧
       if k = 0 then t.is KS_KSTAT_BUSY = true ∧ t.is FLC_STAT_BUSY = true ∧
         t.ks.update = some (j, newRecord s.ks.record s.package) ∧ s.onlyRegs { t with mem := s.mem, syn := s.syn } [KS_KSTAT, FLC_STAT] ∧
         ∀ b, (b < 0x240000 + 0x2000 * j ∨ 0x242000 + 0x2000 * j ≤ b) → t.byteAt b = s.byteAt b
       else t.get KS_KSTAT_RESULT = k ∧ t.ks = s.ks ∧ s.onlyRegs t [KS_KSTAT]) ∧
   (∀ (ok : Bool) (s : State), s.pstate = 0 → exec (.keyUpdateDone ok) s = .next s) ∧
   (∀ (s : State) (j : Nat) (r : List Byte), s.ks.update = some (j, r) → j ≤ 1 → s.pstate ≠ 0 →
     let c := 0x2401C0 + 0x2000 * j
     (∃ t, exec (.keyUpdateDone true) s = .next t ∧ t.get KS_KSTAT_RESULT = 1 ∧ t.get KS_KSTAT_ACTIVE = j ∧ t.ks.record = r ∧
       t.is KS_KSTAT_BUSY = false ∧ t.is FLC_STAT_BUSY = false ∧ t.ks.update = none ∧
       ∀ b, t.byteAt b = if c ≤ b ∧ b < c + 32 then [0xF0, 0x0F, 0x5A, 0xA5].getD ((b - c) % 4) 0 else s.byteAt b) ∧
     ∃ t, exec (.keyUpdateDone false) s = .next t ∧ t.get KS_KSTAT_RESULT = 8 ∧ t.ks.record = s.ks.record ∧
       t.is KS_KSTAT_BUSY = false ∧ t.is FLC_STAT_BUSY = false ∧ s.onlyRegs t [KS_KSTAT, FLC_STAT])) ∧
  ((∀ (m : Master) (v : Word) (s : State), s.admits m KS_PCMD = true → s.lit = true → fld v 16 16 = 0x5043 → s.is KS_PSTAT_BUSY = false →
     s.is KS_KSTAT_BUSY = false → s.is KS_OTPSTAT_BUSY = false → s.is FLC_STAT_BUSY = false →
     (fld v 0 2 = 1 → ∃ t, exec (.patchVerify m v) s = .next t ∧ t.ks.pass = 1 ∧ t.ks.stream = [] ∧ t.is KS_PSTAT_BUSY = true ∧
       t.is KS_PSTAT_VERIFIED = false ∧ s.onlyRegs t [KS_PSTAT]) ∧
     (fld v 0 2 = 2 → s.is KS_PSTAT_VERIFIED = true → ∃ t, exec (.patchProgram m v) s = .next t ∧ t.ks.pass = 2 ∧
       t.ks.stream = [] ∧ t.is KS_PSTAT_BUSY = true ∧
       ∀ b, t.byteAt b = if 0x40000 ≤ b ∧ b < 0x46000 then 0xFF else s.byteAt b) ∧
     (fld v 0 2 = 2 → s.is KS_PSTAT_VERIFIED = false → ∃ t, exec (.patchProgram m v) s = .next t ∧
       t.get KS_PSTAT_RESULT = 2 ∧ t.ks = s.ks ∧ s.onlyRegs t [KS_PSTAT])) ∧
   (∀ (m : Master) (x : PatchWord) (s : State), s.admits m KS_PDATA = true → s.ks.pass ≠ 0 → s.ks.stream.length < 5 →
     ∃ t, exec (.ksPdata m x) s = .next t ∧ t.ks.stream = x.word :: s.ks.stream ∧ t.ks.pass = s.ks.pass ∧ s.onlyRegs t []))

/-- R483–R485, R490: UNLCHAL captures a new challenge while entropy is ready and the source runs, and RES 9 without; a response
withdraws it and shows its result, which unlocks at 1 and, at 2 to 5, counts a failure and raises 0x78; firmware denies and
ends unlocks, and no other master does.
R486–R490: while the source runs, 1,280 raw bits (free values) that pass the health tests instantiate the DRBG or fill the reseed
buffer, from which a reseed that waits is taken, and bits that fail raise HFAIL and READY falls; a later failed health test
discards what is held; words are served while READY, and 0 is answered and counted otherwise; a nonce takes a block. -/
def Obligations.DebugUnlockAndEntropy : Prop :=
  ((∀ s : State, s.tapOn = true →
     (s.is RNG_STAT_READY = true → s.rngOn = true → s.rng.buf = none ∨ s.rng.reqs < 4095 → ∃ t, exec .unlchal s = .next t ∧ t.is KS_UNLSTAT_CHAL = true ∧
       t.tap.cap = BitVec.ofNat 520 (bytesNat t.ks.chal) ∧ t.ks.chalCnt = s.ks.chalCnt + 1 ∧ t.ks.chalAt = s.aoclk ∧
       t.rng.drbg = drbgNext s.rng.drbg ∧ s.onlyRegs t [KS_UNLSTAT, RNG_STAT]) ∧
     (s.is RNG_STAT_READY = false ∨ s.rngOn = false → ∃ t, exec .unlchal s = .next t ∧ t.get KS_UNLSTAT_RES = 9 ∧ t.tap.cap = 0 ∧
       t.ks = s.ks ∧ s.onlyRegs t [KS_UNLSTAT])) ∧
   (∀ (dr : BitVec 520) (s : State), s.tapOn = true →
     let b := natBytes 65 dr.toNat
     let k := s.unlockResult (b.headD 0).toNat (b.drop 1)
     (k < 2 ∨ 5 < k → ∃ t, exec (.unlresp dr) s = .next t ∧ t.get KS_UNLSTAT_RES = k ∧ t.is KS_UNLSTAT_CHAL = false ∧
       t.ks.chal = [] ∧ (k = 1 → t.is KS_UNLSTAT_ACTIVE = true) ∧ (k ≠ 1 → t.is KS_UNLSTAT_ACTIVE = s.is KS_UNLSTAT_ACTIVE) ∧
       s.onlyRegs t [KS_UNLSTAT]) ∧
     (2 ≤ k → k ≤ 5 → ∃ t u : State, exec (.unlresp dr) s = .next t ∧ u.captures t 0x78 0 0 ∧ u.get KS_UNLSTAT_RES = k ∧
       u.is KS_UNLSTAT_CHAL = false ∧ u.get KS_UNLSTAT_FAILS = min 3 (s.get KS_UNLSTAT_FAILS + 1) ∧
       s.onlyRegs u [KS_UNLSTAT])) ∧
   (∀ s : State,
     (s.admits .cluster KS_UNLCTL = true →
       (∃ t, exec (.denyUnlock .cluster) s = .next t ∧ t.is KS_UNLCTL_DENY = true ∧ s.onlyRegs t [KS_UNLCTL]) ∧
       ∃ t, exec (.endUnlock .cluster) s = .next t ∧ t.unlocked = false ∧ s.onlyRegs t [KS_UNLSTAT]) ∧
     ∀ m : Master, m ≠ .cluster → s.refusal m .write KS_UNLCTL = none → s.aimed 0x27 KS_UNLCTL = false →
       exec (.denyUnlock m) s = .next s ∧ exec (.endUnlock m) s = .next s)) ∧
  (∀ s : State,
     (s.rngOn = true →
       (s.rng.run = true → ∀ apt : Bool, ∃ t, exec (.healthTestFailure apt) s = .next t ∧ t.is RNG_STAT_READY = false ∧
         t.is RNG_STAT_HFAIL = true ∧ t.is (if apt then RNG_STAT_APTFAIL else RNG_STAT_RCTFAIL) = true ∧ t.rng.fifo = [] ∧
         t.rng.drbg = ([], []) ∧ t.rng.run = false ∧ t.is RNG_STAT_AVAIL = false ∧ s.onlyRegs t [RNG_STAT, RNG_IRQ]) ∧
       (s.rng.run = true → s.is RNG_STAT_READY = false → s.rng.wait = false →
         ∃ t, exec .instantiate s = .next t ∧ t.freeCtr = s.freeCtr + 40 ∧ t.rng.fifo = [] ∧
           match healthFails (rawBits s.rawGroups) with
           | none => t.is RNG_STAT_READY = true ∧ t.rng.drbg = drbgInstantiate s.instMaterial ∧ t.rd RNG_RESEEDS = 0 ∧
             s.onlyRegs t [RNG_STAT, RNG_RESEEDS, RNG_IRQ]
           | some apt => t.is RNG_STAT_READY = false ∧ t.is RNG_STAT_HFAIL = true ∧
             t.is (if apt then RNG_STAT_APTFAIL else RNG_STAT_RCTFAIL) = true ∧ s.onlyRegs t [RNG_STAT, RNG_IRQ]) ∧
       (s.rng.run = true → s.is RNG_STAT_READY = true ∨ s.rng.wait = true → ∃ t, exec .reseed s = .next t ∧
         t.freeCtr = s.freeCtr + 40 ∧
         match healthFails (rawBits s.rawGroups) with
         | none => t.rng.fifo = s.rng.fifo ∧
           if s.rng.wait then t.is RNG_STAT_READY = true ∧ t.rng.wait = false ∧
             t.rng.drbg = drbgReseed s.rng.drbg ((conditioned s.rawGroups).take 48) ∧ t.rng.buf = none ∧
             t.get RNG_RESEEDS_V = min (s.get RNG_RESEEDS_V + 1) (2 ^ RNG_RESEEDS_V.len - 1) ∧
             s.onlyRegs t [RNG_STAT, RNG_CTL, RNG_RESEEDS, RNG_IRQ]
           else t.rng.buf = some ((conditioned s.rawGroups).take 48) ∧ t.rng.drbg = s.rng.drbg ∧ s.onlyRegs t []
         | some apt => t.is RNG_STAT_READY = false ∧ t.is RNG_STAT_HFAIL = true ∧
           t.is (if apt then RNG_STAT_APTFAIL else RNG_STAT_RCTFAIL) = true ∧ t.rng.drbg = ([], []) ∧
           s.onlyRegs t [RNG_STAT, RNG_IRQ])) ∧
     (s.rng.wait = true → ∃ t, exec .reseedTimeout s = .next t ∧ t.is RNG_STAT_READY = false ∧ s.onlyRegs t [RNG_STAT]) ∧
     (s.reaches RNG_CTL = true → s.is RNG_STAT_HFAIL = true → ∃ t, exec .rngRestart s = .next t ∧ t.is RNG_STAT_SEEDING = true ∧
       t.is RNG_STAT_HFAIL = false ∧ t.rng.fifo = [] ∧ s.onlyRegs t [RNG_STAT]) ∧
     (∀ m : Master, s.issues m = true → s.refusal m .read RNG_DATA = none → s.aimed 0x27 RNG_DATA = false →
       (∀ w l, s.rng.fifo = w :: l → s.is RNG_STAT_READY = true → ∃ t, exec (.rngData m) s = .next t ∧ t.rdata = w ∧
         t.rng.fifo = l ∧ s.onlyRegs t [RNG_STAT]) ∧
       (s.rng.fifo = [] ∨ s.is RNG_STAT_READY = false → ∃ t, exec (.rngData m) s = .next t ∧ t.rdata = 0 ∧ t.rng = s.rng ∧
         t.get RNG_UNDER_COUNT = min (s.get RNG_UNDER_COUNT + 1) (2 ^ RNG_UNDER_COUNT.len - 1) ∧ s.onlyRegs t [RNG_UNDER])) ∧
     ∀ (tag : BitVec 10) (o : CeOp), s.rngReady = true → s.rng.buf = none ∨ s.rng.reqs < 4095 → s.runsOp tag 10 o →
       ∃ t, exec (.authNonce tag) s = .next t ∧
         s.opEnded t tag stOk (s.rng.block.getD 1 0 ++ s.rng.block.getD 0 0) ∧ t.rng.drbg = drbgNext s.rng.drbg ∧ t.rng.fifo = s.rng.fifo ∧
         s.onlyRegs t [RNG_STAT])

/-- R499, R513–R517: a bank's supply is taken as it comes, and bank 1's loss from DIM up clears its unowned inputs and resets the TAP;
each TAP instruction is selected with its capture, and EXTEST, CLAMP and HIGHZ spare the outputs and raise 0x78 where debug is closed; a
debug access of SRAM that the map allows is started and carried out by master 6. -/
def Obligations.TapAndBanks : Prop :=
  (∀ (hv : Bool) (s : State),
    (∃ t, exec (.vioBankChange 0 true hv) s = .next t ∧ t.pins.vio1 = true ∧ t.pins.hv1 = hv ∧ t.pins.vio2 = s.pins.vio2 ∧
      s.onlyRegs t []) ∧
    (∃ t, exec (.vioBankChange 1 true hv) s = .next t ∧ t.pins.vio2 = true ∧ t.pins.hv2 = hv ∧ t.pins.vio1 = s.pins.vio1 ∧
      s.onlyRegs t []) ∧
    (3 ≤ s.pstate → ∃ t, exec (.vioBankChange 0 false hv) s = .next t ∧ t.pins.vio1 = false ∧ t.tap.ir = tapCode .idcode ∧
      (∀ n < 20, s.is (GP_CFG_OWNED n) = false → t.is (gpBit (GP_IN 0) (GP_IN 1) n) = false) ∧
      s.onlyRegs t [GP_IN 0, GP_IRQ0])) ∧
  (∀ (s : State), s.tapOn = true →
    (∀ x : ScanIn, ∀ p ∈ [(Instr.extest x, TapInstr.extest, x.scan, (s.bsrCapture x.pins).setWidth 520), (.tapClamp, .clamp, s.tap.bsr, 0),
        (.highz, .highz, s.tap.bsr, 0)],
      (s.scanOpen = true → ∃ t, exec p.1 s = .next t ∧ t.tapInstr = p.2.1 ∧ t.tap.bsr = p.2.2.1 ∧ t.tap.cap = p.2.2.2 ∧
        t.tap.spare = false ∧ s.onlyRegs t []) ∧
      (s.scanOpen = false → ∃ t u : State, exec p.1 s = .next t ∧ u.captures t 0x78 0 0 ∧ u.tapInstr = p.2.1 ∧
        u.tap.bsr = p.2.2.1 ∧ u.tap.cap = p.2.2.2 ∧ u.tap.spare = true ∧ s.onlyRegs u [])) ∧
    (∃ t, exec .idcode s = .next t ∧ t.tapInstr = .idcode ∧ t.tap.cap = 0xB640076B ∧ s.onlyRegs t []) ∧
    (∃ t, exec .bypass s = .next t ∧ t.tapInstr = .bypass ∧ t.tap.cap = 0 ∧ s.onlyRegs t []) ∧
    (∀ pins scan : BitVec 447, ∃ t, exec (.samplePreload pins scan) s = .next t ∧ t.tapInstr = .sample ∧
      t.tap.cap = (s.bsrCapture pins).setWidth 520 ∧ t.tap.bsr = scan ∧ s.onlyRegs t []) ∧
    (∀ (wr : Bool) (a v : Word), ∃ t, exec (.dbgacc wr a v) s = .next t ∧ t.tapInstr = .dbgacc ∧
      t.tap.cap = s.tap.dbgCapture.setWidth 520 ∧ s.onlyRegs t [] ∧
      if s.tap.acc.isSome then t.tap.acc = s.tap.acc ∧ t.tap.ready = s.tap.ready
      else t.tap.acc = some ⟨wr, a, v, false⟩ ∧ t.tap.ready = false)) ∧
  (∀ s : State, ∃ t, exec .trstN s = .next t ∧ t.tap.ir = tapCode .idcode ∧ t.tap.spare = false ∧ s.onlyRegs t []) ∧
  (∀ (s : State) (a v : Word), s.snf.only = false → inSram a.toNat = true → a.toNat % 4 = 0 → s.flt.inj = [] → s.mirrors = false →
    (s.tap.acc = some ⟨true, a, v, false⟩ → s.refusal .debug .write a.toNat = none →
      ∃ t, exec .dbgaccComplete s = .next t ∧ t.tap.acc = none ∧ t.tap.ready = true ∧
        ∀ b, t.byteAt b = if a.toNat ≤ b ∧ b < a.toNat + 4 then (wordBytes v).getD (b - a.toNat) 0 else s.byteAt b) ∧
    (s.tap.acc = some ⟨false, a, v, false⟩ → s.refusal .debug .read a.toNat = none → s.plainWord a.toNat = true →
      ∃ t, exec .dbgaccComplete s = .next t ∧ t.tap.acc = none ∧ t.tap.ready = true ∧ t.tap.data = s.goodWord a.toNat ∧
        s.onlyRegs t []))

/-- A step on an empty queue (the model's choice, log entry 3) changes nothing where AOCLK does not run; where it runs, with
no unsnuff armed, no watchdog counting, no scrub timer, no calendar conversion in progress and no hold-off in its last AOCLK, one AOCLK passes: every running
hold-off is one shorter, the time since the last Reset reaction one longer, and between two µs nothing else changes but the
age of each commanded level. -/
def Obligations.TickPasses : Prop :=
  (∀ s : State, s.pending = [] → s.aoclkRuns = false → step s = .next s) ∧
  (∀ s : State, s.pending = [] → s.aoclkRuns = true → s.is SNF_STAT_ARMED = false → s.wdCounts = false →
    (s.lit && s.det) = false → s.pm.cal = none → (s.aoclk + 1) % 16 ≠ 0 →
    (∀ n, n < 24 → bitOf s.snf.holding n = true → 1 < Store.get (fun _ => 0) s.snf.holdLeft n) →
    ∃ t : State, step s = .next t ∧ t.aoclk = s.aoclk + 1 ∧ t.pending = [] ∧ t.core = s.core ∧ s.sameMem t ∧ s.sameRegs t ∧
      t.snf.holding = s.snf.holding ∧ t.snuffed = s.snuffed ∧ t.flt.rstAge = s.flt.rstAge + 1 ∧
      (∀ n, n < 24 → bitOf s.snf.holding n = true →
        Store.get (fun _ => 0) t.snf.holdLeft n = Store.get (fun _ => 0) s.snf.holdLeft n - 1) ∧
      (s.flt.rstAge + 1 ≠ 16000000 → ∀ a, t.rd a = s.rd a) ∧
      (s.flt.rstAge + 1 = 16000000 → t.get FLT_STAT_RSTCNT = 0))

/-- State.reset is the machine before its cold start: the cluster held in reset (spec/17, Table 17.1) at the reset vector with
every general register and accumulator 0, VBASE at 0x1800_0000 with EN 0, every output snuffed and the watchdogs at count 0, as
R464 gives them at release; every register reads its reset value, and memory stands in its canonical form. The queue is empty.
The reset values of registers for which the spec gives none, the defaults of image-carried registers and what an unlisted byte
reads as are the model's choice (log entries 1, 6, 14, 16, 19, 79). -/
def Obligations.ResetValues : Prop :=
  State.reset.core.inReset = true ∧ State.reset.core.pc = 0x00046000 ∧ (∀ r, State.reset.reg r = 0) ∧
  (∀ k, State.reset.acc k = 0) ∧
  (∀ n, State.reset.csrRaw n = csrReset n) ∧ State.reset.csrRaw 0x010 = 0x18000000 ∧
  State.reset.snuffed = 0x00FFFFFF ∧ State.reset.get ⟨SNF_WWDCNT, 0, 16⟩ = 0 ∧ State.reset.get ⟨SNF_QAWCNT, 0, 16⟩ = 0 ∧
  (∀ a, State.reset.rd a = regReset a) ∧ State.reset.memOk = true ∧
  (∀ a, State.reset.byteAt a = memReset a) ∧ State.reset.pending = []

/-- The words of the encoding tables spell the instructions they stand for (Tables 5.1 to 5.5): one of each format, the NOP
and the erased word of R128, and words with a reserved code or a field not zero. -/
def Obligations.TableWords : Prop :=
  sisDecode 0x00000000 = .instr (.add 0 0 0) ∧ sisDecode 0xFFFFFFFF = .illegal 0 ∧
  sisDecode 0b00000000011000100010100000000001 = .instr (.sub 3 2 5) ∧
  sisDecode 0b00000100100001110100000000000101 = .instr (.divu 4 7 8) ∧
  sisDecode 0b00001000001000101111111111111111 = .instr (.addi 1 2 0xFFFF) ∧
  sisDecode 0b01100000011111010000000000001000 = .instr (.stw 3 29 8) ∧
  sisDecode 0b10000000001000100011111111111111 = .instr (.beq 1 2 0x3FFF) ∧
  sisDecode 0b10000000001000100111111111111111 = .illegal 1 ∧
  sisDecode 0b10100100000000000000000000000010 = .instr (.call 2) ∧
  sisDecode 0b10110000000000000000000000000000 = .instr .ret ∧
  sisDecode 0b11111100000000010001000000010000 = .instr (.csrw 1 0x010) ∧
  sisDecode 0b11111100000000000010000010000000 = .illegal 1 ∧
  sisDecode 0b00000000000000000000000000010001 = .illegal 0

/-- Every instruction's word decodes to the instruction, with every operand at every value: the CSRW of CSR 0x001 is the row
MODE_WRITE, which has the same word (R127, R128, R130).
A word that decodes to an instruction is that instruction's word: no bit of it is dropped and no two words spell one
instruction (R127, R128). -/
def Obligations.DecodeAndEncodeAgree : Prop :=
  (∀ (i : Instr) (w : Word), sisEncode i = some w → (∀ ra, i ≠ .csrw ra 1) → sisDecode w = .instr i) ∧
  (∀ (w : Word) (i : Instr), sisDecode w = .instr i → sisEncode i = some w)

/-- Every step keeps the memory's canonical form: keys strictly rising and no listed byte at its unlisted value. -/
def Obligations.EveryStepKeepsMemoryCanonical : Prop :=
  ∀ s t : State, s.memOk = true → step s = .next t → t.memOk = true
end

