-- ==== Sys2Proof/Laws/Bits.lean ====
section
/-! SUPPORT. A field written is read back, and a field apart from it reads as before. -/
namespace Sys2Proof.Machine

theorem fld_testBit (w : Word) (lo len i : Nat) :
    (fld w lo len).testBit i = (decide (i < len) && w.getLsbD (lo + i)) := by
  unfold fld
  rw [Nat.testBit_mod_two_pow, Nat.testBit_div_two_pow, BitVec.testBit_toNat, Nat.add_comm]

theorem getLsbD_fldMask (lo len i : Nat) :
    (fldMask lo len).getLsbD i = (decide (i < 32) && (decide (lo ≤ i) && decide (i - lo < len))) := by
  unfold fldMask
  rw [BitVec.getLsbD_ofNat, Nat.testBit_mul_two_pow, Nat.testBit_two_pow_sub_one]

theorem getLsbD_putFld (w : Word) (lo len v i : Nat) :
    (putFld w lo len v).getLsbD i =
      if i < 32 ∧ lo ≤ i ∧ i < lo + len then v.testBit (i - lo) else w.getLsbD i := by
  unfold putFld
  rw [BitVec.getLsbD_or, BitVec.getLsbD_and, BitVec.getLsbD_not, getLsbD_fldMask, BitVec.getLsbD_ofNat,
    Nat.testBit_mul_two_pow, Nat.testBit_mod_two_pow]
  by_cases h1 : i < 32
  · by_cases h2 : lo ≤ i
    · by_cases h3 : i < lo + len
      · have : i - lo < len := by omega
        simp [h1, h2, h3, this]
      · have : ¬ i - lo < len := by omega
        simp [h1, h2, h3, this]
    · simp [h1, h2]
  · have : w.getLsbD i = false := BitVec.getLsbD_of_ge w i (by omega)
    simp [h1, this]

@[simp] theorem fld_lt (w : Word) (lo len : Nat) : fld w lo len < 2 ^ len :=
  Nat.mod_lt _ (Nat.two_pow_pos len)

theorem fld_putFld (w : Word) (lo len v : Nat) (h : lo + len ≤ 32) : fld (putFld w lo len v) lo len = v % 2 ^ len := by
  apply Nat.eq_of_testBit_eq
  intro i
  rw [fld_testBit, getLsbD_putFld, Nat.testBit_mod_two_pow]
  by_cases hi : i < len
  · have a : lo + i < 32 ∧ lo ≤ lo + i ∧ lo + i < lo + len := by omega
    have b : lo + i - lo = i := by omega
    rw [if_pos a, b]
  · simp [hi]

theorem fld_putFld_ne (w : Word) (lo len v lo' len' : Nat) (h : lo' + len' ≤ lo ∨ lo + len ≤ lo') :
    fld (putFld w lo len v) lo' len' = fld w lo' len' := by
  apply Nat.eq_of_testBit_eq
  intro i
  rw [fld_testBit, fld_testBit, getLsbD_putFld]
  by_cases hi : i < len'
  · have a : ¬ (lo' + i < 32 ∧ lo ≤ lo' + i ∧ lo' + i < lo + len) := by omega
    rw [if_neg a]
  · simp [hi]

@[simp] theorem b2n_true : b2n true = 1 := rfl
@[simp] theorem b2n_false : b2n false = 0 := rfl

theorem bitOf_putFld (w : Word) (lo len v i : Nat) :
    bitOf (putFld w lo len v) i = if i < 32 ∧ lo ≤ i ∧ i < lo + len then v.testBit (i - lo) else bitOf w i :=
  getLsbD_putFld w lo len v i

end Sys2Proof.Machine
end

