-- ==== Sys2Proof/Laws/Store.lean ====
section
/-! SUPPORT. Sparse data: a write is read back, leaves every other key alone and keeps the canonical form. -/
namespace Sys2Proof.Machine
variable {α : Type}

theorem Store.get_erase_same (dflt : Nat → α) (m : Store α) (a : Nat) :
    Store.get dflt (Store.erase m a) a = dflt a := by
  induction m with
  | nil => rfl
  | cons p t ih =>
    obtain ⟨k, v⟩ := p
    simp only [Store.erase]
    split
    · exact ih
    · simp only [Store.get, if_neg ‹_›]; exact ih

theorem Store.get_erase_ne (dflt : Nat → α) (m : Store α) {a b : Nat} (h : b ≠ a) :
    Store.get dflt (Store.erase m a) b = Store.get dflt m b := by
  induction m with
  | nil => rfl
  | cons p t ih =>
    obtain ⟨k, v⟩ := p
    simp only [Store.erase]
    split
    · next hk => simp only [Store.get]; rw [if_neg (by omega)]; exact ih
    · simp only [Store.get]; rw [ih]

theorem Store.get_insert_ne (dflt : Nat → α) (m : Store α) {a b : Nat} (v : α) (h : b ≠ a) :
    Store.get dflt (Store.insert m a v) b = Store.get dflt m b := by
  induction m with
  | nil => simp only [Store.insert, Store.get]; rw [if_neg (by omega)]
  | cons p t ih =>
    obtain ⟨k, w⟩ := p
    simp only [Store.insert]
    split
    · simp only [Store.get]; rw [if_neg (by omega)]
    · simp only [Store.get]; rw [ih]

theorem Store.get_insert_erase (dflt : Nat → α) (m : Store α) (a : Nat) (v : α) :
    Store.get dflt (Store.insert (Store.erase m a) a v) a = v := by
  induction m with
  | nil => simp only [Store.erase, Store.insert, Store.get, if_true]
  | cons p t ih =>
    obtain ⟨k, w⟩ := p
    simp only [Store.erase]
    split
    · exact ih
    · next hk =>
      simp only [Store.insert]
      split
      · simp only [Store.get, if_true]
      · simp only [Store.get]; rw [if_neg hk]; exact ih

/-- A write is read back, and every other key reads as before. -/
@[simp] theorem Store.get_set [DecidableEq α] (dflt : Nat → α) (m : Store α) (a b : Nat) (v : α) :
    Store.get dflt (Store.set dflt m a v) b = if b = a then v else Store.get dflt m b := by
  unfold Store.set
  split
  · next hv =>
    split
    · next hb => subst hb; rw [Store.get_erase_same, hv]
    · next hb => rw [Store.get_erase_ne dflt m hb]
  · split
    · next hb => subst hb; rw [Store.get_insert_erase]
    · next hb => rw [Store.get_insert_ne dflt _ v hb, Store.get_erase_ne dflt m hb]

@[simp] theorem Store.get_nil (dflt : Nat → α) (a : Nat) : Store.get dflt [] a = dflt a := rfl

/-- The canonical form said by its parts. -/
def Store.Sorted (dflt : Nat → α) : Store α → Prop
  | [] => True
  | (k, v) :: t => v ≠ dflt k ∧ (∀ p ∈ t, k < p.1) ∧ Store.Sorted dflt t

theorem Store.wf_iff [DecidableEq α] (dflt : Nat → α) (m : Store α) :
    Store.wf dflt m = true ↔ Store.Sorted dflt m := by
  induction m with
  | nil => simp [Store.wf, Store.Sorted]
  | cons p t ih =>
    obtain ⟨k, v⟩ := p
    cases t with
    | nil => simp [Store.wf, Store.Sorted]
    | cons q u =>
      obtain ⟨k', v'⟩ := q
      have e : Store.wf dflt ((k, v) :: (k', v') :: u)
          = (decide (v ≠ dflt k) && decide (k < k') && Store.wf dflt ((k', v') :: u)) := rfl
      rw [e, Bool.and_eq_true, Bool.and_eq_true, decide_eq_true_iff, decide_eq_true_iff, ih]
      simp only [Store.Sorted, List.mem_cons, forall_eq_or_imp]
      constructor
      · rintro ⟨⟨h1, h2⟩, h3, h4, h5⟩
        exact ⟨h1, ⟨h2, fun p hp => Nat.lt_trans h2 (h4 p hp)⟩, h3, h4, h5⟩
      · rintro ⟨h1, ⟨h2, _⟩, h3, h4, h5⟩
        exact ⟨⟨h1, h2⟩, h3, h4, h5⟩

theorem Store.mem_erase {m : Store α} {a : Nat} {p : Nat × α} (h : p ∈ Store.erase m a) : p ∈ m ∧ p.1 ≠ a := by
  induction m with
  | nil => simp [Store.erase] at h
  | cons q t ih =>
    obtain ⟨k, v⟩ := q
    simp only [Store.erase] at h
    split at h
    · exact ⟨List.mem_cons_of_mem _ (ih h).1, (ih h).2⟩
    · next hk =>
      rcases List.mem_cons.1 h with h | h
      · subst h; exact ⟨List.mem_cons_self .., hk⟩
      · exact ⟨List.mem_cons_of_mem _ (ih h).1, (ih h).2⟩

theorem Store.mem_insert {m : Store α} {a : Nat} {v : α} {p : Nat × α} (h : p ∈ Store.insert m a v) : p = (a, v) ∨ p ∈ m := by
  induction m with
  | nil => simp [Store.insert] at h; exact .inl h
  | cons q t ih =>
    obtain ⟨k, w⟩ := q
    simp only [Store.insert] at h
    split at h
    · rcases List.mem_cons.1 h with h | h
      · exact .inl h
      · exact .inr h
    · rcases List.mem_cons.1 h with h | h
      · exact .inr (h ▸ List.mem_cons_self ..)
      · rcases ih h with h | h
        · exact .inl h
        · exact .inr (List.mem_cons_of_mem _ h)

theorem Store.Sorted.erase {dflt : Nat → α} {m : Store α} (a : Nat) (h : Store.Sorted dflt m) :
    Store.Sorted dflt (Store.erase m a) := by
  induction m with
  | nil => trivial
  | cons q t ih =>
    obtain ⟨k, v⟩ := q
    obtain ⟨h1, h2, h3⟩ := h
    simp only [Store.erase]
    split
    · exact ih h3
    · exact ⟨h1, fun p hp => h2 p (Store.mem_erase hp).1, ih h3⟩

theorem Store.Sorted.insert {dflt : Nat → α} {m : Store α} {a : Nat} {v : α} (hv : v ≠ dflt a)
    (ha : ∀ p ∈ m, p.1 ≠ a) (h : Store.Sorted dflt m) : Store.Sorted dflt (Store.insert m a v) := by
  induction m with
  | nil => exact ⟨hv, by simp, trivial⟩
  | cons q t ih =>
    obtain ⟨k, w⟩ := q
    obtain ⟨h1, h2, h3⟩ := h
    have hk : k ≠ a := ha (k, w) (List.mem_cons_self ..)
    simp only [Store.insert]
    split
    · next hlt =>
      refine ⟨hv, ?_, h1, h2, h3⟩
      intro p hp
      rcases List.mem_cons.1 hp with hp | hp
      · subst hp; exact hlt
      · exact Nat.lt_trans hlt (h2 p hp)
    · refine ⟨h1, ?_, ih (fun p hp => ha p (List.mem_cons_of_mem _ hp)) h3⟩
      intro p hp
      rcases Store.mem_insert hp with hp | hp
      · subst hp; show k < a; omega
      · exact h2 p hp

/-- A write keeps the canonical form. -/
theorem Store.wf_set [DecidableEq α] {dflt : Nat → α} {m : Store α} (a : Nat) (v : α) (h : Store.wf dflt m = true) :
    Store.wf dflt (Store.set dflt m a v) = true := by
  rw [Store.wf_iff] at *
  unfold Store.set
  split
  · exact h.erase a
  · exact (h.erase a).insert ‹_› (fun p hp => (Store.mem_erase hp).2)

/-- Dropping entries keeps the canonical form. -/
theorem Store.wf_filter [DecidableEq α] {dflt : Nat → α} {m : Store α} (f : Nat × α → Bool) (h : Store.wf dflt m = true) :
    Store.wf dflt (m.filter f) = true := by
  rw [Store.wf_iff] at *
  induction m with
  | nil => trivial
  | cons q t ih =>
    obtain ⟨k, v⟩ := q
    obtain ⟨h1, h2, h3⟩ := h
    simp only [List.filter_cons]
    split
    · exact ⟨h1, fun p hp => h2 p ((List.mem_filter.1 hp).1), ih h3⟩
    · exact ih h3

end Sys2Proof.Machine
end

