-- ==== Sys2Proof/Laws/State.lean ====
section
/-! SUPPORT. What each basic update of the state leaves alone, field by field, and what the register, field, accumulator and
memory reads give after a write. -/
namespace Sys2Proof.Machine
variable (s : State)

/-! ### wr -/

@[simp] theorem State.wr_pending (a : Nat) (v : Word) : (s.wr a v).pending = s.pending := rfl
@[simp] theorem State.wr_latch (a : Nat) (v : Word) : (s.wr a v).latch = s.latch := rfl
@[simp] theorem State.wr_mpu (a : Nat) (v : Word) : (s.wr a v).mpu = s.mpu := rfl
@[simp] theorem State.wr_csr (a : Nat) (v : Word) : (s.wr a v).csr = s.csr := rfl
@[simp] theorem State.wr_gpr (a : Nat) (v : Word) : (s.wr a v).gpr = s.gpr := rfl
@[simp] theorem State.wr_ac (a : Nat) (v : Word) : (s.wr a v).ac = s.ac := rfl
@[simp] theorem State.wr_mem (a : Nat) (v : Word) : (s.wr a v).mem = s.mem := rfl
@[simp] theorem State.wr_syn (a : Nat) (v : Word) : (s.wr a v).syn = s.syn := rfl
@[simp] theorem State.wr_aoclk (a : Nat) (v : Word) : (s.wr a v).aoclk = s.aoclk := rfl
@[simp] theorem State.wr_freeCtr (a : Nat) (v : Word) : (s.wr a v).freeCtr = s.freeCtr := rfl
@[simp] theorem State.wr_rdata (a : Nat) (v : Word) : (s.wr a v).rdata = s.rdata := rfl
@[simp] theorem State.wr_snf (a : Nat) (v : Word) : (s.wr a v).snf = s.snf := rfl
@[simp] theorem State.wr_flt (a : Nat) (v : Word) : (s.wr a v).flt = s.flt := rfl
@[simp] theorem State.wr_lock (a : Nat) (v : Word) : (s.wr a v).lock = s.lock := rfl
@[simp] theorem State.wr_core (a : Nat) (v : Word) : (s.wr a v).core = s.core := rfl
@[simp] theorem State.wr_mc (a : Nat) (v : Word) : (s.wr a v).mc = s.mc := rfl
@[simp] theorem State.wr_memi (a : Nat) (v : Word) : (s.wr a v).memi = s.memi := rfl
@[simp] theorem State.wr_ce (a : Nat) (v : Word) : (s.wr a v).ce = s.ce := rfl
@[simp] theorem State.wr_mon (a : Nat) (v : Word) : (s.wr a v).mon = s.mon := rfl
@[simp] theorem State.wr_ports (a : Nat) (v : Word) : (s.wr a v).ports = s.ports := rfl
@[simp] theorem State.wr_ring (a : Nat) (v : Word) : (s.wr a v).ring = s.ring := rfl
@[simp] theorem State.wr_pm (a : Nat) (v : Word) : (s.wr a v).pm = s.pm := rfl
@[simp] theorem State.wr_ks (a : Nat) (v : Word) : (s.wr a v).ks = s.ks := rfl
@[simp] theorem State.wr_rng (a : Nat) (v : Word) : (s.wr a v).rng = s.rng := rfl
@[simp] theorem State.wr_pins (a : Nat) (v : Word) : (s.wr a v).pins = s.pins := rfl
@[simp] theorem State.wr_tap (a : Nat) (v : Word) : (s.wr a v).tap = s.tap := rfl
@[simp] theorem State.wr_host (a : Nat) (v : Word) : (s.wr a v).host = s.host := rfl
@[simp] theorem State.wr_mgmt (a : Nat) (v : Word) : (s.wr a v).mgmt = s.mgmt := rfl

/-! ### put -/

@[simp] theorem State.put_pending (f : Fld) (v : Nat) : (s.put f v).pending = s.pending := rfl
@[simp] theorem State.put_latch (f : Fld) (v : Nat) : (s.put f v).latch = s.latch := rfl
@[simp] theorem State.put_mpu (f : Fld) (v : Nat) : (s.put f v).mpu = s.mpu := rfl
@[simp] theorem State.put_csr (f : Fld) (v : Nat) : (s.put f v).csr = s.csr := rfl
@[simp] theorem State.put_gpr (f : Fld) (v : Nat) : (s.put f v).gpr = s.gpr := rfl
@[simp] theorem State.put_ac (f : Fld) (v : Nat) : (s.put f v).ac = s.ac := rfl
@[simp] theorem State.put_mem (f : Fld) (v : Nat) : (s.put f v).mem = s.mem := rfl
@[simp] theorem State.put_syn (f : Fld) (v : Nat) : (s.put f v).syn = s.syn := rfl
@[simp] theorem State.put_aoclk (f : Fld) (v : Nat) : (s.put f v).aoclk = s.aoclk := rfl
@[simp] theorem State.put_freeCtr (f : Fld) (v : Nat) : (s.put f v).freeCtr = s.freeCtr := rfl
@[simp] theorem State.put_rdata (f : Fld) (v : Nat) : (s.put f v).rdata = s.rdata := rfl
@[simp] theorem State.put_snf (f : Fld) (v : Nat) : (s.put f v).snf = s.snf := rfl
@[simp] theorem State.put_flt (f : Fld) (v : Nat) : (s.put f v).flt = s.flt := rfl
@[simp] theorem State.put_lock (f : Fld) (v : Nat) : (s.put f v).lock = s.lock := rfl
@[simp] theorem State.put_core (f : Fld) (v : Nat) : (s.put f v).core = s.core := rfl
@[simp] theorem State.put_mc (f : Fld) (v : Nat) : (s.put f v).mc = s.mc := rfl
@[simp] theorem State.put_memi (f : Fld) (v : Nat) : (s.put f v).memi = s.memi := rfl
@[simp] theorem State.put_ce (f : Fld) (v : Nat) : (s.put f v).ce = s.ce := rfl
@[simp] theorem State.put_mon (f : Fld) (v : Nat) : (s.put f v).mon = s.mon := rfl
@[simp] theorem State.put_ports (f : Fld) (v : Nat) : (s.put f v).ports = s.ports := rfl
@[simp] theorem State.put_ring (f : Fld) (v : Nat) : (s.put f v).ring = s.ring := rfl
@[simp] theorem State.put_pm (f : Fld) (v : Nat) : (s.put f v).pm = s.pm := rfl
@[simp] theorem State.put_ks (f : Fld) (v : Nat) : (s.put f v).ks = s.ks := rfl
@[simp] theorem State.put_rng (f : Fld) (v : Nat) : (s.put f v).rng = s.rng := rfl
@[simp] theorem State.put_pins (f : Fld) (v : Nat) : (s.put f v).pins = s.pins := rfl
@[simp] theorem State.put_tap (f : Fld) (v : Nat) : (s.put f v).tap = s.tap := rfl
@[simp] theorem State.put_host (f : Fld) (v : Nat) : (s.put f v).host = s.host := rfl
@[simp] theorem State.put_mgmt (f : Fld) (v : Nat) : (s.put f v).mgmt = s.mgmt := rfl

/-! ### flag -/

@[simp] theorem State.flag_pending (f : Fld) (b : Bool) : (s.flag f b).pending = s.pending := rfl
@[simp] theorem State.flag_latch (f : Fld) (b : Bool) : (s.flag f b).latch = s.latch := rfl
@[simp] theorem State.flag_mpu (f : Fld) (b : Bool) : (s.flag f b).mpu = s.mpu := rfl
@[simp] theorem State.flag_csr (f : Fld) (b : Bool) : (s.flag f b).csr = s.csr := rfl
@[simp] theorem State.flag_gpr (f : Fld) (b : Bool) : (s.flag f b).gpr = s.gpr := rfl
@[simp] theorem State.flag_ac (f : Fld) (b : Bool) : (s.flag f b).ac = s.ac := rfl
@[simp] theorem State.flag_mem (f : Fld) (b : Bool) : (s.flag f b).mem = s.mem := rfl
@[simp] theorem State.flag_syn (f : Fld) (b : Bool) : (s.flag f b).syn = s.syn := rfl
@[simp] theorem State.flag_aoclk (f : Fld) (b : Bool) : (s.flag f b).aoclk = s.aoclk := rfl
@[simp] theorem State.flag_freeCtr (f : Fld) (b : Bool) : (s.flag f b).freeCtr = s.freeCtr := rfl
@[simp] theorem State.flag_rdata (f : Fld) (b : Bool) : (s.flag f b).rdata = s.rdata := rfl
@[simp] theorem State.flag_snf (f : Fld) (b : Bool) : (s.flag f b).snf = s.snf := rfl
@[simp] theorem State.flag_flt (f : Fld) (b : Bool) : (s.flag f b).flt = s.flt := rfl
@[simp] theorem State.flag_lock (f : Fld) (b : Bool) : (s.flag f b).lock = s.lock := rfl
@[simp] theorem State.flag_core (f : Fld) (b : Bool) : (s.flag f b).core = s.core := rfl
@[simp] theorem State.flag_mc (f : Fld) (b : Bool) : (s.flag f b).mc = s.mc := rfl
@[simp] theorem State.flag_memi (f : Fld) (b : Bool) : (s.flag f b).memi = s.memi := rfl
@[simp] theorem State.flag_ce (f : Fld) (b : Bool) : (s.flag f b).ce = s.ce := rfl
@[simp] theorem State.flag_mon (f : Fld) (b : Bool) : (s.flag f b).mon = s.mon := rfl
@[simp] theorem State.flag_ports (f : Fld) (b : Bool) : (s.flag f b).ports = s.ports := rfl
@[simp] theorem State.flag_ring (f : Fld) (b : Bool) : (s.flag f b).ring = s.ring := rfl
@[simp] theorem State.flag_pm (f : Fld) (b : Bool) : (s.flag f b).pm = s.pm := rfl
@[simp] theorem State.flag_ks (f : Fld) (b : Bool) : (s.flag f b).ks = s.ks := rfl
@[simp] theorem State.flag_rng (f : Fld) (b : Bool) : (s.flag f b).rng = s.rng := rfl
@[simp] theorem State.flag_pins (f : Fld) (b : Bool) : (s.flag f b).pins = s.pins := rfl
@[simp] theorem State.flag_tap (f : Fld) (b : Bool) : (s.flag f b).tap = s.tap := rfl
@[simp] theorem State.flag_host (f : Fld) (b : Bool) : (s.flag f b).host = s.host := rfl
@[simp] theorem State.flag_mgmt (f : Fld) (b : Bool) : (s.flag f b).mgmt = s.mgmt := rfl

/-! ### bump -/

@[simp] theorem State.bump_pending (f : Fld) (d : Nat) : (s.bump f d).pending = s.pending := rfl
@[simp] theorem State.bump_latch (f : Fld) (d : Nat) : (s.bump f d).latch = s.latch := rfl
@[simp] theorem State.bump_mpu (f : Fld) (d : Nat) : (s.bump f d).mpu = s.mpu := rfl
@[simp] theorem State.bump_csr (f : Fld) (d : Nat) : (s.bump f d).csr = s.csr := rfl
@[simp] theorem State.bump_gpr (f : Fld) (d : Nat) : (s.bump f d).gpr = s.gpr := rfl
@[simp] theorem State.bump_ac (f : Fld) (d : Nat) : (s.bump f d).ac = s.ac := rfl
@[simp] theorem State.bump_mem (f : Fld) (d : Nat) : (s.bump f d).mem = s.mem := rfl
@[simp] theorem State.bump_syn (f : Fld) (d : Nat) : (s.bump f d).syn = s.syn := rfl
@[simp] theorem State.bump_aoclk (f : Fld) (d : Nat) : (s.bump f d).aoclk = s.aoclk := rfl
@[simp] theorem State.bump_freeCtr (f : Fld) (d : Nat) : (s.bump f d).freeCtr = s.freeCtr := rfl
@[simp] theorem State.bump_rdata (f : Fld) (d : Nat) : (s.bump f d).rdata = s.rdata := rfl
@[simp] theorem State.bump_snf (f : Fld) (d : Nat) : (s.bump f d).snf = s.snf := rfl
@[simp] theorem State.bump_flt (f : Fld) (d : Nat) : (s.bump f d).flt = s.flt := rfl
@[simp] theorem State.bump_lock (f : Fld) (d : Nat) : (s.bump f d).lock = s.lock := rfl
@[simp] theorem State.bump_core (f : Fld) (d : Nat) : (s.bump f d).core = s.core := rfl
@[simp] theorem State.bump_mc (f : Fld) (d : Nat) : (s.bump f d).mc = s.mc := rfl
@[simp] theorem State.bump_memi (f : Fld) (d : Nat) : (s.bump f d).memi = s.memi := rfl
@[simp] theorem State.bump_ce (f : Fld) (d : Nat) : (s.bump f d).ce = s.ce := rfl
@[simp] theorem State.bump_mon (f : Fld) (d : Nat) : (s.bump f d).mon = s.mon := rfl
@[simp] theorem State.bump_ports (f : Fld) (d : Nat) : (s.bump f d).ports = s.ports := rfl
@[simp] theorem State.bump_ring (f : Fld) (d : Nat) : (s.bump f d).ring = s.ring := rfl
@[simp] theorem State.bump_pm (f : Fld) (d : Nat) : (s.bump f d).pm = s.pm := rfl
@[simp] theorem State.bump_ks (f : Fld) (d : Nat) : (s.bump f d).ks = s.ks := rfl
@[simp] theorem State.bump_rng (f : Fld) (d : Nat) : (s.bump f d).rng = s.rng := rfl
@[simp] theorem State.bump_pins (f : Fld) (d : Nat) : (s.bump f d).pins = s.pins := rfl
@[simp] theorem State.bump_tap (f : Fld) (d : Nat) : (s.bump f d).tap = s.tap := rfl
@[simp] theorem State.bump_host (f : Fld) (d : Nat) : (s.bump f d).host = s.host := rfl
@[simp] theorem State.bump_mgmt (f : Fld) (d : Nat) : (s.bump f d).mgmt = s.mgmt := rfl

/-! ### csrPut -/

@[simp] theorem State.csrPut_pending (n : Nat) (v : Word) : (s.csrPut n v).pending = s.pending := rfl
@[simp] theorem State.csrPut_regs (n : Nat) (v : Word) : (s.csrPut n v).regs = s.regs := rfl
@[simp] theorem State.csrPut_latch (n : Nat) (v : Word) : (s.csrPut n v).latch = s.latch := rfl
@[simp] theorem State.csrPut_mpu (n : Nat) (v : Word) : (s.csrPut n v).mpu = s.mpu := rfl
@[simp] theorem State.csrPut_gpr (n : Nat) (v : Word) : (s.csrPut n v).gpr = s.gpr := rfl
@[simp] theorem State.csrPut_ac (n : Nat) (v : Word) : (s.csrPut n v).ac = s.ac := rfl
@[simp] theorem State.csrPut_mem (n : Nat) (v : Word) : (s.csrPut n v).mem = s.mem := rfl
@[simp] theorem State.csrPut_syn (n : Nat) (v : Word) : (s.csrPut n v).syn = s.syn := rfl
@[simp] theorem State.csrPut_aoclk (n : Nat) (v : Word) : (s.csrPut n v).aoclk = s.aoclk := rfl
@[simp] theorem State.csrPut_freeCtr (n : Nat) (v : Word) : (s.csrPut n v).freeCtr = s.freeCtr := rfl
@[simp] theorem State.csrPut_rdata (n : Nat) (v : Word) : (s.csrPut n v).rdata = s.rdata := rfl
@[simp] theorem State.csrPut_snf (n : Nat) (v : Word) : (s.csrPut n v).snf = s.snf := rfl
@[simp] theorem State.csrPut_flt (n : Nat) (v : Word) : (s.csrPut n v).flt = s.flt := rfl
@[simp] theorem State.csrPut_lock (n : Nat) (v : Word) : (s.csrPut n v).lock = s.lock := rfl
@[simp] theorem State.csrPut_core (n : Nat) (v : Word) : (s.csrPut n v).core = s.core := rfl
@[simp] theorem State.csrPut_mc (n : Nat) (v : Word) : (s.csrPut n v).mc = s.mc := rfl
@[simp] theorem State.csrPut_memi (n : Nat) (v : Word) : (s.csrPut n v).memi = s.memi := rfl
@[simp] theorem State.csrPut_ce (n : Nat) (v : Word) : (s.csrPut n v).ce = s.ce := rfl
@[simp] theorem State.csrPut_mon (n : Nat) (v : Word) : (s.csrPut n v).mon = s.mon := rfl
@[simp] theorem State.csrPut_ports (n : Nat) (v : Word) : (s.csrPut n v).ports = s.ports := rfl
@[simp] theorem State.csrPut_ring (n : Nat) (v : Word) : (s.csrPut n v).ring = s.ring := rfl
@[simp] theorem State.csrPut_pm (n : Nat) (v : Word) : (s.csrPut n v).pm = s.pm := rfl
@[simp] theorem State.csrPut_ks (n : Nat) (v : Word) : (s.csrPut n v).ks = s.ks := rfl
@[simp] theorem State.csrPut_rng (n : Nat) (v : Word) : (s.csrPut n v).rng = s.rng := rfl
@[simp] theorem State.csrPut_pins (n : Nat) (v : Word) : (s.csrPut n v).pins = s.pins := rfl
@[simp] theorem State.csrPut_tap (n : Nat) (v : Word) : (s.csrPut n v).tap = s.tap := rfl
@[simp] theorem State.csrPut_host (n : Nat) (v : Word) : (s.csrPut n v).host = s.host := rfl
@[simp] theorem State.csrPut_mgmt (n : Nat) (v : Word) : (s.csrPut n v).mgmt = s.mgmt := rfl

/-! ### putStatus -/

@[simp] theorem State.putStatus_pending (lo len v : Nat) : (s.putStatus lo len v).pending = s.pending := rfl
@[simp] theorem State.putStatus_regs (lo len v : Nat) : (s.putStatus lo len v).regs = s.regs := rfl
@[simp] theorem State.putStatus_latch (lo len v : Nat) : (s.putStatus lo len v).latch = s.latch := rfl
@[simp] theorem State.putStatus_mpu (lo len v : Nat) : (s.putStatus lo len v).mpu = s.mpu := rfl
@[simp] theorem State.putStatus_gpr (lo len v : Nat) : (s.putStatus lo len v).gpr = s.gpr := rfl
@[simp] theorem State.putStatus_ac (lo len v : Nat) : (s.putStatus lo len v).ac = s.ac := rfl
@[simp] theorem State.putStatus_mem (lo len v : Nat) : (s.putStatus lo len v).mem = s.mem := rfl
@[simp] theorem State.putStatus_syn (lo len v : Nat) : (s.putStatus lo len v).syn = s.syn := rfl
@[simp] theorem State.putStatus_aoclk (lo len v : Nat) : (s.putStatus lo len v).aoclk = s.aoclk := rfl
@[simp] theorem State.putStatus_freeCtr (lo len v : Nat) : (s.putStatus lo len v).freeCtr = s.freeCtr := rfl
@[simp] theorem State.putStatus_rdata (lo len v : Nat) : (s.putStatus lo len v).rdata = s.rdata := rfl
@[simp] theorem State.putStatus_snf (lo len v : Nat) : (s.putStatus lo len v).snf = s.snf := rfl
@[simp] theorem State.putStatus_flt (lo len v : Nat) : (s.putStatus lo len v).flt = s.flt := rfl
@[simp] theorem State.putStatus_lock (lo len v : Nat) : (s.putStatus lo len v).lock = s.lock := rfl
@[simp] theorem State.putStatus_core (lo len v : Nat) : (s.putStatus lo len v).core = s.core := rfl
@[simp] theorem State.putStatus_mc (lo len v : Nat) : (s.putStatus lo len v).mc = s.mc := rfl
@[simp] theorem State.putStatus_memi (lo len v : Nat) : (s.putStatus lo len v).memi = s.memi := rfl
@[simp] theorem State.putStatus_ce (lo len v : Nat) : (s.putStatus lo len v).ce = s.ce := rfl
@[simp] theorem State.putStatus_mon (lo len v : Nat) : (s.putStatus lo len v).mon = s.mon := rfl
@[simp] theorem State.putStatus_ports (lo len v : Nat) : (s.putStatus lo len v).ports = s.ports := rfl
@[simp] theorem State.putStatus_ring (lo len v : Nat) : (s.putStatus lo len v).ring = s.ring := rfl
@[simp] theorem State.putStatus_pm (lo len v : Nat) : (s.putStatus lo len v).pm = s.pm := rfl
@[simp] theorem State.putStatus_ks (lo len v : Nat) : (s.putStatus lo len v).ks = s.ks := rfl
@[simp] theorem State.putStatus_rng (lo len v : Nat) : (s.putStatus lo len v).rng = s.rng := rfl
@[simp] theorem State.putStatus_pins (lo len v : Nat) : (s.putStatus lo len v).pins = s.pins := rfl
@[simp] theorem State.putStatus_tap (lo len v : Nat) : (s.putStatus lo len v).tap = s.tap := rfl
@[simp] theorem State.putStatus_host (lo len v : Nat) : (s.putStatus lo len v).host = s.host := rfl
@[simp] theorem State.putStatus_mgmt (lo len v : Nat) : (s.putStatus lo len v).mgmt = s.mgmt := rfl

/-! ### setReg -/

@[simp] theorem State.setReg_pending (r : Nat) (v : Word) : (s.setReg r v).pending = s.pending := by unfold State.setReg; split <;> rfl
@[simp] theorem State.setReg_regs (r : Nat) (v : Word) : (s.setReg r v).regs = s.regs := by unfold State.setReg; split <;> rfl
@[simp] theorem State.setReg_latch (r : Nat) (v : Word) : (s.setReg r v).latch = s.latch := by unfold State.setReg; split <;> rfl
@[simp] theorem State.setReg_mpu (r : Nat) (v : Word) : (s.setReg r v).mpu = s.mpu := by unfold State.setReg; split <;> rfl
@[simp] theorem State.setReg_csr (r : Nat) (v : Word) : (s.setReg r v).csr = s.csr := by unfold State.setReg; split <;> rfl
@[simp] theorem State.setReg_ac (r : Nat) (v : Word) : (s.setReg r v).ac = s.ac := by unfold State.setReg; split <;> rfl
@[simp] theorem State.setReg_mem (r : Nat) (v : Word) : (s.setReg r v).mem = s.mem := by unfold State.setReg; split <;> rfl
@[simp] theorem State.setReg_syn (r : Nat) (v : Word) : (s.setReg r v).syn = s.syn := by unfold State.setReg; split <;> rfl
@[simp] theorem State.setReg_aoclk (r : Nat) (v : Word) : (s.setReg r v).aoclk = s.aoclk := by unfold State.setReg; split <;> rfl
@[simp] theorem State.setReg_freeCtr (r : Nat) (v : Word) : (s.setReg r v).freeCtr = s.freeCtr := by unfold State.setReg; split <;> rfl
@[simp] theorem State.setReg_rdata (r : Nat) (v : Word) : (s.setReg r v).rdata = s.rdata := by unfold State.setReg; split <;> rfl
@[simp] theorem State.setReg_snf (r : Nat) (v : Word) : (s.setReg r v).snf = s.snf := by unfold State.setReg; split <;> rfl
@[simp] theorem State.setReg_flt (r : Nat) (v : Word) : (s.setReg r v).flt = s.flt := by unfold State.setReg; split <;> rfl
@[simp] theorem State.setReg_lock (r : Nat) (v : Word) : (s.setReg r v).lock = s.lock := by unfold State.setReg; split <;> rfl
@[simp] theorem State.setReg_core (r : Nat) (v : Word) : (s.setReg r v).core = s.core := by unfold State.setReg; split <;> rfl
@[simp] theorem State.setReg_mc (r : Nat) (v : Word) : (s.setReg r v).mc = s.mc := by unfold State.setReg; split <;> rfl
@[simp] theorem State.setReg_memi (r : Nat) (v : Word) : (s.setReg r v).memi = s.memi := by unfold State.setReg; split <;> rfl
@[simp] theorem State.setReg_ce (r : Nat) (v : Word) : (s.setReg r v).ce = s.ce := by unfold State.setReg; split <;> rfl
@[simp] theorem State.setReg_mon (r : Nat) (v : Word) : (s.setReg r v).mon = s.mon := by unfold State.setReg; split <;> rfl
@[simp] theorem State.setReg_ports (r : Nat) (v : Word) : (s.setReg r v).ports = s.ports := by unfold State.setReg; split <;> rfl
@[simp] theorem State.setReg_ring (r : Nat) (v : Word) : (s.setReg r v).ring = s.ring := by unfold State.setReg; split <;> rfl
@[simp] theorem State.setReg_pm (r : Nat) (v : Word) : (s.setReg r v).pm = s.pm := by unfold State.setReg; split <;> rfl
@[simp] theorem State.setReg_ks (r : Nat) (v : Word) : (s.setReg r v).ks = s.ks := by unfold State.setReg; split <;> rfl
@[simp] theorem State.setReg_rng (r : Nat) (v : Word) : (s.setReg r v).rng = s.rng := by unfold State.setReg; split <;> rfl
@[simp] theorem State.setReg_pins (r : Nat) (v : Word) : (s.setReg r v).pins = s.pins := by unfold State.setReg; split <;> rfl
@[simp] theorem State.setReg_tap (r : Nat) (v : Word) : (s.setReg r v).tap = s.tap := by unfold State.setReg; split <;> rfl
@[simp] theorem State.setReg_host (r : Nat) (v : Word) : (s.setReg r v).host = s.host := by unfold State.setReg; split <;> rfl
@[simp] theorem State.setReg_mgmt (r : Nat) (v : Word) : (s.setReg r v).mgmt = s.mgmt := by unfold State.setReg; split <;> rfl

/-! ### setAcc -/

@[simp] theorem State.setAcc_pending (n : Nat) (v : BitVec 64) : (s.setAcc n v).pending = s.pending := rfl
@[simp] theorem State.setAcc_regs (n : Nat) (v : BitVec 64) : (s.setAcc n v).regs = s.regs := rfl
@[simp] theorem State.setAcc_latch (n : Nat) (v : BitVec 64) : (s.setAcc n v).latch = s.latch := rfl
@[simp] theorem State.setAcc_mpu (n : Nat) (v : BitVec 64) : (s.setAcc n v).mpu = s.mpu := rfl
@[simp] theorem State.setAcc_csr (n : Nat) (v : BitVec 64) : (s.setAcc n v).csr = s.csr := rfl
@[simp] theorem State.setAcc_gpr (n : Nat) (v : BitVec 64) : (s.setAcc n v).gpr = s.gpr := rfl
@[simp] theorem State.setAcc_mem (n : Nat) (v : BitVec 64) : (s.setAcc n v).mem = s.mem := rfl
@[simp] theorem State.setAcc_syn (n : Nat) (v : BitVec 64) : (s.setAcc n v).syn = s.syn := rfl
@[simp] theorem State.setAcc_aoclk (n : Nat) (v : BitVec 64) : (s.setAcc n v).aoclk = s.aoclk := rfl
@[simp] theorem State.setAcc_freeCtr (n : Nat) (v : BitVec 64) : (s.setAcc n v).freeCtr = s.freeCtr := rfl
@[simp] theorem State.setAcc_rdata (n : Nat) (v : BitVec 64) : (s.setAcc n v).rdata = s.rdata := rfl
@[simp] theorem State.setAcc_snf (n : Nat) (v : BitVec 64) : (s.setAcc n v).snf = s.snf := rfl
@[simp] theorem State.setAcc_flt (n : Nat) (v : BitVec 64) : (s.setAcc n v).flt = s.flt := rfl
@[simp] theorem State.setAcc_lock (n : Nat) (v : BitVec 64) : (s.setAcc n v).lock = s.lock := rfl
@[simp] theorem State.setAcc_core (n : Nat) (v : BitVec 64) : (s.setAcc n v).core = s.core := rfl
@[simp] theorem State.setAcc_mc (n : Nat) (v : BitVec 64) : (s.setAcc n v).mc = s.mc := rfl
@[simp] theorem State.setAcc_memi (n : Nat) (v : BitVec 64) : (s.setAcc n v).memi = s.memi := rfl
@[simp] theorem State.setAcc_ce (n : Nat) (v : BitVec 64) : (s.setAcc n v).ce = s.ce := rfl
@[simp] theorem State.setAcc_mon (n : Nat) (v : BitVec 64) : (s.setAcc n v).mon = s.mon := rfl
@[simp] theorem State.setAcc_ports (n : Nat) (v : BitVec 64) : (s.setAcc n v).ports = s.ports := rfl
@[simp] theorem State.setAcc_ring (n : Nat) (v : BitVec 64) : (s.setAcc n v).ring = s.ring := rfl
@[simp] theorem State.setAcc_pm (n : Nat) (v : BitVec 64) : (s.setAcc n v).pm = s.pm := rfl
@[simp] theorem State.setAcc_ks (n : Nat) (v : BitVec 64) : (s.setAcc n v).ks = s.ks := rfl
@[simp] theorem State.setAcc_rng (n : Nat) (v : BitVec 64) : (s.setAcc n v).rng = s.rng := rfl
@[simp] theorem State.setAcc_pins (n : Nat) (v : BitVec 64) : (s.setAcc n v).pins = s.pins := rfl
@[simp] theorem State.setAcc_tap (n : Nat) (v : BitVec 64) : (s.setAcc n v).tap = s.tap := rfl
@[simp] theorem State.setAcc_host (n : Nat) (v : BitVec 64) : (s.setAcc n v).host = s.host := rfl
@[simp] theorem State.setAcc_mgmt (n : Nat) (v : BitVec 64) : (s.setAcc n v).mgmt = s.mgmt := rfl

/-! ### freed -/

@[simp] theorem State.freed_pending : (s.freed).pending = s.pending := rfl
@[simp] theorem State.freed_regs : (s.freed).regs = s.regs := rfl
@[simp] theorem State.freed_latch : (s.freed).latch = s.latch := rfl
@[simp] theorem State.freed_mpu : (s.freed).mpu = s.mpu := rfl
@[simp] theorem State.freed_csr : (s.freed).csr = s.csr := rfl
@[simp] theorem State.freed_gpr : (s.freed).gpr = s.gpr := rfl
@[simp] theorem State.freed_ac : (s.freed).ac = s.ac := rfl
@[simp] theorem State.freed_mem : (s.freed).mem = s.mem := rfl
@[simp] theorem State.freed_syn : (s.freed).syn = s.syn := rfl
@[simp] theorem State.freed_aoclk : (s.freed).aoclk = s.aoclk := rfl
@[simp] theorem State.freed_rdata : (s.freed).rdata = s.rdata := rfl
@[simp] theorem State.freed_snf : (s.freed).snf = s.snf := rfl
@[simp] theorem State.freed_flt : (s.freed).flt = s.flt := rfl
@[simp] theorem State.freed_lock : (s.freed).lock = s.lock := rfl
@[simp] theorem State.freed_core : (s.freed).core = s.core := rfl
@[simp] theorem State.freed_mc : (s.freed).mc = s.mc := rfl
@[simp] theorem State.freed_memi : (s.freed).memi = s.memi := rfl
@[simp] theorem State.freed_ce : (s.freed).ce = s.ce := rfl
@[simp] theorem State.freed_mon : (s.freed).mon = s.mon := rfl
@[simp] theorem State.freed_ports : (s.freed).ports = s.ports := rfl
@[simp] theorem State.freed_ring : (s.freed).ring = s.ring := rfl
@[simp] theorem State.freed_pm : (s.freed).pm = s.pm := rfl
@[simp] theorem State.freed_ks : (s.freed).ks = s.ks := rfl
@[simp] theorem State.freed_rng : (s.freed).rng = s.rng := rfl
@[simp] theorem State.freed_pins : (s.freed).pins = s.pins := rfl
@[simp] theorem State.freed_tap : (s.freed).tap = s.tap := rfl
@[simp] theorem State.freed_host : (s.freed).host = s.host := rfl
@[simp] theorem State.freed_mgmt : (s.freed).mgmt = s.mgmt := rfl

/-! ### answer -/

@[simp] theorem State.answer_pending (v : Word) : (s.answer v).pending = s.pending := rfl
@[simp] theorem State.answer_regs (v : Word) : (s.answer v).regs = s.regs := rfl
@[simp] theorem State.answer_latch (v : Word) : (s.answer v).latch = s.latch := rfl
@[simp] theorem State.answer_mpu (v : Word) : (s.answer v).mpu = s.mpu := rfl
@[simp] theorem State.answer_csr (v : Word) : (s.answer v).csr = s.csr := rfl
@[simp] theorem State.answer_gpr (v : Word) : (s.answer v).gpr = s.gpr := rfl
@[simp] theorem State.answer_ac (v : Word) : (s.answer v).ac = s.ac := rfl
@[simp] theorem State.answer_mem (v : Word) : (s.answer v).mem = s.mem := rfl
@[simp] theorem State.answer_syn (v : Word) : (s.answer v).syn = s.syn := rfl
@[simp] theorem State.answer_aoclk (v : Word) : (s.answer v).aoclk = s.aoclk := rfl
@[simp] theorem State.answer_freeCtr (v : Word) : (s.answer v).freeCtr = s.freeCtr := rfl
@[simp] theorem State.answer_snf (v : Word) : (s.answer v).snf = s.snf := rfl
@[simp] theorem State.answer_flt (v : Word) : (s.answer v).flt = s.flt := rfl
@[simp] theorem State.answer_lock (v : Word) : (s.answer v).lock = s.lock := rfl
@[simp] theorem State.answer_core (v : Word) : (s.answer v).core = s.core := rfl
@[simp] theorem State.answer_mc (v : Word) : (s.answer v).mc = s.mc := rfl
@[simp] theorem State.answer_memi (v : Word) : (s.answer v).memi = s.memi := rfl
@[simp] theorem State.answer_ce (v : Word) : (s.answer v).ce = s.ce := rfl
@[simp] theorem State.answer_mon (v : Word) : (s.answer v).mon = s.mon := rfl
@[simp] theorem State.answer_ports (v : Word) : (s.answer v).ports = s.ports := rfl
@[simp] theorem State.answer_ring (v : Word) : (s.answer v).ring = s.ring := rfl
@[simp] theorem State.answer_pm (v : Word) : (s.answer v).pm = s.pm := rfl
@[simp] theorem State.answer_ks (v : Word) : (s.answer v).ks = s.ks := rfl
@[simp] theorem State.answer_rng (v : Word) : (s.answer v).rng = s.rng := rfl
@[simp] theorem State.answer_pins (v : Word) : (s.answer v).pins = s.pins := rfl
@[simp] theorem State.answer_tap (v : Word) : (s.answer v).tap = s.tap := rfl
@[simp] theorem State.answer_host (v : Word) : (s.answer v).host = s.host := rfl
@[simp] theorem State.answer_mgmt (v : Word) : (s.answer v).mgmt = s.mgmt := rfl

/-! ### putCode -/

@[simp] theorem State.putCode_pending (u x : Nat) : (s.putCode u x).pending = s.pending := rfl
@[simp] theorem State.putCode_regs (u x : Nat) : (s.putCode u x).regs = s.regs := rfl
@[simp] theorem State.putCode_latch (u x : Nat) : (s.putCode u x).latch = s.latch := rfl
@[simp] theorem State.putCode_mpu (u x : Nat) : (s.putCode u x).mpu = s.mpu := rfl
@[simp] theorem State.putCode_csr (u x : Nat) : (s.putCode u x).csr = s.csr := rfl
@[simp] theorem State.putCode_gpr (u x : Nat) : (s.putCode u x).gpr = s.gpr := rfl
@[simp] theorem State.putCode_ac (u x : Nat) : (s.putCode u x).ac = s.ac := rfl
@[simp] theorem State.putCode_mem (u x : Nat) : (s.putCode u x).mem = s.mem := rfl
@[simp] theorem State.putCode_aoclk (u x : Nat) : (s.putCode u x).aoclk = s.aoclk := rfl
@[simp] theorem State.putCode_freeCtr (u x : Nat) : (s.putCode u x).freeCtr = s.freeCtr := rfl
@[simp] theorem State.putCode_rdata (u x : Nat) : (s.putCode u x).rdata = s.rdata := rfl
@[simp] theorem State.putCode_snf (u x : Nat) : (s.putCode u x).snf = s.snf := rfl
@[simp] theorem State.putCode_flt (u x : Nat) : (s.putCode u x).flt = s.flt := rfl
@[simp] theorem State.putCode_lock (u x : Nat) : (s.putCode u x).lock = s.lock := rfl
@[simp] theorem State.putCode_core (u x : Nat) : (s.putCode u x).core = s.core := rfl
@[simp] theorem State.putCode_mc (u x : Nat) : (s.putCode u x).mc = s.mc := rfl
@[simp] theorem State.putCode_memi (u x : Nat) : (s.putCode u x).memi = s.memi := rfl
@[simp] theorem State.putCode_ce (u x : Nat) : (s.putCode u x).ce = s.ce := rfl
@[simp] theorem State.putCode_mon (u x : Nat) : (s.putCode u x).mon = s.mon := rfl
@[simp] theorem State.putCode_ports (u x : Nat) : (s.putCode u x).ports = s.ports := rfl
@[simp] theorem State.putCode_ring (u x : Nat) : (s.putCode u x).ring = s.ring := rfl
@[simp] theorem State.putCode_pm (u x : Nat) : (s.putCode u x).pm = s.pm := rfl
@[simp] theorem State.putCode_ks (u x : Nat) : (s.putCode u x).ks = s.ks := rfl
@[simp] theorem State.putCode_rng (u x : Nat) : (s.putCode u x).rng = s.rng := rfl
@[simp] theorem State.putCode_pins (u x : Nat) : (s.putCode u x).pins = s.pins := rfl
@[simp] theorem State.putCode_tap (u x : Nat) : (s.putCode u x).tap = s.tap := rfl
@[simp] theorem State.putCode_host (u x : Nat) : (s.putCode u x).host = s.host := rfl
@[simp] theorem State.putCode_mgmt (u x : Nat) : (s.putCode u x).mgmt = s.mgmt := rfl

/-! ### putByte -/

@[simp] theorem State.putByte_pending (a : Nat) (b : Byte) : (s.putByte a b).pending = s.pending := rfl
@[simp] theorem State.putByte_regs (a : Nat) (b : Byte) : (s.putByte a b).regs = s.regs := rfl
@[simp] theorem State.putByte_latch (a : Nat) (b : Byte) : (s.putByte a b).latch = s.latch := rfl
@[simp] theorem State.putByte_mpu (a : Nat) (b : Byte) : (s.putByte a b).mpu = s.mpu := rfl
@[simp] theorem State.putByte_csr (a : Nat) (b : Byte) : (s.putByte a b).csr = s.csr := rfl
@[simp] theorem State.putByte_gpr (a : Nat) (b : Byte) : (s.putByte a b).gpr = s.gpr := rfl
@[simp] theorem State.putByte_ac (a : Nat) (b : Byte) : (s.putByte a b).ac = s.ac := rfl
@[simp] theorem State.putByte_syn (a : Nat) (b : Byte) : (s.putByte a b).syn = s.syn := rfl
@[simp] theorem State.putByte_aoclk (a : Nat) (b : Byte) : (s.putByte a b).aoclk = s.aoclk := rfl
@[simp] theorem State.putByte_freeCtr (a : Nat) (b : Byte) : (s.putByte a b).freeCtr = s.freeCtr := rfl
@[simp] theorem State.putByte_rdata (a : Nat) (b : Byte) : (s.putByte a b).rdata = s.rdata := rfl
@[simp] theorem State.putByte_snf (a : Nat) (b : Byte) : (s.putByte a b).snf = s.snf := rfl
@[simp] theorem State.putByte_flt (a : Nat) (b : Byte) : (s.putByte a b).flt = s.flt := rfl
@[simp] theorem State.putByte_lock (a : Nat) (b : Byte) : (s.putByte a b).lock = s.lock := rfl
@[simp] theorem State.putByte_core (a : Nat) (b : Byte) : (s.putByte a b).core = s.core := rfl
@[simp] theorem State.putByte_mc (a : Nat) (b : Byte) : (s.putByte a b).mc = s.mc := rfl
@[simp] theorem State.putByte_memi (a : Nat) (b : Byte) : (s.putByte a b).memi = s.memi := rfl
@[simp] theorem State.putByte_ce (a : Nat) (b : Byte) : (s.putByte a b).ce = s.ce := rfl
@[simp] theorem State.putByte_mon (a : Nat) (b : Byte) : (s.putByte a b).mon = s.mon := rfl
@[simp] theorem State.putByte_ports (a : Nat) (b : Byte) : (s.putByte a b).ports = s.ports := rfl
@[simp] theorem State.putByte_ring (a : Nat) (b : Byte) : (s.putByte a b).ring = s.ring := rfl
@[simp] theorem State.putByte_pm (a : Nat) (b : Byte) : (s.putByte a b).pm = s.pm := rfl
@[simp] theorem State.putByte_ks (a : Nat) (b : Byte) : (s.putByte a b).ks = s.ks := rfl
@[simp] theorem State.putByte_rng (a : Nat) (b : Byte) : (s.putByte a b).rng = s.rng := rfl
@[simp] theorem State.putByte_pins (a : Nat) (b : Byte) : (s.putByte a b).pins = s.pins := rfl
@[simp] theorem State.putByte_tap (a : Nat) (b : Byte) : (s.putByte a b).tap = s.tap := rfl
@[simp] theorem State.putByte_host (a : Nat) (b : Byte) : (s.putByte a b).host = s.host := rfl
@[simp] theorem State.putByte_mgmt (a : Nat) (b : Byte) : (s.putByte a b).mgmt = s.mgmt := rfl

/-! ### onCore -/

@[simp] theorem State.onCore_pending (g : Core → Core) : (s.onCore g).pending = s.pending := rfl
@[simp] theorem State.onCore_regs (g : Core → Core) : (s.onCore g).regs = s.regs := rfl
@[simp] theorem State.onCore_latch (g : Core → Core) : (s.onCore g).latch = s.latch := rfl
@[simp] theorem State.onCore_mpu (g : Core → Core) : (s.onCore g).mpu = s.mpu := rfl
@[simp] theorem State.onCore_csr (g : Core → Core) : (s.onCore g).csr = s.csr := rfl
@[simp] theorem State.onCore_gpr (g : Core → Core) : (s.onCore g).gpr = s.gpr := rfl
@[simp] theorem State.onCore_ac (g : Core → Core) : (s.onCore g).ac = s.ac := rfl
@[simp] theorem State.onCore_mem (g : Core → Core) : (s.onCore g).mem = s.mem := rfl
@[simp] theorem State.onCore_syn (g : Core → Core) : (s.onCore g).syn = s.syn := rfl
@[simp] theorem State.onCore_aoclk (g : Core → Core) : (s.onCore g).aoclk = s.aoclk := rfl
@[simp] theorem State.onCore_freeCtr (g : Core → Core) : (s.onCore g).freeCtr = s.freeCtr := rfl
@[simp] theorem State.onCore_rdata (g : Core → Core) : (s.onCore g).rdata = s.rdata := rfl
@[simp] theorem State.onCore_snf (g : Core → Core) : (s.onCore g).snf = s.snf := rfl
@[simp] theorem State.onCore_flt (g : Core → Core) : (s.onCore g).flt = s.flt := rfl
@[simp] theorem State.onCore_lock (g : Core → Core) : (s.onCore g).lock = s.lock := rfl
@[simp] theorem State.onCore_mc (g : Core → Core) : (s.onCore g).mc = s.mc := rfl
@[simp] theorem State.onCore_memi (g : Core → Core) : (s.onCore g).memi = s.memi := rfl
@[simp] theorem State.onCore_ce (g : Core → Core) : (s.onCore g).ce = s.ce := rfl
@[simp] theorem State.onCore_mon (g : Core → Core) : (s.onCore g).mon = s.mon := rfl
@[simp] theorem State.onCore_ports (g : Core → Core) : (s.onCore g).ports = s.ports := rfl
@[simp] theorem State.onCore_ring (g : Core → Core) : (s.onCore g).ring = s.ring := rfl
@[simp] theorem State.onCore_pm (g : Core → Core) : (s.onCore g).pm = s.pm := rfl
@[simp] theorem State.onCore_ks (g : Core → Core) : (s.onCore g).ks = s.ks := rfl
@[simp] theorem State.onCore_rng (g : Core → Core) : (s.onCore g).rng = s.rng := rfl
@[simp] theorem State.onCore_pins (g : Core → Core) : (s.onCore g).pins = s.pins := rfl
@[simp] theorem State.onCore_tap (g : Core → Core) : (s.onCore g).tap = s.tap := rfl
@[simp] theorem State.onCore_host (g : Core → Core) : (s.onCore g).host = s.host := rfl
@[simp] theorem State.onCore_mgmt (g : Core → Core) : (s.onCore g).mgmt = s.mgmt := rfl
@[simp] theorem State.onCore_core (g : Core → Core) : (s.onCore g).core = g s.core := rfl

/-! ### onCe -/

@[simp] theorem State.onCe_pending (g : Ce → Ce) : (s.onCe g).pending = s.pending := rfl
@[simp] theorem State.onCe_regs (g : Ce → Ce) : (s.onCe g).regs = s.regs := rfl
@[simp] theorem State.onCe_latch (g : Ce → Ce) : (s.onCe g).latch = s.latch := rfl
@[simp] theorem State.onCe_mpu (g : Ce → Ce) : (s.onCe g).mpu = s.mpu := rfl
@[simp] theorem State.onCe_csr (g : Ce → Ce) : (s.onCe g).csr = s.csr := rfl
@[simp] theorem State.onCe_gpr (g : Ce → Ce) : (s.onCe g).gpr = s.gpr := rfl
@[simp] theorem State.onCe_ac (g : Ce → Ce) : (s.onCe g).ac = s.ac := rfl
@[simp] theorem State.onCe_mem (g : Ce → Ce) : (s.onCe g).mem = s.mem := rfl
@[simp] theorem State.onCe_syn (g : Ce → Ce) : (s.onCe g).syn = s.syn := rfl
@[simp] theorem State.onCe_aoclk (g : Ce → Ce) : (s.onCe g).aoclk = s.aoclk := rfl
@[simp] theorem State.onCe_freeCtr (g : Ce → Ce) : (s.onCe g).freeCtr = s.freeCtr := rfl
@[simp] theorem State.onCe_rdata (g : Ce → Ce) : (s.onCe g).rdata = s.rdata := rfl
@[simp] theorem State.onCe_snf (g : Ce → Ce) : (s.onCe g).snf = s.snf := rfl
@[simp] theorem State.onCe_flt (g : Ce → Ce) : (s.onCe g).flt = s.flt := rfl
@[simp] theorem State.onCe_lock (g : Ce → Ce) : (s.onCe g).lock = s.lock := rfl
@[simp] theorem State.onCe_core (g : Ce → Ce) : (s.onCe g).core = s.core := rfl
@[simp] theorem State.onCe_mc (g : Ce → Ce) : (s.onCe g).mc = s.mc := rfl
@[simp] theorem State.onCe_memi (g : Ce → Ce) : (s.onCe g).memi = s.memi := rfl
@[simp] theorem State.onCe_mon (g : Ce → Ce) : (s.onCe g).mon = s.mon := rfl
@[simp] theorem State.onCe_ports (g : Ce → Ce) : (s.onCe g).ports = s.ports := rfl
@[simp] theorem State.onCe_ring (g : Ce → Ce) : (s.onCe g).ring = s.ring := rfl
@[simp] theorem State.onCe_pm (g : Ce → Ce) : (s.onCe g).pm = s.pm := rfl
@[simp] theorem State.onCe_ks (g : Ce → Ce) : (s.onCe g).ks = s.ks := rfl
@[simp] theorem State.onCe_rng (g : Ce → Ce) : (s.onCe g).rng = s.rng := rfl
@[simp] theorem State.onCe_pins (g : Ce → Ce) : (s.onCe g).pins = s.pins := rfl
@[simp] theorem State.onCe_tap (g : Ce → Ce) : (s.onCe g).tap = s.tap := rfl
@[simp] theorem State.onCe_host (g : Ce → Ce) : (s.onCe g).host = s.host := rfl
@[simp] theorem State.onCe_mgmt (g : Ce → Ce) : (s.onCe g).mgmt = s.mgmt := rfl
@[simp] theorem State.onCe_ce (g : Ce → Ce) : (s.onCe g).ce = g s.ce := rfl

/-! ### onPorts -/

@[simp] theorem State.onPorts_pending (g : Ports → Ports) : (s.onPorts g).pending = s.pending := rfl
@[simp] theorem State.onPorts_regs (g : Ports → Ports) : (s.onPorts g).regs = s.regs := rfl
@[simp] theorem State.onPorts_latch (g : Ports → Ports) : (s.onPorts g).latch = s.latch := rfl
@[simp] theorem State.onPorts_mpu (g : Ports → Ports) : (s.onPorts g).mpu = s.mpu := rfl
@[simp] theorem State.onPorts_csr (g : Ports → Ports) : (s.onPorts g).csr = s.csr := rfl
@[simp] theorem State.onPorts_gpr (g : Ports → Ports) : (s.onPorts g).gpr = s.gpr := rfl
@[simp] theorem State.onPorts_ac (g : Ports → Ports) : (s.onPorts g).ac = s.ac := rfl
@[simp] theorem State.onPorts_mem (g : Ports → Ports) : (s.onPorts g).mem = s.mem := rfl
@[simp] theorem State.onPorts_syn (g : Ports → Ports) : (s.onPorts g).syn = s.syn := rfl
@[simp] theorem State.onPorts_aoclk (g : Ports → Ports) : (s.onPorts g).aoclk = s.aoclk := rfl
@[simp] theorem State.onPorts_freeCtr (g : Ports → Ports) : (s.onPorts g).freeCtr = s.freeCtr := rfl
@[simp] theorem State.onPorts_rdata (g : Ports → Ports) : (s.onPorts g).rdata = s.rdata := rfl
@[simp] theorem State.onPorts_snf (g : Ports → Ports) : (s.onPorts g).snf = s.snf := rfl
@[simp] theorem State.onPorts_flt (g : Ports → Ports) : (s.onPorts g).flt = s.flt := rfl
@[simp] theorem State.onPorts_lock (g : Ports → Ports) : (s.onPorts g).lock = s.lock := rfl
@[simp] theorem State.onPorts_core (g : Ports → Ports) : (s.onPorts g).core = s.core := rfl
@[simp] theorem State.onPorts_mc (g : Ports → Ports) : (s.onPorts g).mc = s.mc := rfl
@[simp] theorem State.onPorts_memi (g : Ports → Ports) : (s.onPorts g).memi = s.memi := rfl
@[simp] theorem State.onPorts_ce (g : Ports → Ports) : (s.onPorts g).ce = s.ce := rfl
@[simp] theorem State.onPorts_mon (g : Ports → Ports) : (s.onPorts g).mon = s.mon := rfl
@[simp] theorem State.onPorts_ring (g : Ports → Ports) : (s.onPorts g).ring = s.ring := rfl
@[simp] theorem State.onPorts_pm (g : Ports → Ports) : (s.onPorts g).pm = s.pm := rfl
@[simp] theorem State.onPorts_ks (g : Ports → Ports) : (s.onPorts g).ks = s.ks := rfl
@[simp] theorem State.onPorts_rng (g : Ports → Ports) : (s.onPorts g).rng = s.rng := rfl
@[simp] theorem State.onPorts_pins (g : Ports → Ports) : (s.onPorts g).pins = s.pins := rfl
@[simp] theorem State.onPorts_tap (g : Ports → Ports) : (s.onPorts g).tap = s.tap := rfl
@[simp] theorem State.onPorts_host (g : Ports → Ports) : (s.onPorts g).host = s.host := rfl
@[simp] theorem State.onPorts_mgmt (g : Ports → Ports) : (s.onPorts g).mgmt = s.mgmt := rfl
@[simp] theorem State.onPorts_ports (g : Ports → Ports) : (s.onPorts g).ports = g s.ports := rfl

/-! ### onRing -/

@[simp] theorem State.onRing_pending (g : Ring → Ring) : (s.onRing g).pending = s.pending := rfl
@[simp] theorem State.onRing_regs (g : Ring → Ring) : (s.onRing g).regs = s.regs := rfl
@[simp] theorem State.onRing_latch (g : Ring → Ring) : (s.onRing g).latch = s.latch := rfl
@[simp] theorem State.onRing_mpu (g : Ring → Ring) : (s.onRing g).mpu = s.mpu := rfl
@[simp] theorem State.onRing_csr (g : Ring → Ring) : (s.onRing g).csr = s.csr := rfl
@[simp] theorem State.onRing_gpr (g : Ring → Ring) : (s.onRing g).gpr = s.gpr := rfl
@[simp] theorem State.onRing_ac (g : Ring → Ring) : (s.onRing g).ac = s.ac := rfl
@[simp] theorem State.onRing_mem (g : Ring → Ring) : (s.onRing g).mem = s.mem := rfl
@[simp] theorem State.onRing_syn (g : Ring → Ring) : (s.onRing g).syn = s.syn := rfl
@[simp] theorem State.onRing_aoclk (g : Ring → Ring) : (s.onRing g).aoclk = s.aoclk := rfl
@[simp] theorem State.onRing_freeCtr (g : Ring → Ring) : (s.onRing g).freeCtr = s.freeCtr := rfl
@[simp] theorem State.onRing_rdata (g : Ring → Ring) : (s.onRing g).rdata = s.rdata := rfl
@[simp] theorem State.onRing_snf (g : Ring → Ring) : (s.onRing g).snf = s.snf := rfl
@[simp] theorem State.onRing_flt (g : Ring → Ring) : (s.onRing g).flt = s.flt := rfl
@[simp] theorem State.onRing_lock (g : Ring → Ring) : (s.onRing g).lock = s.lock := rfl
@[simp] theorem State.onRing_core (g : Ring → Ring) : (s.onRing g).core = s.core := rfl
@[simp] theorem State.onRing_mc (g : Ring → Ring) : (s.onRing g).mc = s.mc := rfl
@[simp] theorem State.onRing_memi (g : Ring → Ring) : (s.onRing g).memi = s.memi := rfl
@[simp] theorem State.onRing_ce (g : Ring → Ring) : (s.onRing g).ce = s.ce := rfl
@[simp] theorem State.onRing_mon (g : Ring → Ring) : (s.onRing g).mon = s.mon := rfl
@[simp] theorem State.onRing_ports (g : Ring → Ring) : (s.onRing g).ports = s.ports := rfl
@[simp] theorem State.onRing_pm (g : Ring → Ring) : (s.onRing g).pm = s.pm := rfl
@[simp] theorem State.onRing_ks (g : Ring → Ring) : (s.onRing g).ks = s.ks := rfl
@[simp] theorem State.onRing_rng (g : Ring → Ring) : (s.onRing g).rng = s.rng := rfl
@[simp] theorem State.onRing_pins (g : Ring → Ring) : (s.onRing g).pins = s.pins := rfl
@[simp] theorem State.onRing_tap (g : Ring → Ring) : (s.onRing g).tap = s.tap := rfl
@[simp] theorem State.onRing_host (g : Ring → Ring) : (s.onRing g).host = s.host := rfl
@[simp] theorem State.onRing_mgmt (g : Ring → Ring) : (s.onRing g).mgmt = s.mgmt := rfl
@[simp] theorem State.onRing_ring (g : Ring → Ring) : (s.onRing g).ring = g s.ring := rfl

/-! ### onPm -/

@[simp] theorem State.onPm_pending (g : Pm → Pm) : (s.onPm g).pending = s.pending := rfl
@[simp] theorem State.onPm_regs (g : Pm → Pm) : (s.onPm g).regs = s.regs := rfl
@[simp] theorem State.onPm_latch (g : Pm → Pm) : (s.onPm g).latch = s.latch := rfl
@[simp] theorem State.onPm_mpu (g : Pm → Pm) : (s.onPm g).mpu = s.mpu := rfl
@[simp] theorem State.onPm_csr (g : Pm → Pm) : (s.onPm g).csr = s.csr := rfl
@[simp] theorem State.onPm_gpr (g : Pm → Pm) : (s.onPm g).gpr = s.gpr := rfl
@[simp] theorem State.onPm_ac (g : Pm → Pm) : (s.onPm g).ac = s.ac := rfl
@[simp] theorem State.onPm_mem (g : Pm → Pm) : (s.onPm g).mem = s.mem := rfl
@[simp] theorem State.onPm_syn (g : Pm → Pm) : (s.onPm g).syn = s.syn := rfl
@[simp] theorem State.onPm_aoclk (g : Pm → Pm) : (s.onPm g).aoclk = s.aoclk := rfl
@[simp] theorem State.onPm_freeCtr (g : Pm → Pm) : (s.onPm g).freeCtr = s.freeCtr := rfl
@[simp] theorem State.onPm_rdata (g : Pm → Pm) : (s.onPm g).rdata = s.rdata := rfl
@[simp] theorem State.onPm_snf (g : Pm → Pm) : (s.onPm g).snf = s.snf := rfl
@[simp] theorem State.onPm_flt (g : Pm → Pm) : (s.onPm g).flt = s.flt := rfl
@[simp] theorem State.onPm_lock (g : Pm → Pm) : (s.onPm g).lock = s.lock := rfl
@[simp] theorem State.onPm_core (g : Pm → Pm) : (s.onPm g).core = s.core := rfl
@[simp] theorem State.onPm_mc (g : Pm → Pm) : (s.onPm g).mc = s.mc := rfl
@[simp] theorem State.onPm_memi (g : Pm → Pm) : (s.onPm g).memi = s.memi := rfl
@[simp] theorem State.onPm_ce (g : Pm → Pm) : (s.onPm g).ce = s.ce := rfl
@[simp] theorem State.onPm_mon (g : Pm → Pm) : (s.onPm g).mon = s.mon := rfl
@[simp] theorem State.onPm_ports (g : Pm → Pm) : (s.onPm g).ports = s.ports := rfl
@[simp] theorem State.onPm_ring (g : Pm → Pm) : (s.onPm g).ring = s.ring := rfl
@[simp] theorem State.onPm_ks (g : Pm → Pm) : (s.onPm g).ks = s.ks := rfl
@[simp] theorem State.onPm_rng (g : Pm → Pm) : (s.onPm g).rng = s.rng := rfl
@[simp] theorem State.onPm_pins (g : Pm → Pm) : (s.onPm g).pins = s.pins := rfl
@[simp] theorem State.onPm_tap (g : Pm → Pm) : (s.onPm g).tap = s.tap := rfl
@[simp] theorem State.onPm_host (g : Pm → Pm) : (s.onPm g).host = s.host := rfl
@[simp] theorem State.onPm_mgmt (g : Pm → Pm) : (s.onPm g).mgmt = s.mgmt := rfl
@[simp] theorem State.onPm_pm (g : Pm → Pm) : (s.onPm g).pm = g s.pm := rfl

/-! ### onKs -/

@[simp] theorem State.onKs_pending (g : Ks → Ks) : (s.onKs g).pending = s.pending := rfl
@[simp] theorem State.onKs_regs (g : Ks → Ks) : (s.onKs g).regs = s.regs := rfl
@[simp] theorem State.onKs_latch (g : Ks → Ks) : (s.onKs g).latch = s.latch := rfl
@[simp] theorem State.onKs_mpu (g : Ks → Ks) : (s.onKs g).mpu = s.mpu := rfl
@[simp] theorem State.onKs_csr (g : Ks → Ks) : (s.onKs g).csr = s.csr := rfl
@[simp] theorem State.onKs_gpr (g : Ks → Ks) : (s.onKs g).gpr = s.gpr := rfl
@[simp] theorem State.onKs_ac (g : Ks → Ks) : (s.onKs g).ac = s.ac := rfl
@[simp] theorem State.onKs_mem (g : Ks → Ks) : (s.onKs g).mem = s.mem := rfl
@[simp] theorem State.onKs_syn (g : Ks → Ks) : (s.onKs g).syn = s.syn := rfl
@[simp] theorem State.onKs_aoclk (g : Ks → Ks) : (s.onKs g).aoclk = s.aoclk := rfl
@[simp] theorem State.onKs_freeCtr (g : Ks → Ks) : (s.onKs g).freeCtr = s.freeCtr := rfl
@[simp] theorem State.onKs_rdata (g : Ks → Ks) : (s.onKs g).rdata = s.rdata := rfl
@[simp] theorem State.onKs_snf (g : Ks → Ks) : (s.onKs g).snf = s.snf := rfl
@[simp] theorem State.onKs_flt (g : Ks → Ks) : (s.onKs g).flt = s.flt := rfl
@[simp] theorem State.onKs_lock (g : Ks → Ks) : (s.onKs g).lock = s.lock := rfl
@[simp] theorem State.onKs_core (g : Ks → Ks) : (s.onKs g).core = s.core := rfl
@[simp] theorem State.onKs_mc (g : Ks → Ks) : (s.onKs g).mc = s.mc := rfl
@[simp] theorem State.onKs_memi (g : Ks → Ks) : (s.onKs g).memi = s.memi := rfl
@[simp] theorem State.onKs_ce (g : Ks → Ks) : (s.onKs g).ce = s.ce := rfl
@[simp] theorem State.onKs_mon (g : Ks → Ks) : (s.onKs g).mon = s.mon := rfl
@[simp] theorem State.onKs_ports (g : Ks → Ks) : (s.onKs g).ports = s.ports := rfl
@[simp] theorem State.onKs_ring (g : Ks → Ks) : (s.onKs g).ring = s.ring := rfl
@[simp] theorem State.onKs_pm (g : Ks → Ks) : (s.onKs g).pm = s.pm := rfl
@[simp] theorem State.onKs_rng (g : Ks → Ks) : (s.onKs g).rng = s.rng := rfl
@[simp] theorem State.onKs_pins (g : Ks → Ks) : (s.onKs g).pins = s.pins := rfl
@[simp] theorem State.onKs_tap (g : Ks → Ks) : (s.onKs g).tap = s.tap := rfl
@[simp] theorem State.onKs_host (g : Ks → Ks) : (s.onKs g).host = s.host := rfl
@[simp] theorem State.onKs_mgmt (g : Ks → Ks) : (s.onKs g).mgmt = s.mgmt := rfl
@[simp] theorem State.onKs_ks (g : Ks → Ks) : (s.onKs g).ks = g s.ks := rfl

/-! ### onRng -/

@[simp] theorem State.onRng_pending (g : Rng → Rng) : (s.onRng g).pending = s.pending := rfl
@[simp] theorem State.onRng_regs (g : Rng → Rng) : (s.onRng g).regs = s.regs := rfl
@[simp] theorem State.onRng_latch (g : Rng → Rng) : (s.onRng g).latch = s.latch := rfl
@[simp] theorem State.onRng_mpu (g : Rng → Rng) : (s.onRng g).mpu = s.mpu := rfl
@[simp] theorem State.onRng_csr (g : Rng → Rng) : (s.onRng g).csr = s.csr := rfl
@[simp] theorem State.onRng_gpr (g : Rng → Rng) : (s.onRng g).gpr = s.gpr := rfl
@[simp] theorem State.onRng_ac (g : Rng → Rng) : (s.onRng g).ac = s.ac := rfl
@[simp] theorem State.onRng_mem (g : Rng → Rng) : (s.onRng g).mem = s.mem := rfl
@[simp] theorem State.onRng_syn (g : Rng → Rng) : (s.onRng g).syn = s.syn := rfl
@[simp] theorem State.onRng_aoclk (g : Rng → Rng) : (s.onRng g).aoclk = s.aoclk := rfl
@[simp] theorem State.onRng_freeCtr (g : Rng → Rng) : (s.onRng g).freeCtr = s.freeCtr := rfl
@[simp] theorem State.onRng_rdata (g : Rng → Rng) : (s.onRng g).rdata = s.rdata := rfl
@[simp] theorem State.onRng_snf (g : Rng → Rng) : (s.onRng g).snf = s.snf := rfl
@[simp] theorem State.onRng_flt (g : Rng → Rng) : (s.onRng g).flt = s.flt := rfl
@[simp] theorem State.onRng_lock (g : Rng → Rng) : (s.onRng g).lock = s.lock := rfl
@[simp] theorem State.onRng_core (g : Rng → Rng) : (s.onRng g).core = s.core := rfl
@[simp] theorem State.onRng_mc (g : Rng → Rng) : (s.onRng g).mc = s.mc := rfl
@[simp] theorem State.onRng_memi (g : Rng → Rng) : (s.onRng g).memi = s.memi := rfl
@[simp] theorem State.onRng_ce (g : Rng → Rng) : (s.onRng g).ce = s.ce := rfl
@[simp] theorem State.onRng_mon (g : Rng → Rng) : (s.onRng g).mon = s.mon := rfl
@[simp] theorem State.onRng_ports (g : Rng → Rng) : (s.onRng g).ports = s.ports := rfl
@[simp] theorem State.onRng_ring (g : Rng → Rng) : (s.onRng g).ring = s.ring := rfl
@[simp] theorem State.onRng_pm (g : Rng → Rng) : (s.onRng g).pm = s.pm := rfl
@[simp] theorem State.onRng_ks (g : Rng → Rng) : (s.onRng g).ks = s.ks := rfl
@[simp] theorem State.onRng_pins (g : Rng → Rng) : (s.onRng g).pins = s.pins := rfl
@[simp] theorem State.onRng_tap (g : Rng → Rng) : (s.onRng g).tap = s.tap := rfl
@[simp] theorem State.onRng_host (g : Rng → Rng) : (s.onRng g).host = s.host := rfl
@[simp] theorem State.onRng_mgmt (g : Rng → Rng) : (s.onRng g).mgmt = s.mgmt := rfl
@[simp] theorem State.onRng_rng (g : Rng → Rng) : (s.onRng g).rng = g s.rng := rfl

/-! ### onTap -/

@[simp] theorem State.onTap_pending (g : Tap → Tap) : (s.onTap g).pending = s.pending := rfl
@[simp] theorem State.onTap_regs (g : Tap → Tap) : (s.onTap g).regs = s.regs := rfl
@[simp] theorem State.onTap_latch (g : Tap → Tap) : (s.onTap g).latch = s.latch := rfl
@[simp] theorem State.onTap_mpu (g : Tap → Tap) : (s.onTap g).mpu = s.mpu := rfl
@[simp] theorem State.onTap_csr (g : Tap → Tap) : (s.onTap g).csr = s.csr := rfl
@[simp] theorem State.onTap_gpr (g : Tap → Tap) : (s.onTap g).gpr = s.gpr := rfl
@[simp] theorem State.onTap_ac (g : Tap → Tap) : (s.onTap g).ac = s.ac := rfl
@[simp] theorem State.onTap_mem (g : Tap → Tap) : (s.onTap g).mem = s.mem := rfl
@[simp] theorem State.onTap_syn (g : Tap → Tap) : (s.onTap g).syn = s.syn := rfl
@[simp] theorem State.onTap_aoclk (g : Tap → Tap) : (s.onTap g).aoclk = s.aoclk := rfl
@[simp] theorem State.onTap_freeCtr (g : Tap → Tap) : (s.onTap g).freeCtr = s.freeCtr := rfl
@[simp] theorem State.onTap_rdata (g : Tap → Tap) : (s.onTap g).rdata = s.rdata := rfl
@[simp] theorem State.onTap_snf (g : Tap → Tap) : (s.onTap g).snf = s.snf := rfl
@[simp] theorem State.onTap_flt (g : Tap → Tap) : (s.onTap g).flt = s.flt := rfl
@[simp] theorem State.onTap_lock (g : Tap → Tap) : (s.onTap g).lock = s.lock := rfl
@[simp] theorem State.onTap_core (g : Tap → Tap) : (s.onTap g).core = s.core := rfl
@[simp] theorem State.onTap_mc (g : Tap → Tap) : (s.onTap g).mc = s.mc := rfl
@[simp] theorem State.onTap_memi (g : Tap → Tap) : (s.onTap g).memi = s.memi := rfl
@[simp] theorem State.onTap_ce (g : Tap → Tap) : (s.onTap g).ce = s.ce := rfl
@[simp] theorem State.onTap_mon (g : Tap → Tap) : (s.onTap g).mon = s.mon := rfl
@[simp] theorem State.onTap_ports (g : Tap → Tap) : (s.onTap g).ports = s.ports := rfl
@[simp] theorem State.onTap_ring (g : Tap → Tap) : (s.onTap g).ring = s.ring := rfl
@[simp] theorem State.onTap_pm (g : Tap → Tap) : (s.onTap g).pm = s.pm := rfl
@[simp] theorem State.onTap_ks (g : Tap → Tap) : (s.onTap g).ks = s.ks := rfl
@[simp] theorem State.onTap_rng (g : Tap → Tap) : (s.onTap g).rng = s.rng := rfl
@[simp] theorem State.onTap_pins (g : Tap → Tap) : (s.onTap g).pins = s.pins := rfl
@[simp] theorem State.onTap_host (g : Tap → Tap) : (s.onTap g).host = s.host := rfl
@[simp] theorem State.onTap_mgmt (g : Tap → Tap) : (s.onTap g).mgmt = s.mgmt := rfl
@[simp] theorem State.onTap_tap (g : Tap → Tap) : (s.onTap g).tap = g s.tap := rfl

/-! ### onHost -/

@[simp] theorem State.onHost_pending (g : HostPort → HostPort) : (s.onHost g).pending = s.pending := rfl
@[simp] theorem State.onHost_regs (g : HostPort → HostPort) : (s.onHost g).regs = s.regs := rfl
@[simp] theorem State.onHost_latch (g : HostPort → HostPort) : (s.onHost g).latch = s.latch := rfl
@[simp] theorem State.onHost_mpu (g : HostPort → HostPort) : (s.onHost g).mpu = s.mpu := rfl
@[simp] theorem State.onHost_csr (g : HostPort → HostPort) : (s.onHost g).csr = s.csr := rfl
@[simp] theorem State.onHost_gpr (g : HostPort → HostPort) : (s.onHost g).gpr = s.gpr := rfl
@[simp] theorem State.onHost_ac (g : HostPort → HostPort) : (s.onHost g).ac = s.ac := rfl
@[simp] theorem State.onHost_mem (g : HostPort → HostPort) : (s.onHost g).mem = s.mem := rfl
@[simp] theorem State.onHost_syn (g : HostPort → HostPort) : (s.onHost g).syn = s.syn := rfl
@[simp] theorem State.onHost_aoclk (g : HostPort → HostPort) : (s.onHost g).aoclk = s.aoclk := rfl
@[simp] theorem State.onHost_freeCtr (g : HostPort → HostPort) : (s.onHost g).freeCtr = s.freeCtr := rfl
@[simp] theorem State.onHost_rdata (g : HostPort → HostPort) : (s.onHost g).rdata = s.rdata := rfl
@[simp] theorem State.onHost_snf (g : HostPort → HostPort) : (s.onHost g).snf = s.snf := rfl
@[simp] theorem State.onHost_flt (g : HostPort → HostPort) : (s.onHost g).flt = s.flt := rfl
@[simp] theorem State.onHost_lock (g : HostPort → HostPort) : (s.onHost g).lock = s.lock := rfl
@[simp] theorem State.onHost_core (g : HostPort → HostPort) : (s.onHost g).core = s.core := rfl
@[simp] theorem State.onHost_mc (g : HostPort → HostPort) : (s.onHost g).mc = s.mc := rfl
@[simp] theorem State.onHost_memi (g : HostPort → HostPort) : (s.onHost g).memi = s.memi := rfl
@[simp] theorem State.onHost_ce (g : HostPort → HostPort) : (s.onHost g).ce = s.ce := rfl
@[simp] theorem State.onHost_mon (g : HostPort → HostPort) : (s.onHost g).mon = s.mon := rfl
@[simp] theorem State.onHost_ports (g : HostPort → HostPort) : (s.onHost g).ports = s.ports := rfl
@[simp] theorem State.onHost_ring (g : HostPort → HostPort) : (s.onHost g).ring = s.ring := rfl
@[simp] theorem State.onHost_pm (g : HostPort → HostPort) : (s.onHost g).pm = s.pm := rfl
@[simp] theorem State.onHost_ks (g : HostPort → HostPort) : (s.onHost g).ks = s.ks := rfl
@[simp] theorem State.onHost_rng (g : HostPort → HostPort) : (s.onHost g).rng = s.rng := rfl
@[simp] theorem State.onHost_pins (g : HostPort → HostPort) : (s.onHost g).pins = s.pins := rfl
@[simp] theorem State.onHost_tap (g : HostPort → HostPort) : (s.onHost g).tap = s.tap := rfl
@[simp] theorem State.onHost_mgmt (g : HostPort → HostPort) : (s.onHost g).mgmt = s.mgmt := rfl
@[simp] theorem State.onHost_host (g : HostPort → HostPort) : (s.onHost g).host = g s.host := rfl

/-! ### onMgmt -/

@[simp] theorem State.onMgmt_pending (g : MgmtPort → MgmtPort) : (s.onMgmt g).pending = s.pending := rfl
@[simp] theorem State.onMgmt_regs (g : MgmtPort → MgmtPort) : (s.onMgmt g).regs = s.regs := rfl
@[simp] theorem State.onMgmt_latch (g : MgmtPort → MgmtPort) : (s.onMgmt g).latch = s.latch := rfl
@[simp] theorem State.onMgmt_mpu (g : MgmtPort → MgmtPort) : (s.onMgmt g).mpu = s.mpu := rfl
@[simp] theorem State.onMgmt_csr (g : MgmtPort → MgmtPort) : (s.onMgmt g).csr = s.csr := rfl
@[simp] theorem State.onMgmt_gpr (g : MgmtPort → MgmtPort) : (s.onMgmt g).gpr = s.gpr := rfl
@[simp] theorem State.onMgmt_ac (g : MgmtPort → MgmtPort) : (s.onMgmt g).ac = s.ac := rfl
@[simp] theorem State.onMgmt_mem (g : MgmtPort → MgmtPort) : (s.onMgmt g).mem = s.mem := rfl
@[simp] theorem State.onMgmt_syn (g : MgmtPort → MgmtPort) : (s.onMgmt g).syn = s.syn := rfl
@[simp] theorem State.onMgmt_aoclk (g : MgmtPort → MgmtPort) : (s.onMgmt g).aoclk = s.aoclk := rfl
@[simp] theorem State.onMgmt_freeCtr (g : MgmtPort → MgmtPort) : (s.onMgmt g).freeCtr = s.freeCtr := rfl
@[simp] theorem State.onMgmt_rdata (g : MgmtPort → MgmtPort) : (s.onMgmt g).rdata = s.rdata := rfl
@[simp] theorem State.onMgmt_snf (g : MgmtPort → MgmtPort) : (s.onMgmt g).snf = s.snf := rfl
@[simp] theorem State.onMgmt_flt (g : MgmtPort → MgmtPort) : (s.onMgmt g).flt = s.flt := rfl
@[simp] theorem State.onMgmt_lock (g : MgmtPort → MgmtPort) : (s.onMgmt g).lock = s.lock := rfl
@[simp] theorem State.onMgmt_core (g : MgmtPort → MgmtPort) : (s.onMgmt g).core = s.core := rfl
@[simp] theorem State.onMgmt_mc (g : MgmtPort → MgmtPort) : (s.onMgmt g).mc = s.mc := rfl
@[simp] theorem State.onMgmt_memi (g : MgmtPort → MgmtPort) : (s.onMgmt g).memi = s.memi := rfl
@[simp] theorem State.onMgmt_ce (g : MgmtPort → MgmtPort) : (s.onMgmt g).ce = s.ce := rfl
@[simp] theorem State.onMgmt_mon (g : MgmtPort → MgmtPort) : (s.onMgmt g).mon = s.mon := rfl
@[simp] theorem State.onMgmt_ports (g : MgmtPort → MgmtPort) : (s.onMgmt g).ports = s.ports := rfl
@[simp] theorem State.onMgmt_ring (g : MgmtPort → MgmtPort) : (s.onMgmt g).ring = s.ring := rfl
@[simp] theorem State.onMgmt_pm (g : MgmtPort → MgmtPort) : (s.onMgmt g).pm = s.pm := rfl
@[simp] theorem State.onMgmt_ks (g : MgmtPort → MgmtPort) : (s.onMgmt g).ks = s.ks := rfl
@[simp] theorem State.onMgmt_rng (g : MgmtPort → MgmtPort) : (s.onMgmt g).rng = s.rng := rfl
@[simp] theorem State.onMgmt_pins (g : MgmtPort → MgmtPort) : (s.onMgmt g).pins = s.pins := rfl
@[simp] theorem State.onMgmt_tap (g : MgmtPort → MgmtPort) : (s.onMgmt g).tap = s.tap := rfl
@[simp] theorem State.onMgmt_host (g : MgmtPort → MgmtPort) : (s.onMgmt g).host = s.host := rfl
@[simp] theorem State.onMgmt_mgmt (g : MgmtPort → MgmtPort) : (s.onMgmt g).mgmt = g s.mgmt := rfl

/-! ### Reads after writes -/

theorem State.rd_def (a : Nat) : s.rd a = Store.get regReset s.regs a := rfl

@[simp] theorem State.rd_wr (a b : Nat) (v : Word) : (s.wr a v).rd b = if b = a then v else s.rd b := by
  simp [State.rd, State.wr]

@[simp] theorem State.csrRaw_csrPut (n k : Nat) (v : Word) :
    (s.csrPut n v).csrRaw k = if k = n then v else s.csrRaw k := by
  simp [State.csrRaw, State.csrPut]

@[simp] theorem State.acc_setAcc (n k : Nat) (v : BitVec 64) : (s.setAcc n v).acc k = if k = n then v else s.acc k := by
  simp [State.acc, State.setAcc]

@[simp] theorem State.reg_zero : s.reg 0 = 0 := by simp [State.reg]

theorem State.reg_setReg (r k : Nat) (v : Word) :
    (s.setReg r v).reg k = if k = r ∧ r ≠ 0 then v else s.reg k := by
  unfold State.reg State.setReg
  by_cases hr : r = 0
  · subst hr; simp
  · rw [if_neg hr]
    by_cases hk : k = 0
    · subst hk; rw [if_pos rfl, if_neg (fun h => hr h.1.symm), if_pos rfl]
    · simp only [if_neg hk, Store.get_set]
      by_cases e : k = r <;> simp [e, hr]

@[simp] theorem State.byteAt_putByte (a b : Nat) (x : Byte) :
    (s.putByte a x).byteAt b = if b = a then x else s.byteAt b := by
  simp [State.byteAt, State.putByte]

@[simp] theorem State.codeAt_putCode (a b x : Nat) : (s.putCode a x).codeAt b = if b = a then x else s.codeAt b := by
  simp [State.codeAt, State.putCode]

theorem State.reg_congr {s t : State} (h : t.gpr = s.gpr) (r : Nat) : t.reg r = s.reg r := by
  unfold State.reg; rw [h]

theorem State.rd_congr {s t : State} (h : t.regs = s.regs) (a : Nat) : t.rd a = s.rd a := by
  unfold State.rd; rw [h]

theorem State.get_congr {s t : State} (h : t.regs = s.regs) (f : Fld) : t.get f = s.get f := by
  unfold State.get State.rd; rw [h]

theorem State.byteAt_congr {s t : State} (h : t.mem = s.mem) (a : Nat) : t.byteAt a = s.byteAt a := by
  unfold State.byteAt; rw [h]

end Sys2Proof.Machine
end

