-- ==== Sys2Proof/Laws/Fields.lean ====
section
/-! SUPPORT. Register fields after writes of registers and fields. -/
namespace Sys2Proof.Machine
variable (s : State)

theorem State.rd_put (f : Fld) (v a : Nat) :
    (s.put f v).rd a = if a = f.addr then putFld (s.rd f.addr) f.lo f.len v else s.rd a := by
  simp [State.put]

/-- A field reads what was put into it. -/
theorem State.get_put_same (f : Fld) (v : Nat) (h : f.lo + f.len ≤ 32) : (s.put f v).get f = v % 2 ^ f.len := by
  simp [State.get, State.rd_put, fld_putFld _ _ _ _ h]

/-- A field of another register reads as before. -/
theorem State.get_put_addr (f g : Fld) (v : Nat) (h : g.addr ≠ f.addr) : (s.put f v).get g = s.get g := by
  simp [State.get, State.rd_put, h]

/-- A field apart from the one written reads as before. -/
theorem State.get_put_apart (f g : Fld) (v : Nat) (h : g.lo + g.len ≤ f.lo ∨ f.lo + f.len ≤ g.lo) :
    (s.put f v).get g = s.get g := by
  by_cases e : g.addr = f.addr
  · simp [State.get, State.rd_put, e, fld_putFld_ne _ _ _ _ _ _ h]
  · exact s.get_put_addr f g v e

theorem State.get_lt (f : Fld) : s.get f < 2 ^ f.len := fld_lt _ _ _

@[simp] theorem State.get_wr_ne (a : Nat) (v : Word) (f : Fld) (h : f.addr ≠ a) : (s.wr a v).get f = s.get f := by
  simp [State.get, h]

theorem State.get_wr_same (a : Nat) (v : Word) (lo len : Nat) : (s.wr a v).get ⟨a, lo, len⟩ = fld v lo len := by
  simp [State.get]

/-- STATUS fields: the one written, and one apart from it. -/
theorem State.status_putStatus (lo len v : Nat) (h : lo + len ≤ 32) : (s.putStatus lo len v).status lo len = v % 2 ^ len := by
  simp [State.status, State.putStatus, fld_putFld _ _ _ _ h]

theorem State.status_putStatus_ne (lo len v lo' len' : Nat) (h : lo' + len' ≤ lo ∨ lo + len ≤ lo') :
    (s.putStatus lo len v).status lo' len' = s.status lo' len' := by
  simp [State.status, State.putStatus, fld_putFld_ne _ _ _ _ _ _ h]

theorem State.csrRaw_putStatus (lo len v n : Nat) :
    (s.putStatus lo len v).csrRaw n = if n = 0 then putFld (s.csrRaw 0) lo len v else s.csrRaw n := by
  simp [State.putStatus]

end Sys2Proof.Machine
end

