-- ==== Sys2Proof/Laws/Mem.lean ====
section
/-! SUPPORT. The memories: what a stored byte, word or line reads as afterwards, that every memory operation leaves every other
byte alone, and that each keeps the canonical form. -/
namespace Sys2Proof.Machine
variable (s : State)

/-! ## Bytes -/

theorem State.byteAt_putBytes (l : List Byte) (a b : Nat) :
    (s.putBytes a l).byteAt b = if a ≤ b ∧ b < a + l.length then l.getD (b - a) 0 else s.byteAt b := by
  induction l generalizing s a with
  | nil => rw [if_neg (by simp only [List.length_nil]; omega)]; rfl
  | cons x t ih =>
    simp only [State.putBytes, ih, State.byteAt_putByte, List.length_cons]
    by_cases e : b = a
    · subst e; rw [if_neg (by omega), if_pos rfl, if_pos (by omega)]; simp
    · by_cases h : a + 1 ≤ b ∧ b < a + 1 + t.length
      · rw [if_pos h, if_pos (by omega), show b - a = (b - (a + 1)) + 1 by omega]; simp
      · rw [if_neg h, if_neg e, if_neg (by omega)]

/-- A byte outside the stored ones reads as before. -/
theorem State.byteAt_putBytes_out (l : List Byte) (a b : Nat) (h : b < a ∨ a + l.length ≤ b) :
    (s.putBytes a l).byteAt b = s.byteAt b := by
  rw [State.byteAt_putBytes, if_neg (by omega)]

theorem State.bytesAt_congr {s t : State} (a n : Nat) (h : ∀ b, a ≤ b → b < a + n → t.byteAt b = s.byteAt b) :
    t.bytesAt a n = s.bytesAt a n := by
  induction n generalizing a with
  | zero => rfl
  | succ n ih =>
    simp only [State.bytesAt]
    rw [h a (Nat.le_refl a) (by omega), ih (a + 1) (fun b h1 h2 => h b (by omega) (by omega))]

theorem State.bytesAt_length (a n : Nat) : (s.bytesAt a n).length = n := by
  induction n generalizing a with
  | zero => rfl
  | succ n ih => simp [State.bytesAt, ih]

/-- Stored bytes are read back. -/
theorem State.bytesAt_putBytes (l : List Byte) (a : Nat) : (s.putBytes a l).bytesAt a l.length = l := by
  induction l generalizing s a with
  | nil => rfl
  | cons x t ih =>
    simp only [State.putBytes, List.length_cons, State.bytesAt, ih]
    rw [State.byteAt_putBytes_out _ _ _ _ (.inl (by omega))]
    simp

/-! ## Words -/

@[simp] theorem wordBytes_length (w : Word) : (wordBytes w).length = 4 := rfl

/-- A word is its four bytes, least significant first (R3). -/
theorem bytesNat_wordBytes (w : Word) : BitVec.ofNat 32 (bytesNat (wordBytes w)) = w := by
  apply BitVec.eq_of_toNat_eq
  have h := w.isLt
  simp only [wordBytes, bytesNat, BitVec.extractLsb'_toNat, BitVec.toNat_ofNat, Nat.shiftRight_eq_div_pow]
  omega

@[simp] theorem State.putWord_mem (a : Nat) (w : Word) : (s.putWord a w).mem = (s.putBytes a (wordBytes w)).mem := rfl

@[simp] theorem State.byteAt_putCode (u x b : Nat) : (s.putCode u x).byteAt b = s.byteAt b := rfl

/-- A byte outside a stored word reads as before. -/
theorem State.byteAt_putWord_out (a b : Nat) (w : Word) (h : b < a ∨ a + 4 ≤ b) :
    (s.putWord a w).byteAt b = s.byteAt b := by
  rw [State.putWord, State.byteAt_putCode]
  exact s.byteAt_putBytes_out (wordBytes w) a b h

/-- A stored word is read back. -/
@[simp] theorem State.wordAt_putWord (a : Nat) (w : Word) : (s.putWord a w).wordAt a = w := by
  have h : (s.putWord a w).bytesAt a 4 = wordBytes w := by
    rw [State.putWord, State.bytesAt_congr (s := s.putBytes a (wordBytes w)) a 4 (fun b _ _ => State.byteAt_putCode ..)]
    exact s.bytesAt_putBytes (wordBytes w) a
  rw [State.wordAt, h, bytesNat_wordBytes]

/-- A word apart from the one stored reads as before. -/
theorem State.wordAt_putWord_ne (a b : Nat) (w : Word) (h : b + 4 ≤ a ∨ a + 4 ≤ b) :
    (s.putWord a w).wordAt b = s.wordAt b := by
  unfold State.wordAt
  rw [State.bytesAt_congr b 4 (fun c h1 h2 => s.byteAt_putWord_out a c w (by omega))]

/-- A stored word carries proper check bits (R247). -/
theorem State.putBytes_syn (l : List Byte) (a : Nat) : (s.putBytes a l).syn = s.syn := by
  induction l generalizing s a with
  | nil => rfl
  | cons x t ih => rw [State.putBytes, ih]; rfl

theorem State.codeAt_putBytes (l : List Byte) (a u : Nat) : (s.putBytes a l).codeAt u = s.codeAt u := by
  simp [State.codeAt, State.putBytes_syn]

theorem State.codeAt_putWord (a u : Nat) (w : Word) :
    (s.putWord a w).codeAt u = if u = a / 4 * 4 then 0 else s.codeAt u := by
  simp [State.putWord, State.codeAt_putBytes]

/-- A byte outside stored words reads as before. -/
theorem State.byteAt_putWords_out (ws : List Word) (a b : Nat) (h : b < a ∨ a + 4 * ws.length ≤ b) :
    (s.putWords a ws).byteAt b = s.byteAt b := by
  unfold State.putWords
  induction ws generalizing s a with
  | nil => rw [putRun]
  | cons w t ih =>
    simp only [List.length_cons] at h
    rw [putRun, ih _ _ (by omega), State.byteAt_putWord_out _ _ _ _ (by omega)]

/-! ## Canonical form -/

/-- Reset memory lists nothing. -/
theorem State.reset_memory_wf : Memory.wf State.reset.mem = true := rfl

theorem State.putByte_mem (a : Nat) (b : Byte) : (s.putByte a b).mem = Store.set memReset s.mem a b := rfl

theorem State.putByte_wf (a : Nat) (b : Byte) (h : Memory.wf s.mem = true) : Memory.wf (s.putByte a b).mem = true := by
  rw [State.putByte_mem]; exact Store.wf_set a b h

theorem State.putBytes_wf (l : List Byte) (a : Nat) (h : Memory.wf s.mem = true) : Memory.wf (s.putBytes a l).mem = true := by
  induction l generalizing s a with
  | nil => rw [State.putBytes]; exact h
  | cons x t ih => rw [State.putBytes]; exact ih _ _ (s.putByte_wf a x h)

theorem State.putWord_wf (a : Nat) (w : Word) (h : Memory.wf s.mem = true) : Memory.wf (s.putWord a w).mem = true := by
  rw [State.putWord_mem]; exact s.putBytes_wf (wordBytes w) a h

theorem State.putWords_wf (ws : List Word) (a : Nat) (h : Memory.wf s.mem = true) : Memory.wf (s.putWords a ws).mem = true := by
  unfold State.putWords
  induction ws generalizing s a with
  | nil => rw [putRun]; exact h
  | cons w t ih => rw [putRun]; exact ih _ _ (s.putWord_wf a w h)

theorem State.putLine_mem (l : Nat) (ws : List Word) : (s.putLine l ws).mem = (s.putBytes l (wordsBytes ws)).mem := by
  simp only [State.putLine, List.foldl_cons, List.foldl_nil, State.putCode_mem]

theorem State.putLine_wf (l : Nat) (ws : List Word) (h : Memory.wf s.mem = true) : Memory.wf (s.putLine l ws).mem = true := by
  rw [State.putLine_mem]; exact s.putBytes_wf (wordsBytes ws) l h

theorem State.eraseLines_wf (n a : Nat) (h : Memory.wf s.mem = true) : Memory.wf (s.eraseLines a n).mem = true := by
  unfold State.eraseLines
  induction n generalizing s a with
  | zero => rw [eraseRun]; exact h
  | succ n ih =>
    rw [eraseRun]
    apply ih
    simp only [State.eraseLine, State.putCode_mem]
    exact s.putBytes_wf (List.replicate 32 0xFF) a h

theorem State.flashUndefined_wf (n a : Nat) (h : Memory.wf s.mem = true) : Memory.wf (s.flashUndefined a n).mem = true := by
  induction n generalizing s a with
  | zero => rw [State.flashUndefined]; exact h
  | succ n ih =>
    simp only [State.flashUndefined]
    apply ih
    split
    · exact State.putBytes_wf (s.putCode a ((Config.free (s.freeCtr + 1)).toNat % 256)) _ a h
    · exact State.putBytes_wf s _ a h

theorem State.mirror_mem (c a : Nat) (d : List Word) : (s.mirror c a d).mem = s.mem := by
  unfold State.mirror; dsimp only; split <;> rfl

/-- A write to SRAM or the scratchpad stores the word's four bytes and no other, whatever it does beside (R243). -/
theorem State.memStore_mem (a : Nat) (w : Word) : (s.memStore a w).mem = Store.set memReset (Store.set memReset
    (Store.set memReset (Store.set memReset s.mem a (w.extractLsb' 0 8)) (a + 1) (w.extractLsb' 8 8)) (a + 1 + 1)
      (w.extractLsb' 16 8)) (a + 1 + 1 + 1) (w.extractLsb' 24 8) := by
  unfold State.memStore
  dsimp only
  repeat' split
  all_goals simp [State.mirror_mem, State.putCode, State.putBytes, State.putByte, wordBytes]

theorem State.memStore_wf (a : Nat) (w : Word) (h : Memory.wf s.mem = true) : Memory.wf (s.memStore a w).mem = true := by
  rw [State.memStore_mem]
  exact Store.wf_set _ _ (Store.wf_set _ _ (Store.wf_set _ _ (Store.wf_set _ _ h)))

/-- A byte outside the word that a write stores reads as before. -/
theorem State.byteAt_memStore_out (a b : Nat) (w : Word) (h : b < a ∨ a + 4 ≤ b) :
    (s.memStore a w).byteAt b = s.byteAt b := by
  unfold State.byteAt
  rw [State.memStore_mem]
  simp only [Store.get_set]
  rw [if_neg (by omega), if_neg (by omega), if_neg (by omega), if_neg (by omega)]

theorem State.writeBack_wf (b : Nat) (h : Memory.wf s.mem = true) : Memory.wf (s.writeBack b).mem = true := by
  unfold State.writeBack
  split
  · exact h
  · next a w _ => exact s.putWord_wf a w h

theorem State.sramLost_wf (h : Memory.wf s.mem = true) : Memory.wf s.sramLost.mem = true := by
  rw [show s.sramLost.mem = s.mem.filter _ from rfl]; exact Store.wf_filter _ h

end Sys2Proof.Machine
end

