-- ==== Sys2Proof/Laws/Pipe.lean ====
section
/-! SUPPORT. What time, retirement and the frame of an instruction do to the state. -/
namespace Sys2Proof.Machine
variable (s : State)

/-! ## Time -/

@[simp] theorem State.holdEnd_pending : s.holdEnd.pending = s.pending := by
  unfold State.holdEnd; dsimp only; split <;> rfl
@[simp] theorem State.holdEnd_latch : s.holdEnd.latch = s.latch := by
  unfold State.holdEnd; dsimp only; split <;> rfl
@[simp] theorem State.holdEnd_mpu : s.holdEnd.mpu = s.mpu := by
  unfold State.holdEnd; dsimp only; split <;> rfl
@[simp] theorem State.holdEnd_gpr : s.holdEnd.gpr = s.gpr := by
  unfold State.holdEnd; dsimp only; split <;> rfl
@[simp] theorem State.holdEnd_ac : s.holdEnd.ac = s.ac := by
  unfold State.holdEnd; dsimp only; split <;> rfl
@[simp] theorem State.holdEnd_mem : s.holdEnd.mem = s.mem := by
  unfold State.holdEnd; dsimp only; split <;> rfl
@[simp] theorem State.holdEnd_syn : s.holdEnd.syn = s.syn := by
  unfold State.holdEnd; dsimp only; split <;> rfl
@[simp] theorem State.holdEnd_aoclk : s.holdEnd.aoclk = s.aoclk := by
  unfold State.holdEnd; dsimp only; split <;> rfl
@[simp] theorem State.holdEnd_rdata : s.holdEnd.rdata = s.rdata := by
  unfold State.holdEnd; dsimp only; split <;> rfl
@[simp] theorem State.holdEnd_snf : s.holdEnd.snf = s.snf := by
  unfold State.holdEnd; dsimp only; split <;> rfl
@[simp] theorem State.holdEnd_flt : s.holdEnd.flt = s.flt := by
  unfold State.holdEnd; dsimp only; split <;> rfl
@[simp] theorem State.holdEnd_lock : s.holdEnd.lock = s.lock := by
  unfold State.holdEnd; dsimp only; split <;> rfl
@[simp] theorem State.holdEnd_mc : s.holdEnd.mc = s.mc := by
  unfold State.holdEnd; dsimp only; split <;> rfl
@[simp] theorem State.holdEnd_memi : s.holdEnd.memi = s.memi := by
  unfold State.holdEnd; dsimp only; split <;> rfl
@[simp] theorem State.holdEnd_ce : s.holdEnd.ce = s.ce := by
  unfold State.holdEnd; dsimp only; split <;> rfl
@[simp] theorem State.holdEnd_mon : s.holdEnd.mon = s.mon := by
  unfold State.holdEnd; dsimp only; split <;> rfl
@[simp] theorem State.holdEnd_ports : s.holdEnd.ports = s.ports := by
  unfold State.holdEnd; dsimp only; split <;> rfl
@[simp] theorem State.holdEnd_ring : s.holdEnd.ring = s.ring := by
  unfold State.holdEnd; dsimp only; split <;> rfl
@[simp] theorem State.holdEnd_pm : s.holdEnd.pm = s.pm := by
  unfold State.holdEnd; dsimp only; split <;> rfl
@[simp] theorem State.holdEnd_ks : s.holdEnd.ks = s.ks := by
  unfold State.holdEnd; dsimp only; split <;> rfl
@[simp] theorem State.holdEnd_rng : s.holdEnd.rng = s.rng := by
  unfold State.holdEnd; dsimp only; split <;> rfl
@[simp] theorem State.holdEnd_pins : s.holdEnd.pins = s.pins := by
  unfold State.holdEnd; dsimp only; split <;> rfl
@[simp] theorem State.holdEnd_tap : s.holdEnd.tap = s.tap := by
  unfold State.holdEnd; dsimp only; split <;> rfl
@[simp] theorem State.holdEnd_host : s.holdEnd.host = s.host := by
  unfold State.holdEnd; dsimp only; split <;> rfl
@[simp] theorem State.holdEnd_mgmt : s.holdEnd.mgmt = s.mgmt := by
  unfold State.holdEnd; dsimp only; split <;> rfl

@[simp] theorem State.advance_pending (k : Nat) : (s.advance k).pending = s.pending := by
  unfold State.advance; dsimp only; split <;> simp
@[simp] theorem State.advance_latch (k : Nat) : (s.advance k).latch = s.latch := by
  unfold State.advance; dsimp only; split <;> simp
@[simp] theorem State.advance_mpu (k : Nat) : (s.advance k).mpu = s.mpu := by
  unfold State.advance; dsimp only; split <;> simp
@[simp] theorem State.advance_gpr (k : Nat) : (s.advance k).gpr = s.gpr := by
  unfold State.advance; dsimp only; split <;> simp
@[simp] theorem State.advance_ac (k : Nat) : (s.advance k).ac = s.ac := by
  unfold State.advance; dsimp only; split <;> simp
@[simp] theorem State.advance_mem (k : Nat) : (s.advance k).mem = s.mem := by
  unfold State.advance; dsimp only; split <;> simp
@[simp] theorem State.advance_syn (k : Nat) : (s.advance k).syn = s.syn := by
  unfold State.advance; dsimp only; split <;> simp
@[simp] theorem State.advance_aoclk (k : Nat) : (s.advance k).aoclk = s.aoclk := by
  unfold State.advance; dsimp only; split <;> simp
@[simp] theorem State.advance_rdata (k : Nat) : (s.advance k).rdata = s.rdata := by
  unfold State.advance; dsimp only; split <;> simp
@[simp] theorem State.advance_snf (k : Nat) : (s.advance k).snf = s.snf := by
  unfold State.advance; dsimp only; split <;> simp
@[simp] theorem State.advance_flt (k : Nat) : (s.advance k).flt = s.flt := by
  unfold State.advance; dsimp only; split <;> simp
@[simp] theorem State.advance_lock (k : Nat) : (s.advance k).lock = s.lock := by
  unfold State.advance; dsimp only; split <;> simp
@[simp] theorem State.advance_mc (k : Nat) : (s.advance k).mc = s.mc := by
  unfold State.advance; dsimp only; split <;> simp
@[simp] theorem State.advance_memi (k : Nat) : (s.advance k).memi = s.memi := by
  unfold State.advance; dsimp only; split <;> simp
@[simp] theorem State.advance_ce (k : Nat) : (s.advance k).ce = s.ce := by
  unfold State.advance; dsimp only; split <;> simp
@[simp] theorem State.advance_mon (k : Nat) : (s.advance k).mon = s.mon := by
  unfold State.advance; dsimp only; split <;> simp
@[simp] theorem State.advance_ports (k : Nat) : (s.advance k).ports = s.ports := by
  unfold State.advance; dsimp only; split <;> simp
@[simp] theorem State.advance_ring (k : Nat) : (s.advance k).ring = s.ring := by
  unfold State.advance; dsimp only; split <;> simp
@[simp] theorem State.advance_pm (k : Nat) : (s.advance k).pm = s.pm := by
  unfold State.advance; dsimp only; split <;> simp
@[simp] theorem State.advance_ks (k : Nat) : (s.advance k).ks = s.ks := by
  unfold State.advance; dsimp only; split <;> simp
@[simp] theorem State.advance_rng (k : Nat) : (s.advance k).rng = s.rng := by
  unfold State.advance; dsimp only; split <;> simp
@[simp] theorem State.advance_pins (k : Nat) : (s.advance k).pins = s.pins := by
  unfold State.advance; dsimp only; split <;> simp
@[simp] theorem State.advance_tap (k : Nat) : (s.advance k).tap = s.tap := by
  unfold State.advance; dsimp only; split <;> simp
@[simp] theorem State.advance_host (k : Nat) : (s.advance k).host = s.host := by
  unfold State.advance; dsimp only; split <;> simp
@[simp] theorem State.advance_mgmt (k : Nat) : (s.advance k).mgmt = s.mgmt := by
  unfold State.advance; dsimp only; split <;> simp

@[simp] theorem State.holdEnd_rd (a : Nat) (h : a ≠ IC_HOLDMAX) : s.holdEnd.rd a = s.rd a := by
  unfold State.holdEnd
  dsimp only
  split <;> simp [State.rd_def, State.put, State.wr, Store.get_set, h, State.putStatus, State.csrPut, State.onCore]

@[simp] theorem State.advance_rd (k a : Nat) (h : a ≠ IC_HOLDMAX) : (s.advance k).rd a = s.rd a := by
  unfold State.advance; dsimp only; split <;> simp [State.rd_def]
  · rw [← State.rd_def, State.holdEnd_rd _ _ h]; rfl

theorem State.holdEnd_csr (n : Nat) : s.holdEnd.csrRaw n = if n = 0 then putFld (s.csrRaw 0) 12 1 0 else s.csrRaw n := by
  unfold State.holdEnd
  dsimp only
  split <;> rw [State.csrRaw_putStatus] <;> rfl

@[simp] theorem State.csrRaw_onCore (g : Core → Core) (n : Nat) : (s.onCore g).csrRaw n = s.csrRaw n := rfl
@[simp] theorem State.rd_onCore (g : Core → Core) (a : Nat) : (s.onCore g).rd a = s.rd a := rfl
@[simp] theorem State.csrRaw_freed (n : Nat) : s.freed.csrRaw n = s.csrRaw n := rfl
@[simp] theorem State.rd_freed (a : Nat) : s.freed.rd a = s.rd a := rfl
@[simp] theorem State.holdEnd_pc : s.holdEnd.core.pc = s.core.pc := by
  unfold State.holdEnd; dsimp only; split <;> rfl
@[simp] theorem State.holdEnd_cycle : s.holdEnd.core.cycle = s.core.cycle := by
  unfold State.holdEnd; dsimp only; split <;> rfl

theorem State.sameCsr_refl : s.sameCsr s := ⟨fun _ _ => rfl, fun _ _ => rfl⟩

theorem State.holdEnd_sameCsr : s.sameCsr s.holdEnd := by
  constructor
  · intro n hn; rw [State.holdEnd_csr, if_neg hn]
  · intro i hi
    rw [State.holdEnd_csr, if_pos rfl, bitOf_putFld, if_neg (by omega)]

theorem State.advance_sameCsr (k : Nat) : s.sameCsr (s.advance k) := by
  unfold State.advance
  dsimp only
  split
  · exact State.holdEnd_sameCsr _
  · exact State.sameCsr_refl _

@[simp] theorem State.advance_pc (k : Nat) : (s.advance k).core.pc = s.core.pc := by
  unfold State.advance; dsimp only; split <;> simp
@[simp] theorem State.advance_cycle (k : Nat) : (s.advance k).core.cycle = s.core.cycle + k := by
  unfold State.advance; dsimp only; split <;> simp

theorem State.holdEnd_stays :
    s.holdEnd.core.stations = s.core.stations ∧ s.holdEnd.core.inReset = s.core.inReset ∧
    s.holdEnd.core.stepArmed = s.core.stepArmed ∧ s.holdEnd.core.sb = s.core.sb ∧
    s.holdEnd.core.wfi = s.core.wfi ∧ s.holdEnd.core.stopped = s.core.stopped ∧ s.holdEnd.core.lines = s.core.lines := by
  unfold State.holdEnd; dsimp only; split <;> exact ⟨rfl, rfl, rfl, rfl, rfl, rfl, rfl⟩

/-- What no passing of time changes. -/
theorem State.advance_stays (k : Nat) :
    (s.advance k).core.stations = s.core.stations ∧ (s.advance k).core.inReset = s.core.inReset ∧
    (s.advance k).core.stepArmed = s.core.stepArmed ∧ (s.advance k).core.sb = s.core.sb ∧
    (s.advance k).core.wfi = s.core.wfi ∧ (s.advance k).core.stopped = s.core.stopped ∧
    (s.advance k).core.lines = s.core.lines := by
  unfold State.advance
  dsimp only
  split
  · exact State.holdEnd_stays _
  · exact ⟨rfl, rfl, rfl, rfl, rfl, rfl, rfl⟩

@[simp] theorem State.spend_pending (n : Nat) : (s.spend n).pending = s.pending := by
  unfold State.spend; split <;> simp
@[simp] theorem State.spend_latch (n : Nat) : (s.spend n).latch = s.latch := by
  unfold State.spend; split <;> simp
@[simp] theorem State.spend_mpu (n : Nat) : (s.spend n).mpu = s.mpu := by
  unfold State.spend; split <;> simp
@[simp] theorem State.spend_gpr (n : Nat) : (s.spend n).gpr = s.gpr := by
  unfold State.spend; split <;> simp
@[simp] theorem State.spend_ac (n : Nat) : (s.spend n).ac = s.ac := by
  unfold State.spend; split <;> simp
@[simp] theorem State.spend_mem (n : Nat) : (s.spend n).mem = s.mem := by
  unfold State.spend; split <;> simp
@[simp] theorem State.spend_syn (n : Nat) : (s.spend n).syn = s.syn := by
  unfold State.spend; split <;> simp
@[simp] theorem State.spend_aoclk (n : Nat) : (s.spend n).aoclk = s.aoclk := by
  unfold State.spend; split <;> simp
@[simp] theorem State.spend_rdata (n : Nat) : (s.spend n).rdata = s.rdata := by
  unfold State.spend; split <;> simp
@[simp] theorem State.spend_snf (n : Nat) : (s.spend n).snf = s.snf := by
  unfold State.spend; split <;> simp
@[simp] theorem State.spend_flt (n : Nat) : (s.spend n).flt = s.flt := by
  unfold State.spend; split <;> simp
@[simp] theorem State.spend_lock (n : Nat) : (s.spend n).lock = s.lock := by
  unfold State.spend; split <;> simp
@[simp] theorem State.spend_mc (n : Nat) : (s.spend n).mc = s.mc := by
  unfold State.spend; split <;> simp
@[simp] theorem State.spend_memi (n : Nat) : (s.spend n).memi = s.memi := by
  unfold State.spend; split <;> simp
@[simp] theorem State.spend_ce (n : Nat) : (s.spend n).ce = s.ce := by
  unfold State.spend; split <;> simp
@[simp] theorem State.spend_mon (n : Nat) : (s.spend n).mon = s.mon := by
  unfold State.spend; split <;> simp
@[simp] theorem State.spend_ports (n : Nat) : (s.spend n).ports = s.ports := by
  unfold State.spend; split <;> simp
@[simp] theorem State.spend_ring (n : Nat) : (s.spend n).ring = s.ring := by
  unfold State.spend; split <;> simp
@[simp] theorem State.spend_pm (n : Nat) : (s.spend n).pm = s.pm := by
  unfold State.spend; split <;> simp
@[simp] theorem State.spend_ks (n : Nat) : (s.spend n).ks = s.ks := by
  unfold State.spend; split <;> simp
@[simp] theorem State.spend_rng (n : Nat) : (s.spend n).rng = s.rng := by
  unfold State.spend; split <;> simp
@[simp] theorem State.spend_pins (n : Nat) : (s.spend n).pins = s.pins := by
  unfold State.spend; split <;> simp
@[simp] theorem State.spend_tap (n : Nat) : (s.spend n).tap = s.tap := by
  unfold State.spend; split <;> simp
@[simp] theorem State.spend_host (n : Nat) : (s.spend n).host = s.host := by
  unfold State.spend; split <;> simp
@[simp] theorem State.spend_mgmt (n : Nat) : (s.spend n).mgmt = s.mgmt := by
  unfold State.spend; split <;> simp

@[simp] theorem State.spend_rd (n a : Nat) (h : a ≠ IC_HOLDMAX) : (s.spend n).rd a = s.rd a := by
  unfold State.spend; split <;> simp [h]
@[simp] theorem State.spend_pc (n : Nat) : (s.spend n).core.pc = s.core.pc := by
  unfold State.spend; split <;> simp
theorem State.spend_cycle (n : Nat) (h : s.det = true) : (s.spend n).core.cycle = s.core.cycle + n := by
  unfold State.spend; rw [if_pos h]; simp
theorem State.spend_sameCsr (n : Nat) : s.sameCsr (s.spend n) := by
  unfold State.spend
  split
  · exact s.advance_sameCsr n
  · exact State.advance_sameCsr s.freed _
theorem State.spend_stays (n : Nat) :
    (s.spend n).core.stations = s.core.stations ∧ (s.spend n).core.inReset = s.core.inReset ∧
    (s.spend n).core.stepArmed = s.core.stepArmed ∧ (s.spend n).core.sb = s.core.sb ∧
    (s.spend n).core.wfi = s.core.wfi ∧ (s.spend n).core.stopped = s.core.stopped ∧
    (s.spend n).core.lines = s.core.lines := by
  unfold State.spend
  split
  · exact s.advance_stays n
  · exact State.advance_stays s.freed _

/-! ## Retirement -/

@[simp] theorem State.retireSeq_pending (n : Nat) : (s.retireSeq n).pending = s.pending := by
  simp [State.retireSeq, State.passDivides]
@[simp] theorem State.retireSeq_latch (n : Nat) : (s.retireSeq n).latch = s.latch := by
  simp [State.retireSeq, State.passDivides]
@[simp] theorem State.retireSeq_mpu (n : Nat) : (s.retireSeq n).mpu = s.mpu := by
  simp [State.retireSeq, State.passDivides]
@[simp] theorem State.retireSeq_gpr (n : Nat) : (s.retireSeq n).gpr = s.gpr := by
  simp [State.retireSeq, State.passDivides]
@[simp] theorem State.retireSeq_ac (n : Nat) : (s.retireSeq n).ac = s.ac := by
  simp [State.retireSeq, State.passDivides]
@[simp] theorem State.retireSeq_mem (n : Nat) : (s.retireSeq n).mem = s.mem := by
  simp [State.retireSeq, State.passDivides]
@[simp] theorem State.retireSeq_syn (n : Nat) : (s.retireSeq n).syn = s.syn := by
  simp [State.retireSeq, State.passDivides]
@[simp] theorem State.retireSeq_aoclk (n : Nat) : (s.retireSeq n).aoclk = s.aoclk := by
  simp [State.retireSeq, State.passDivides]
@[simp] theorem State.retireSeq_rdata (n : Nat) : (s.retireSeq n).rdata = s.rdata := by
  simp [State.retireSeq, State.passDivides]
@[simp] theorem State.retireSeq_snf (n : Nat) : (s.retireSeq n).snf = s.snf := by
  simp [State.retireSeq, State.passDivides]
@[simp] theorem State.retireSeq_flt (n : Nat) : (s.retireSeq n).flt = s.flt := by
  simp [State.retireSeq, State.passDivides]
@[simp] theorem State.retireSeq_lock (n : Nat) : (s.retireSeq n).lock = s.lock := by
  simp [State.retireSeq, State.passDivides]
@[simp] theorem State.retireSeq_mc (n : Nat) : (s.retireSeq n).mc = s.mc := by
  simp [State.retireSeq, State.passDivides]
@[simp] theorem State.retireSeq_memi (n : Nat) : (s.retireSeq n).memi = s.memi := by
  simp [State.retireSeq, State.passDivides]
@[simp] theorem State.retireSeq_ce (n : Nat) : (s.retireSeq n).ce = s.ce := by
  simp [State.retireSeq, State.passDivides]
@[simp] theorem State.retireSeq_mon (n : Nat) : (s.retireSeq n).mon = s.mon := by
  simp [State.retireSeq, State.passDivides]
@[simp] theorem State.retireSeq_ports (n : Nat) : (s.retireSeq n).ports = s.ports := by
  simp [State.retireSeq, State.passDivides]
@[simp] theorem State.retireSeq_ring (n : Nat) : (s.retireSeq n).ring = s.ring := by
  simp [State.retireSeq, State.passDivides]
@[simp] theorem State.retireSeq_pm (n : Nat) : (s.retireSeq n).pm = s.pm := by
  simp [State.retireSeq, State.passDivides]
@[simp] theorem State.retireSeq_ks (n : Nat) : (s.retireSeq n).ks = s.ks := by
  simp [State.retireSeq, State.passDivides]
@[simp] theorem State.retireSeq_rng (n : Nat) : (s.retireSeq n).rng = s.rng := by
  simp [State.retireSeq, State.passDivides]
@[simp] theorem State.retireSeq_pins (n : Nat) : (s.retireSeq n).pins = s.pins := by
  simp [State.retireSeq, State.passDivides]
@[simp] theorem State.retireSeq_tap (n : Nat) : (s.retireSeq n).tap = s.tap := by
  simp [State.retireSeq, State.passDivides]
@[simp] theorem State.retireSeq_host (n : Nat) : (s.retireSeq n).host = s.host := by
  simp [State.retireSeq, State.passDivides]
@[simp] theorem State.retireSeq_mgmt (n : Nat) : (s.retireSeq n).mgmt = s.mgmt := by
  simp [State.retireSeq, State.passDivides]
@[simp] theorem State.retireTo_pending (n : Nat) (a : Word) : (s.retireTo n a).pending = s.pending := by
  unfold State.retireTo; dsimp only; split <;> simp [State.passDivides]
@[simp] theorem State.retireTo_latch (n : Nat) (a : Word) : (s.retireTo n a).latch = s.latch := by
  unfold State.retireTo; dsimp only; split <;> simp [State.passDivides]
@[simp] theorem State.retireTo_mpu (n : Nat) (a : Word) : (s.retireTo n a).mpu = s.mpu := by
  unfold State.retireTo; dsimp only; split <;> simp [State.passDivides]
@[simp] theorem State.retireTo_gpr (n : Nat) (a : Word) : (s.retireTo n a).gpr = s.gpr := by
  unfold State.retireTo; dsimp only; split <;> simp [State.passDivides]
@[simp] theorem State.retireTo_ac (n : Nat) (a : Word) : (s.retireTo n a).ac = s.ac := by
  unfold State.retireTo; dsimp only; split <;> simp [State.passDivides]
@[simp] theorem State.retireTo_mem (n : Nat) (a : Word) : (s.retireTo n a).mem = s.mem := by
  unfold State.retireTo; dsimp only; split <;> simp [State.passDivides]
@[simp] theorem State.retireTo_syn (n : Nat) (a : Word) : (s.retireTo n a).syn = s.syn := by
  unfold State.retireTo; dsimp only; split <;> simp [State.passDivides]
@[simp] theorem State.retireTo_aoclk (n : Nat) (a : Word) : (s.retireTo n a).aoclk = s.aoclk := by
  unfold State.retireTo; dsimp only; split <;> simp [State.passDivides]
@[simp] theorem State.retireTo_rdata (n : Nat) (a : Word) : (s.retireTo n a).rdata = s.rdata := by
  unfold State.retireTo; dsimp only; split <;> simp [State.passDivides]
@[simp] theorem State.retireTo_snf (n : Nat) (a : Word) : (s.retireTo n a).snf = s.snf := by
  unfold State.retireTo; dsimp only; split <;> simp [State.passDivides]
@[simp] theorem State.retireTo_flt (n : Nat) (a : Word) : (s.retireTo n a).flt = s.flt := by
  unfold State.retireTo; dsimp only; split <;> simp [State.passDivides]
@[simp] theorem State.retireTo_lock (n : Nat) (a : Word) : (s.retireTo n a).lock = s.lock := by
  unfold State.retireTo; dsimp only; split <;> simp [State.passDivides]
@[simp] theorem State.retireTo_mc (n : Nat) (a : Word) : (s.retireTo n a).mc = s.mc := by
  unfold State.retireTo; dsimp only; split <;> simp [State.passDivides]
@[simp] theorem State.retireTo_memi (n : Nat) (a : Word) : (s.retireTo n a).memi = s.memi := by
  unfold State.retireTo; dsimp only; split <;> simp [State.passDivides]
@[simp] theorem State.retireTo_ce (n : Nat) (a : Word) : (s.retireTo n a).ce = s.ce := by
  unfold State.retireTo; dsimp only; split <;> simp [State.passDivides]
@[simp] theorem State.retireTo_mon (n : Nat) (a : Word) : (s.retireTo n a).mon = s.mon := by
  unfold State.retireTo; dsimp only; split <;> simp [State.passDivides]
@[simp] theorem State.retireTo_ports (n : Nat) (a : Word) : (s.retireTo n a).ports = s.ports := by
  unfold State.retireTo; dsimp only; split <;> simp [State.passDivides]
@[simp] theorem State.retireTo_ring (n : Nat) (a : Word) : (s.retireTo n a).ring = s.ring := by
  unfold State.retireTo; dsimp only; split <;> simp [State.passDivides]
@[simp] theorem State.retireTo_pm (n : Nat) (a : Word) : (s.retireTo n a).pm = s.pm := by
  unfold State.retireTo; dsimp only; split <;> simp [State.passDivides]
@[simp] theorem State.retireTo_ks (n : Nat) (a : Word) : (s.retireTo n a).ks = s.ks := by
  unfold State.retireTo; dsimp only; split <;> simp [State.passDivides]
@[simp] theorem State.retireTo_rng (n : Nat) (a : Word) : (s.retireTo n a).rng = s.rng := by
  unfold State.retireTo; dsimp only; split <;> simp [State.passDivides]
@[simp] theorem State.retireTo_pins (n : Nat) (a : Word) : (s.retireTo n a).pins = s.pins := by
  unfold State.retireTo; dsimp only; split <;> simp [State.passDivides]
@[simp] theorem State.retireTo_tap (n : Nat) (a : Word) : (s.retireTo n a).tap = s.tap := by
  unfold State.retireTo; dsimp only; split <;> simp [State.passDivides]
@[simp] theorem State.retireTo_host (n : Nat) (a : Word) : (s.retireTo n a).host = s.host := by
  unfold State.retireTo; dsimp only; split <;> simp [State.passDivides]
@[simp] theorem State.retireTo_mgmt (n : Nat) (a : Word) : (s.retireTo n a).mgmt = s.mgmt := by
  unfold State.retireTo; dsimp only; split <;> simp [State.passDivides]

@[simp] theorem State.retireSeq_rd (n a : Nat) (h : a ≠ IC_HOLDMAX) : (s.retireSeq n).rd a = s.rd a := by
  simp [State.retireSeq, State.passDivides, h]
@[simp] theorem State.retireTo_rd (n a : Nat) (w : Word) (h : a ≠ IC_HOLDMAX) : (s.retireTo n w).rd a = s.rd a := by
  unfold State.retireTo; dsimp only; split <;> simp [State.passDivides, h]
@[simp] theorem State.retireSeq_reg (n r : Nat) : (s.retireSeq n).reg r = s.reg r := State.reg_congr (by simp) r
@[simp] theorem State.retireTo_reg (n r : Nat) (w : Word) : (s.retireTo n w).reg r = s.reg r := State.reg_congr (by simp) r
theorem State.retireSeq_sameCsr (n : Nat) : s.sameCsr (s.retireSeq n) := s.spend_sameCsr _
theorem State.retireTo_sameCsr (n : Nat) (w : Word) : s.sameCsr (s.retireTo n w) := by
  unfold State.retireTo
  dsimp only
  split
  · exact State.spend_sameCsr (s.onCore fun c => { c with lines := [] }) _
  · exact s.spend_sameCsr _
theorem State.retireSeq_wentOn (n : Nat) : s.wentOn (s.retireSeq n) n := by
  refine ⟨rfl, fun h => ?_⟩
  show (s.spend _).core.cycle = _
  rw [s.spend_cycle _ h, Nat.add_assoc, State.fetchAdds, if_pos h]
theorem State.retireTo_wentTo (n : Nat) (a : Word) : s.wentTo (s.retireTo n a) n a := by
  refine ⟨rfl, fun h => ?_⟩
  unfold State.retireTo
  rw [if_pos h]
  have e : (s.onCore fun c => { c with lines := [] }).det = true := h
  show (State.spend _ _).core.cycle = _
  rw [State.spend_cycle _ _ e]
  simp [State.fetchAdds, State.fetchCost, e, Nat.add_assoc]
@[simp] theorem State.retireSeq_inReset (n : Nat) : (s.retireSeq n).core.inReset = s.core.inReset := (s.spend_stays _).2.1
@[simp] theorem State.retireSeq_stepArmed (n : Nat) : (s.retireSeq n).core.stepArmed = s.core.stepArmed := (s.spend_stays _).2.2.1
@[simp] theorem State.retireTo_inReset (n : Nat) (a : Word) : (s.retireTo n a).core.inReset = s.core.inReset := by
  unfold State.retireTo; dsimp only; split <;> exact (State.spend_stays _ _).2.1
@[simp] theorem State.retireTo_stepArmed (n : Nat) (a : Word) : (s.retireTo n a).core.stepArmed = s.core.stepArmed := by
  unfold State.retireTo; dsimp only; split <;> exact (State.spend_stays _ _).2.2.1

theorem State.limp_congr {s t : State} (h : t.rd FLT_STAT = s.rd FLT_STAT) : t.limp = s.limp := by
  have e : t.rd FLT_STAT_LIMP.addr = s.rd FLT_STAT_LIMP.addr := h
  unfold State.limp State.is State.get; rw [e]

/-! ## Frames -/

theorem State.sameUnits_refl : s.sameUnits s := by simp [State.sameUnits]
theorem State.sameMem_refl : s.sameMem s := ⟨fun _ => rfl, fun _ => rfl⟩
theorem State.samePeriph_refl : s.samePeriph s := ⟨fun _ _ => rfl, rfl⟩

theorem State.retireSeq_same (n : Nat) : s.sameButRegs (s.retireSeq n) :=
  ⟨by simp [State.sameUnits], ⟨fun a => State.byteAt_congr (by simp) a, fun u => by simp [State.codeAt]⟩,
    ⟨fun a h => s.retireSeq_rd n a h, by simp⟩, s.retireSeq_sameCsr n⟩

theorem State.retireTo_same (n : Nat) (w : Word) : s.sameButRegs (s.retireTo n w) :=
  ⟨by simp [State.sameUnits], ⟨fun a => State.byteAt_congr (by simp) a, fun u => by simp [State.codeAt]⟩,
    ⟨fun a h => s.retireTo_rd n a w h, by simp⟩, s.retireTo_sameCsr n w⟩

/-! ## The frame of an instruction -/

/-- An instruction whose word is fetched runs its body on what the fetch leaves. -/
theorem State.instr_fetches {s f : State} {l : List Nat} {body : State → State} (h : s.fetches f)
    (h1 : (body f).core.inReset = false) (h2 : (body f).limp = f.limp) (h3 : (body f).core.stepArmed = false) :
    s.instr l body = body f := by
  obtain ⟨hi, hb, hs, hf, -, hr, hl, -⟩ := h
  have hrd : s.ready l = true := by simp [State.ready, hs]
  have hland : ∀ p, s.land p = s := by intro p; unfold State.land; rw [hs]; rfl
  have hw : s.landWait l = s := by unfold State.landWait; rw [hs]; rfl
  have e : (s.limp && !s.limp) = false := by cases s.limp <;> rfl
  unfold State.instr
  rw [hi, hrd, hb, hw]
  simp only [Bool.not_true, Bool.or_self, Bool.false_eq_true, if_false, hland, ite_self, hf]
  have hc : s.cut f = false := by rw [State.cut, hr, hl, e]; rfl
  simp only [hc, Bool.false_eq_true, if_false, State.settle, h1, h2, hl, e, State.stepEnd, h3, Bool.not_false, Bool.true_or, if_true]

end Sys2Proof.Machine
end

