-- ==== Sys2Proof/WellFormed.lean ====
section
/-! DEFINITION. Which commands can be given: indices within the unit count of their table, and Ring frames with the LEN of
Table 13.3. A command that is not well formed leaves the state unchanged or, for a frame, is a bad frame (R354). -/
namespace Sys2Proof

/-- A command whose operands lie within the tables of the spec. -/
def Instr.wf : Instr → Bool
  | .registerWrite _ _ _ _ => true
  | .admission _ _ _ => true
  | .contestLimit _ _ => true
  | .faultCapture _ _ _ => true
  | .rstcntClear => true
  | .logBufferFlush => true
  | .fltPendClear _ _ => true
  | .snufferReadback _ => true
  | .snufferSelfCheck _ => true
  | .clockLoss => true
  | .snufferSupplyOutOfRange _ => true
  | .snfSwsnuff _ => true
  | .snfUnsnuff _ => true
  | .snfChalrsp _ => true
  | .unsnuffLate => true
  | .holdoffExpiry n => decide (n.toNat < 24)
  | .snfWwdkick _ => true
  | .windowedWatchdogClose => true
  | .snfQawans _ => true
  | .qaWatchdogClose => true
  | .snfWdcfgWrite _ _ _ => true
  | .fltInjkey _ => true
  | .injkeyExpiry => true
  | .fltInj _ _ => true
  | .checkVectorCompare _ _ _ => true
  | .engineVectorCompare _ _ => true
  | .rollingSignature _ _ _ => true
  | .rekindle _ => true
  | .rekindleVerify _ _ _ => true
  | .rekindleTimeout => true
  | .lntModeWrite _ _ => true
  | .lntJoin _ _ => true
  | .lanternSelfTest _ => true
  | .haltreq => true
  | .breakpoint _ => true
  | .dbgStep => true
  | .dbgResume => true
  | .dbgRegdata _ => true
  | .interruptEntry => true
  | .exceptionEntry _ _ _ => true
  | .stationResult _ => true
  | .tagWaitTimeout _ => true
  | .storeBufferCommit => true
  | .impreciseStoreError _ => true
  | .illegalInstruction _ => true
  | .add _ _ _ => true
  | .sub _ _ _ => true
  | .andr _ _ _ => true
  | .orr _ _ _ => true
  | .xorr _ _ _ => true
  | .nor _ _ _ => true
  | .shl _ _ _ => true
  | .shr _ _ _ => true
  | .sar _ _ _ => true
  | .ror _ _ _ => true
  | .slt _ _ _ => true
  | .sltu _ _ _ => true
  | .seq _ _ _ => true
  | .min _ _ _ => true
  | .max _ _ _ => true
  | .minu _ _ _ => true
  | .maxu _ _ _ => true
  | .mul _ _ _ => true
  | .mulh _ _ _ => true
  | .mulhu _ _ _ => true
  | .div _ _ _ => true
  | .divu _ _ _ => true
  | .rem _ _ _ => true
  | .remu _ _ _ => true
  | .mac _ _ _ => true
  | .macu _ _ _ => true
  | .acrl _ _ => true
  | .acrh _ _ => true
  | .acw _ _ _ => true
  | .acclr _ => true
  | .addi _ _ _ => true
  | .andi _ _ _ => true
  | .ori _ _ _ => true
  | .xori _ _ _ => true
  | .slti _ _ _ => true
  | .sltiu _ _ _ => true
  | .shli _ _ _ => true
  | .shri _ _ _ => true
  | .sari _ _ _ => true
  | .rori _ _ _ => true
  | .lui _ _ => true
  | .ldw _ _ _ => true
  | .ldh _ _ _ => true
  | .ldhu _ _ _ => true
  | .ldb _ _ _ => true
  | .ldbu _ _ _ => true
  | .stw _ _ _ => true
  | .sth _ _ _ => true
  | .stb _ _ _ => true
  | .beq _ _ _ => true
  | .bne _ _ _ => true
  | .blt _ _ _ => true
  | .bge _ _ _ => true
  | .bltu _ _ _ => true
  | .bgeu _ _ _ => true
  | .jmp _ => true
  | .call _ => true
  | .jr _ _ => true
  | .callr _ _ => true
  | .ret => true
  | .csrr _ _ => true
  | .csrw _ _ => true
  | .modeWrite _ => true
  | .gate _ => true
  | .gret => true
  | .iret => true
  | .syncBar => true
  | .iflush => true
  | .mbar => true
  | .mpuswap => true
  | .scrub _ => true
  | .wfi => true
  | .xop _ _ _ => true
  | .chissue _ _ => true
  | .chissueResult => true
  | .chwait _ _ _ => true
  | .bkpt _ => true
  | .microTrap _ _ => true
  | .controlStoreScan => true
  | .mcCsctlRd => true
  | .mcCsctlWr => true
  | .icVcfgSw _ => true
  | .holdExpiry => true
  | .mpuRegisterWrite _ _ _ => true
  | .flashProgram _ => true
  | .flashErase _ => true
  | .blankCheck _ => true
  | .flashOperationComplete _ => true
  | .flcLock _ _ => true
  | .writeBack b => decide (b.toNat < 5)
  | .scrubRead b => decide (b.toNat < 5)
  | .scrubStarvation => true
  | .doorbell _ _ _ => true
  | .ceQcfgWrite _ _ _ => true
  | .ceCtlWrite _ _ => true
  | .queueEntryFetch => true
  | .tagStallResume _ => true
  | .directLaneIssue => true
  | .ceNop _ => true
  | .portRead _ => true
  | .portWrite _ => true
  | .portXfer _ => true
  | .monArm _ => true
  | .monSample _ => true
  | .adcConvert _ => true
  | .waitEvent _ => true
  | .timerSet _ => true
  | .ringSend _ => true
  | .authNonce _ => true
  | .ceBarrier _ => true
  | .create _ => true
  | .destroy _ => true
  | .ledgerRead _ => true
  | .ledgerHold _ => true
  | .completion _ => true
  | .operationTimeout _ => true
  | .timerExpiry _ => true
  | .ceEvent _ _ _ => true
  | .sliceThresholdCrossing _ _ => true
  | .deglitch _ _ => true
  | .voterDisagreement _ => true
  | .rateRecapture _ => true
  | .sliceSelfCheck _ _ => true
  | .monThrWrite _ _ _ => true
  | .monRestart _ => true
  | .monWsetWrite _ _ _ => true
  | .scanTick => true
  | .sliceSettled _ => true
  | .conversionComplete _ _ => true
  | .calibrationStep _ => true
  | .calibrationOverdue _ => true
  | .referenceCheck _ _ => true
  | .portTransaction _ _ => true
  | .txtmo _ => true
  | .busLowTimeout _ => true
  | .busRecovery _ _ _ => true
  | .portRecover _ => true
  | .portRestart _ => true
  | .portDaa _ _ => true
  | .portAlert _ _ => true
  | .arbitrationLost _ => true
  | .inBandInterrupt _ _ _ => true
  | .hotJoin _ => true
  | .smbusAlert _ _ => true
  | .hostNotify _ _ _ => true
  | .targetWrite _ _ => true
  | .targetRead _ _ _ => true
  | .uartReceive _ _ _ => true
  | .uartReceiveEvent _ => true
  | .portPcmdRd => true
  | .portPcmdWr _ => true
  | .portPcmdRestart => true
  | .prbsCheck k _ => decide (k.toNat ≤ 18)
  | .tstCtlWrite _ k _ => decide (k.toNat ≤ 18)
  | .gpInput n _ => decide (n.toNat < 40)
  | .linkin => true
  | .ringLinkLoss => true
  | .badFrame _ => true
  | .ringBeat f => decide (f.payload.length = 18)
  | .beatSend => true
  | .ringMemberLost _ => true
  | .beatTimeout => true
  | .ringEnum f => decide (f.payload.length = 9)
  | .enumResend => true
  | .noenum => true
  | .ringWreq f => decide (f.payload.length = 4)
  | .ringRreq f => f.payload.isEmpty
  | .ringResp f => f.payload.isEmpty || decide (f.payload.length = 4)
  | .busyResend _ => true
  | .remoteTimeout _ => true
  | .ringMsg f => decide (1 ≤ f.payload.length) && decide (f.payload.length ≤ 56)
  | .sendFragmentTimeout _ => true
  | .ringSnuff _ _ => true
  | .snufftx => true
  | .snuffRepeat => true
  | .snuffForget _ => true
  | .ringEnumWrite => true
  | .ringMrst _ => true
  | .ringPair f => decide (f.payload.length = 4)
  | .pairSend => true
  | .pairFormationTimeout => true
  | .pairHeartbeatLoss => true
  | .ringYield _ => true
  | .ringPctlYield => true
  | .ringPctlResync => true
  | .ringMirror f => decide (4 ≤ f.payload.length) && decide (f.payload.length ≤ 56) && decide (f.payload.length % 4 = 0)
  | .mirrorSync => true
  | .ringMflush => true
  | .hostWrite _ => true
  | .hostRead _ _ => true
  | .hostWake => true
  | .i3cPointerWrite _ => true
  | .hostSqdb _ _ => true
  | .hostCqdb _ _ => true
  | .hostH2d _ _ => true
  | .hostD2h _ _ => true
  | .hostMbirqRestart _ => true
  | .mgmtIdent => true
  | .mgmtState => true
  | .mgmtLidx _ => true
  | .mgmtLedger => true
  | .mgmtLogidx _ => true
  | .mgmtLog => true
  | .mgmtPend => true
  | .mgmtHold _ => true
  | .mgmtHoldres => true
  | .mgmtPreq _ => true
  | .mgmtPres => true
  | .mgmtClamp => true
  | .mgmtResponseTimeout _ => true
  | .mgmtPresWrite _ _ => true
  | .sysClampcntClr _ _ => true
  | .pmReqWrite _ _ => true
  | .powerStateEntry => true
  | .wake _ => true
  | .wakePin _ => true
  | .vmainWarning _ => true
  | .vmainReset => true
  | .powerOn => true
  | .wickSwitchover _ => true
  | .coreUndervoltage _ => true
  | .coreOvervoltage _ => true
  | .dieOverTemperature _ => true
  | .clockMonitor k _ => decide (k.toNat < 6)
  | .pllLossOfLock _ => true
  | .relock _ _ => true
  | .pllbrst => true
  | .pllLock _ _ => true
  | .lockfail _ => true
  | .clkClkoutWrite _ _ => true
  | .wickTick => true
  | .periodicWake => true
  | .wkCntLoRead _ => true
  | .wkCtlWrite _ _ => true
  | .trimInRelease => true
  | .wkCntWrite _ _ _ => true
  | .trimMeasurement => true
  | .trimMeasurementDone _ => true
  | .trimCorrection => true
  | .todate => true
  | .tocnt => true
  | .wickPowerLoss => true
  | .rollbackAdvance _ _ => true
  | .rollbackAdvanceDone => true
  | .resetN _ => true
  | .coldStart _ => true
  | .warmStart _ => true
  | .programRoot _ _ => true
  | .revokeRoot _ _ => true
  | .advanceLifecycle _ _ => true
  | .otpProgramDone => true
  | .keyUpdate _ _ => true
  | .keyUpdateDone _ => true
  | .patchVerify _ _ => true
  | .patchProgram _ _ => true
  | .ksPdata _ _ => true
  | .unlchal => true
  | .unlresp _ => true
  | .denyUnlock _ => true
  | .endUnlock _ => true
  | .healthTestFailure _ => true
  | .rngRestart => true
  | .instantiate => true
  | .rngData _ => true
  | .reseed => true
  | .reseedTimeout => true
  | .vioBankChange _ _ _ => true
  | .extest _ => true
  | .idcode => true
  | .samplePreload _ _ => true
  | .tapClamp => true
  | .highz => true
  | .bypass => true
  | .dbgacc _ _ _ => true
  | .dbgaccComplete => true
  | .lossOfSync => true
  | .ringCtlEn _ _ => true
  | .rcRead _ _ => true
  | .injectionExpiry _ => true
  | .prbsLock x => decide (x.lane.toNat ≤ 18)
  | .trstN => true
  | .entdaa _ => true
  | .setdasa _ _ => true

end Sys2Proof
end

