-- ==== Sys2Proof/Tests/Slice0.lean ====
section
/-! SUPPORT. The model's own tests: what the statements assume is met, decoding, well-formedness, small steps. -/
open Sys2Proof Sys2Proof.Machine
namespace Sys2Proof.Tests
set_option maxRecDepth 8000

/-- Right after release, with a map that grants every master everything and the code in SRAM. -/
def rn : State := { State.reset with regs := [(LNT_STAT, 3)], core := { Core.init with pc := 0x10000000 }, snf := { Snf.init with wdRun := true }, rng := Rng.init, ks := { Ks.init with ringSet := true }, pm := { State.reset.pm with due := 0 }, mpu := [(MPU_BASE 0, 0x1D), (MPU_ATTR 0, 0xFFFFFF20)] }
/-- The same in deterministic mode. -/
def dt : State := rn.csrPut 1 1
/-- A state in which X takes the instruction at the pc and fetch changes nothing. -/
theorem fetches_of (s : State) (h : (s.canIssue && !s.bpStops && s.core.stations.isEmpty && !s.core.inReset && !s.core.stepArmed) = true)
   (hf : s.fetch = .ok s) : s.fetches s := by
 simp only [Bool.and_eq_true, Bool.not_eq_true', List.isEmpty_iff] at h
 obtain ⟨⟨⟨⟨h1, h2⟩, h3⟩, h4⟩, h5⟩ := h
 exact ⟨h1, h2, h3, hf, h3, h4, rfl, h5⟩
/-- The ledger of a state whose stored codes are all proper. -/
theorem ledgerGood_of (s : State) (h : s.syn = []) : s.ledgerGood := by
 intro i
 simp only [State.codeAt, h, Store.get, synReset, CE_LEDGER]
 exact if_neg (by omega)
/-- The partner records of such a state. -/
theorem recordGood_of (s : State) (n : Nat) (h : s.syn = []) : s.recordGood n := by
 intro k _
 simp only [State.codeAt, h, Store.get, synReset, partnerKey]
 exact if_neg (by omega)
theorem rn_fetches : rn.fetches rn := fetches_of rn (by decide) (by rfl)
theorem dt_fetches : dt.fetches dt := fetches_of dt (by decide) (by rfl)
theorem test_meets_RegisterAndImmediateArithmetic_1 :
  ∃ s : State, ∃ f : State,
  (s.fetches f) :=
  ⟨rn, rn, rn_fetches⟩

theorem test_meets_ProductsAndAccumulators_1 :
  ∃ s : State, ∃ f : State,
  (s.fetches f) :=
  ⟨rn, rn, rn_fetches⟩

theorem test_meets_ProductsAndAccumulators_2 :
  ∃ s : State, ∃ f : State,
  (s.fetches f) :=
  ⟨dt, dt, dt_fetches⟩

theorem test_meets_ProductsAndAccumulators_3 :
  ∃ s : State, ∃ f : State,
  (s.fetches f) :=
  ⟨rn, rn, rn_fetches⟩

theorem test_meets_ProductsAndAccumulators_4 :
  ∃ s : State, ∃ f : State,
  (s.fetches f) :=
  ⟨rn, rn, rn_fetches⟩

theorem test_meets_ProductsAndAccumulators_5 :
  ∃ s : State, ∃ f : State,
  (s.fetches f) :=
  ⟨rn, rn, rn_fetches⟩

theorem test_meets_Division_1 :
  ∃ s : State, ∃ f : State,
  (s.fetches f) :=
  ⟨rn, rn, rn_fetches⟩

theorem test_meets_Division_2 :
  ∃ s : State, ∃ f : State,
  (s.fetches f) :=
  ⟨dt, dt, dt_fetches⟩

/-- Deterministic mode with w1 at a word boundary less one byte, and the scratchpad's end in w2. -/
def dl : State := (dt.setReg 1 0x10000103).setReg 2 0x1800FFFC
def rl : State := (rn.setReg 1 0x10000100).setReg 2 0x00000020
theorem dl_fetches : dl.fetches dl := fetches_of dl (by decide) (by rfl)
theorem rl_fetches : rl.fetches rl := fetches_of rl (by decide) (by rfl)
theorem test_meets_MemoryLoads_1 :
  ∃ p, ∃ ra : Reg, ∃ imm : BitVec 16, ∃ s : State, ∃ f : State,
  (p ∈ [(Instr.ldw, 4, fun v : Nat => BitVec.ofNat 32 v), (Instr.ldh, 2, fun v => (BitVec.ofNat 16 v).signExtend 32), (Instr.ldhu, 2, fun v => BitVec.ofNat 32 v), (Instr.ldb, 1, fun v => (BitVec.ofNat 8 v).signExtend 32), (Instr.ldbu, 1, fun v => BitVec.ofNat 32 v)]) ∧
  (s.fetches f) ∧
  let a := (f.reg ra.toNat + imm.signExtend 32).toNat
  let w := a / 4 * 4
  let two : Bool := decide (4 < a % 4 + p.2.1)
  ((inFlash a || inSram a || inScratch a) = true) ∧
  ((f.det || inScratch a) = true) ∧
  (f.core.sb = []) ∧
  (f.refusal .cluster .read a = none) ∧
  (f.plainWord w = true) ∧
  ((two = true → f.barred .cluster .read (w + 4) = false ∧ f.plainWord (w + 4) = true)) :=
  ⟨(Instr.ldw, 4, fun v : Nat => BitVec.ofNat 32 v), 1, 0, dl, dl, List.Mem.head _, dl_fetches, by and_intros <;> decide⟩

theorem test_meets_MemoryLoads_2 :
  ∃ p, ∃ ra : Reg, ∃ imm : BitVec 16, ∃ s : State, ∃ f : State,
  (p ∈ [(Instr.ldw, 4, fun v : Nat => BitVec.ofNat 32 v), (Instr.ldh, 2, fun v => (BitVec.ofNat 16 v).signExtend 32), (Instr.ldhu, 2, fun v => BitVec.ofNat 32 v), (Instr.ldb, 1, fun v => (BitVec.ofNat 8 v).signExtend 32), (Instr.ldbu, 1, fun v => BitVec.ofNat 32 v)]) ∧
  (s.fetches f) ∧
  let a := (f.reg ra.toNat + imm.signExtend 32).toNat
  let w := a / 4 * 4
  let two : Bool := decide (4 < a % 4 + p.2.1)
  ((inFlash a || inSram a || inScratch a) = true) ∧
  ((f.det || inScratch a) = true) ∧
  (f.core.sb = []) ∧
  (f.refusal .cluster .read a = none) ∧
  (f.plainWord w = true) ∧
  ((two = true → f.barred .cluster .read (w + 4) = false ∧ f.plainWord (w + 4) = true)) :=
  ⟨(Instr.ldw, 4, fun v : Nat => BitVec.ofNat 32 v), 2, 0, dl, dl, List.Mem.head _, dl_fetches, by and_intros <;> decide⟩

theorem test_meets_MemoryLoads_3 :
  ∃ p, ∃ ra : Reg, ∃ imm : BitVec 16, ∃ s : State, ∃ f : State,
  (p ∈ [(Instr.ldw, 4, fun v : Nat => BitVec.ofNat 32 v), (Instr.ldh, 2, fun v => (BitVec.ofNat 16 v).signExtend 32), (Instr.ldhu, 2, fun v => BitVec.ofNat 32 v), (Instr.ldb, 1, fun v => (BitVec.ofNat 8 v).signExtend 32), (Instr.ldbu, 1, fun v => BitVec.ofNat 32 v)]) ∧
  (s.fetches f) ∧
  let a := (f.reg ra.toNat + imm.signExtend 32).toNat
  let w := a / 4 * 4
  ((inFlash a || inSram a) = true) ∧
  (f.det = false) ∧
  (a % 4 + p.2.1 ≤ 4) ∧
  (f.core.sb = []) ∧
  (f.refusal .cluster .read a = none) ∧
  (f.plainWord w = true) ∧
  (f.dfind (a / 32 * 32) = none) ∧
  ((∀ k < 8, f.unitClass (a / 32 * 32 + 4 * k) = .good)) ∧
  (f.noInj 0x27 0x27 = true) :=
  ⟨(Instr.ldw, 4, fun v : Nat => BitVec.ofNat 32 v), 1, 0, rl, rl, List.Mem.head _, rl_fetches, by and_intros <;> decide⟩

theorem test_meets_MemoryLoads_4 :
  ∃ p, ∃ ra : Reg, ∃ imm : BitVec 16, ∃ s : State, ∃ f : State,
  (p ∈ [(Instr.ldw, 4, fun v : Nat => BitVec.ofNat 32 v), (Instr.ldh, 2, fun v => (BitVec.ofNat 16 v).signExtend 32), (Instr.ldhu, 2, fun v => BitVec.ofNat 32 v), (Instr.ldb, 1, fun v => (BitVec.ofNat 8 v).signExtend 32), (Instr.ldbu, 1, fun v => BitVec.ofNat 32 v)]) ∧
  (s.fetches f) ∧
  let a := (f.reg ra.toNat + imm.signExtend 32).toNat
  let w := a / 4 * 4
  ((inFlash a || inSram a) = true) ∧
  (f.det = false) ∧
  (a % 4 + p.2.1 ≤ 4) ∧
  (f.core.sb = []) ∧
  (f.refusal .cluster .read a = none) ∧
  (f.plainWord w = true) ∧
  (f.dfind (a / 32 * 32) = none) ∧
  ((∀ k < 8, f.unitClass (a / 32 * 32 + 4 * k) = .good)) ∧
  (f.noInj 0x27 0x27 = true) :=
  ⟨(Instr.ldw, 4, fun v : Nat => BitVec.ofNat 32 v), 2, 0, rl, rl, List.Mem.head _, rl_fetches, by and_intros <;> decide⟩

theorem test_meets_StoresAndTheirCommits_1 :
  ∃ p, ∃ ra : Reg, ∃ imm : BitVec 16, ∃ s : State, ∃ f : State,
  (p ∈ [(Instr.stw, 4), (Instr.sth, 2), (Instr.stb, 1)]) ∧
  (s.fetches f) ∧
  let a := (f.reg ra.toNat + imm.signExtend 32).toNat
  let w := a / 4 * 4
  let two : Bool := decide (4 < a % 4 + p.2)
  ((inSram a || inScratch a) = true) ∧
  (f.core.sb = []) ∧
  (f.refusal .cluster .write a = none) ∧
  ((two = true → f.barred .cluster .write (w + 4) = false)) :=
  ⟨(Instr.stw, 4), 1, 0, dl, dl, List.Mem.head _, dl_fetches, by and_intros <;> decide⟩

theorem test_meets_StoresAndTheirCommits_2 :
  ∃ p, ∃ ra : Reg, ∃ imm : BitVec 16, ∃ s : State, ∃ f : State,
  (p ∈ [(Instr.stw, 4), (Instr.sth, 2), (Instr.stb, 1)]) ∧
  (s.fetches f) ∧
  let a := (f.reg ra.toNat + imm.signExtend 32).toNat
  let w := a / 4 * 4
  let two : Bool := decide (4 < a % 4 + p.2)
  ((inSram a || inScratch a) = true) ∧
  (f.core.sb = []) ∧
  (f.refusal .cluster .write a = none) ∧
  ((two = true → f.barred .cluster .write (w + 4) = false)) :=
  ⟨(Instr.stw, 4), 2, 0, dl, dl, List.Mem.head _, dl_fetches, by and_intros <;> decide⟩

def sbOne (a be : Nat) : SbEntry := ⟨a, be, 0x12345678, false, a, false, 0⟩
def sb1 : State := rn.onCore (fun c => { c with sb := [sbOne 0x10000100 15] })
def sb2 : State := rn.onCore (fun c => { c with sb := [sbOne 0x1800FFFC 1] })
theorem sb1_fetches : sb1.fetches sb1 := fetches_of sb1 (by decide) (by rfl)
theorem test_meets_StoresAndTheirCommits_3 :
  ∃ s : State, ∃ e : SbEntry, ∃ rest : List SbEntry,
  (s.core.sb = e :: rest) ∧
  (e.dropped = false) ∧
  (e.addr % 4 = 0) ∧
  (s.aimed 0x16 e.addr = false) ∧
  (s.aimed 0x27 e.addr = false) ∧
  ((e.be % 16 = 15 ∨ s.unitClass e.addr = .good)) ∧
  (inFlash e.addr = false) :=
  ⟨sb1, sbOne 0x10000100 15, [], by and_intros <;> decide⟩

theorem test_meets_StoresAndTheirCommits_4 :
  ∃ s : State, ∃ e : SbEntry, ∃ rest : List SbEntry,
  (s.core.sb = e :: rest) ∧
  (e.dropped = false) ∧
  (e.addr % 4 = 0) ∧
  (s.aimed 0x16 e.addr = false) ∧
  (s.aimed 0x27 e.addr = false) ∧
  ((e.be % 16 = 15 ∨ s.unitClass e.addr = .good)) ∧
  (inFlash e.addr = false) :=
  ⟨sb2, sbOne 0x1800FFFC 1, [], by and_intros <;> decide⟩

def dp : State := (dt.setReg 1 FLT_CFG).setReg 2 0x20000000
theorem dp_fetches : dp.fetches dp := fetches_of dp (by decide) (by rfl)
theorem test_meets_PeripheralAndUnmappedAccesses_1 :
  ∃ ra : Reg, ∃ imm : BitVec 16, ∃ s : State, ∃ f : State,
  (s.fetches f) ∧
  (f.det = true) ∧
  let a := (f.reg ra.toNat + imm.signExtend 32).toNat
  (inPeriph a = true) ∧
  (a % 4 = 0) ∧
  (inCe a = false) ∧
  (f.aimed 0x27 a = false) ∧
  (f.refusal .cluster .read a = none) ∧
  let g := (f.periphRead .cluster a true).1
  (g.core = f.core) ∧
  (g.csr = f.csr) ∧
  (g.limp = f.limp) :=
  ⟨1, 0, dp, dp, dp_fetches, by and_intros <;> decide⟩

theorem test_meets_PeripheralAndUnmappedAccesses_2 :
  ∃ rd : Reg, ∃ ra : Reg, ∃ imm : BitVec 16, ∃ s : State, ∃ f : State,
  (s.fetches f) ∧
  (f.det = true) ∧
  let a := (f.reg ra.toNat + imm.signExtend 32).toNat
  (inPeriph a = true) ∧
  (a % 4 = 0) ∧
  (inCe a = false) ∧
  (f.aimed 0x27 a = false) ∧
  (f.refusal .cluster .write a = none) ∧
  let g := f.periphWrite .cluster a true (f.reg rd.toNat)
  (g.core = f.core) ∧
  (g.csr = f.csr) ∧
  (g.limp = f.limp) :=
  ⟨0, 1, 0, dp, dp, dp_fetches, by and_intros <;> decide⟩

theorem test_meets_PeripheralAndUnmappedAccesses_3 :
  ∃ rd : Reg, ∃ ra : Reg, ∃ imm : BitVec 16, ∃ s : State, ∃ f : State, ∃ c,
  (s.fetches f) ∧
  (f.vbaseEn = false) ∧
  let a := (f.reg ra.toNat + imm.signExtend 32).toNat
  ((inFlash a || inSram a || inScratch a || inPeriph a || inRingWin a) = false) ∧
  (f.get (clsFld 0x28) ≤ 2) ∧
  (f.aoclkRuns = true) ∧
  (f.noInj 0x27 0x27 = true) ∧
  (c ∈ [Instr.ldw rd ra imm, .ldh rd ra imm, .ldhu rd ra imm, .ldb rd ra imm, .ldbu rd ra imm, .stw rd ra imm, .sth rd ra imm, .stb rd ra imm]) :=
  ⟨0, 2, 0, dp, dp, Instr.ldw (0) (2) (0), dp_fetches, by decide, by decide, by decide, by decide, by decide, List.Mem.head _⟩

theorem test_meets_BranchesJumpsAndCalls_1 :
  ∃ p, ∃ s : State, ∃ f : State,
  (p ∈ [(Instr.beq, fun a b : Word => decide (a = b)), (Instr.bne, fun a b => decide (a ≠ b)), (Instr.blt, fun a b => decide (a.toInt < b.toInt)), (Instr.bge, fun a b => decide (b.toInt ≤ a.toInt)), (Instr.bltu, fun a b => decide (a.toNat < b.toNat)), (Instr.bgeu, fun a b => decide (b.toNat ≤ a.toNat))]) ∧
  (s.fetches f) :=
  ⟨(Instr.beq, fun a b : Word => decide (a = b)), rn, rn, List.Mem.head _, rn_fetches⟩

theorem test_meets_BranchesJumpsAndCalls_2 :
  ∃ s : State, ∃ f : State,
  (s.fetches f) :=
  ⟨rn, rn, rn_fetches⟩

theorem test_meets_BranchesJumpsAndCalls_3 :
  ∃ s : State, ∃ f : State, ∃ ra : Reg, ∃ imm : BitVec 16,
  (s.fetches f) ∧
  ((f.reg ra.toNat + imm.signExtend 32).toNat % 4 = 0) :=
  ⟨rl, rl, 1, 0, rl_fetches, by decide⟩

theorem test_meets_BranchesJumpsAndCalls_4 :
  ∃ s : State, ∃ f : State,
  (s.fetches f) ∧
  (inScratch (f.ssBase + 4 * f.ssDepth) = true) ∧
  (f.aimed 0x27 (f.ssBase + 4 * f.ssDepth) = false) ∧
  (f.ssDepth < 256) :=
  ⟨rn, rn, rn_fetches, by decide, by decide, by decide⟩

def cd : State := rn.csrPut 0 0x0FF00F0F
theorem cd_fetches : cd.fetches cd := fetches_of cd (by decide) (by rfl)

theorem test_meets_BranchesJumpsAndCalls_5 :
  ∃ s : State, ∃ f : State, ∃ ra : Reg, ∃ imm : BitVec 16,
  (s.fetches f) ∧
  (inScratch (f.ssBase + 4 * f.ssDepth) = true) ∧
  (f.aimed 0x27 (f.ssBase + 4 * f.ssDepth) = false) ∧
  let link := f.core.pc + 4
  let slot := f.ssBase + 4 * f.ssDepth
  let frame (t : State) : Prop := (∀ k, t.acc k = f.acc k) ∧ (∀ n, n ≠ 0 → t.csrRaw n = f.csrRaw n) ∧ (∀ i, i ≠ 12 → (i < 20 ∨ 29 ≤ i) → bitOf (t.csrRaw 0) i = bitOf (f.csrRaw 0) i) ∧ ∀ a, a ≠ IC_HOLDMAX → a ≠ GT_HWM → t.rd a = f.rd a
  (f.ssDepth < 256) ∧
  ((f.reg ra.toNat + imm.signExtend 32).toNat % 4 = 0) :=
  ⟨cd, cd, 0, 0, cd_fetches, by and_intros <;> decide⟩

def rt : State := rn.csrPut 0 0x00100F0F
theorem rt_fetches : rt.fetches rt := fetches_of rt (by decide) (by rfl)

theorem test_meets_BranchesJumpsAndCalls_6 :
  ∃ s : State, ∃ f : State,
  (s.fetches f) ∧
  (inScratch (f.ssBase + 4 * f.ssDepth) = true) ∧
  (f.aimed 0x27 (f.ssBase + 4 * f.ssDepth) = false) ∧
  let slot := f.ssBase + 4 * f.ssDepth
  (0 < f.ssDepth) ∧
  (f.plainWord (slot - 4) = true) ∧
  (f.wordAt (slot - 4) = f.reg 30) :=
  ⟨rt, rt, rt_fetches, by and_intros <;> decide⟩

theorem test_meets_CoreLocalRegisters_1 :
  ∃ csr : BitVec 12, ∃ s : State, ∃ f : State, ∃ v : Word,
  (s.fetches f) ∧
  let n := csr.toNat
  ((n ∈ [0x000, 0x001, 0x006, 0x010, 0x011, 0x012, 0x013] ∨ (0x100 ≤ n ∧ n < 0x148 ∧ n % 8 ≠ 7)) ∧ v = f.csrRaw n ∨ n = 0x002 ∧ v = (if f.level ≤ 8 then f.csrRaw (0x102 + 8 * f.level) else 0) ∨ n = 0x003 ∧ v = (if f.level ≤ 8 then f.csrRaw (0x100 + 8 * f.level) else 0) ∨ n = 0x014 ∧ v = BitVec.ofNat 32 (4 * f.ssDepth) ∨ n = 0x016 ∧ v = BitVec.ofNat 32 (b2n f.pset)) :=
  ⟨0x010, rn, rn, 0x18000000, rn_fetches, by decide⟩

theorem test_meets_CoreLocalRegisters_2 :
  ∃ csr : BitVec 12, ∃ s : State, ∃ f : State, ∃ v : Word,
  (s.fetches f) ∧
  let n := csr.toNat
  ((n ∈ [0x000, 0x001, 0x006, 0x010, 0x011, 0x012, 0x013] ∨ (0x100 ≤ n ∧ n < 0x148 ∧ n % 8 ≠ 7)) ∧ v = f.csrRaw n ∨ n = 0x002 ∧ v = (if f.level ≤ 8 then f.csrRaw (0x102 + 8 * f.level) else 0) ∨ n = 0x003 ∧ v = (if f.level ≤ 8 then f.csrRaw (0x100 + 8 * f.level) else 0) ∨ n = 0x014 ∧ v = BitVec.ofNat 32 (4 * f.ssDepth) ∨ n = 0x016 ∧ v = BitVec.ofNat 32 (b2n f.pset)) :=
  ⟨0x146, rn, rn, 0, rn_fetches, by decide⟩

theorem test_meets_CoreLocalRegisters_3 :
  ∃ csr : BitVec 12, ∃ s : State, ∃ f : State,
  (s.fetches f) ∧
  let n := csr.toNat
  (n = 0x005) :=
  ⟨5, rn, rn, rn_fetches, by decide⟩

theorem test_meets_CoreLocalRegisters_4 :
  ∃ csr : BitVec 12, ∃ s : State, ∃ f : State,
  (s.fetches f) ∧
  let n := csr.toNat
  let ro := n ∈ [0x002, 0x003, 0x004, 0x005, 0x006, 0x014, 0x015, 0x016]
  let saved := 0x100 ≤ n ∧ n < 0x148 ∧ n % 8 ≠ 7
  ((ro ∨ n ∈ [0x000, 0x010, 0x011, 0x012, 0x013] ∨ saved)) :=
  ⟨0x002, rn, rn, rn_fetches, by decide⟩

theorem test_meets_CoreLocalRegisters_5 :
  ∃ csr : BitVec 12, ∃ s : State, ∃ f : State,
  (s.fetches f) ∧
  let n := csr.toNat
  let ro := n ∈ [0x002, 0x003, 0x004, 0x005, 0x006, 0x014, 0x015, 0x016]
  let saved := 0x100 ≤ n ∧ n < 0x148 ∧ n % 8 ≠ 7
  ((ro ∨ n ∈ [0x000, 0x010, 0x011, 0x012, 0x013] ∨ saved)) :=
  ⟨0x100, rn, rn, rn_fetches, by decide⟩

theorem test_meets_CoreLocalRegisters_6 :
  ∃ ra : Reg, ∃ s : State, ∃ f : State, ∃ c,
  (s.fetches f) ∧
  (f.core.sb = []) ∧
  (c ∈ [Instr.modeWrite ra, .csrw ra 1]) :=
  ⟨0, rn, rn, Instr.modeWrite (0), rn_fetches, by decide, List.Mem.head _⟩

theorem test_meets_BarriersScrubAndWait_1 :
  ∃ s : State, ∃ f : State,
  (s.fetches f) ∧
  (f.core.sb = []) :=
  ⟨rn, rn, rn_fetches, by decide⟩

def bs : State := rn.onCore (fun c => { c with sb := [sbOne 0x1800FFFC 15] })
theorem bs_fetches : bs.fetches bs := fetches_of bs (by decide) (by rfl)

theorem test_meets_BarriersScrubAndWait_2 :
  ∃ s : State, ∃ f : State, ∃ e : SbEntry, ∃ c,
  (s.fetches f) ∧
  (f.core.sb = [e]) ∧
  (e.dropped = false) ∧
  (e.be % 16 = 15) ∧
  (inScratch e.addr = true) ∧
  (e.addr % 4 = 0) ∧
  (f.aimed 0x16 e.addr = false) ∧
  (f.aimed 0x27 e.addr = false) ∧
  (c ∈ [Instr.syncBar, .iflush]) :=
  ⟨bs, bs, sbOne 0x1800FFFC 15, Instr.syncBar, bs_fetches, by decide, by decide, by decide, of_decide_eq_true rfl, by decide, by decide, by decide, List.Mem.head _⟩

theorem test_meets_BarriersScrubAndWait_3 :
  ∃ m : Master, ∃ addr : Word, ∃ s : State,
  (mapStaged addr.toNat = true) ∧
  (s.admits m addr.toNat = true) ∧
  ((addr.toNat = MPU_CTL → s.isSealed = true)) :=
  ⟨.cluster, BitVec.ofNat 32 (MPU_BASE 0), rn.put KS_IMGSEL_SEALED 1, by decide, by decide, by decide⟩

theorem test_meets_BarriersScrubAndWait_4 :
  ∃ m : Master, ∃ addr : Word, ∃ s : State,
  (mapStaged addr.toNat = true) ∧
  (s.admits m addr.toNat = true) ∧
  ((addr.toNat = MPU_CTL → s.isSealed = true)) :=
  ⟨.cluster, BitVec.ofNat 32 MPU_CTL, rn.put KS_IMGSEL_SEALED 1, by decide, by decide, by decide⟩

theorem test_meets_BarriersScrubAndWait_5 :
  ∃ ra : Reg, ∃ s : State, ∃ f : State,
  (s.fetches f) ∧
  let a := (f.reg ra.toNat).toNat / 32 * 32
  ((inSram a || inScratch a) = true) ∧
  (f.refusal .cluster .read a = none) ∧
  ((∀ k < 8, f.unitClass (a + 4 * k) = .good)) :=
  ⟨1, rl, rl, rl_fetches, by decide, by decide, by decide⟩

def gc : State := (rn.csrPut 0x011 0x10002000).putWord 0x10002000 1
theorem gc_fetches : gc.fetches gc := fetches_of gc (by decide) (by rfl)

theorem test_meets_GateCallsAndReturns_1 :
  ∃ n : BitVec 7, ∃ s : State, ∃ f : State,
  (s.fetches f) ∧
  (f.gDepth < 8) ∧
  let a := (f.csrRaw 0x011).toNat / 4096 * 4096 + 32 * n.toNat
  let w (k : Nat) : Word := f.goodWord (a + 4 * k)
  let fr := f.ssBase + 0x400 + 16 * f.gDepth
  (f.readable a 7 = true) ∧
  (inScratch fr = true) ∧
  (f.noInj 0x27 0x27 = true) ∧
  (bitOf (w 0) 0 = true) ∧
  (fld (w 2) 8 8 = 0) :=
  ⟨0, gc, gc, gc_fetches, by and_intros <;> decide⟩

def gr : State := (rn.csrPut 0 0x00010F0F).putWord 0x18000408 0xA500000F
theorem gr_fetches : gr.fetches gr := fetches_of gr (by decide) (by rfl)

theorem test_meets_GateCallsAndReturns_2 :
  ∃ s : State, ∃ f : State,
  (s.fetches f) ∧
  (0 < f.gDepth) ∧
  let fr := f.ssBase + 0x400 + 16 * (f.gDepth - 1)
  let w (k : Nat) : Word := f.goodWord (fr + 4 * k)
  (f.readable fr 4 = true) ∧
  (fld (w 2) 24 8 = 0xA5) ∧
  (fld (w 2) 0 4 = f.level) ∧
  (fld (w 3) 0 9 = f.ssDepth) :=
  ⟨gr, gr, gr_fetches, by and_intros <;> decide⟩

def l0 : State := rn.csrPut 0 0xF00
theorem l0_fetches : l0.fetches l0 := fetches_of l0 (by decide) (by rfl)

theorem test_meets_InterruptEntryAndReturn_1 :
  ∃ s : State, ∃ f : State,
  (s.fetches f) ∧
  (f.level ≤ 8) ∧
  let sv (k : Nat) : Word := f.csrRaw (0x100 + 8 * f.level + k)
  (fld (sv 1) 16 4 = f.gDepth) ∧
  (fld (sv 1) 20 9 = f.ssDepth) ∧
  (fld (sv 6) 30 2 ≠ 1) :=
  ⟨l0, l0, l0_fetches, by and_intros <;> decide⟩

def ir : State := ((rn.csrPut 0x010 0x10004001).put (IC_VCFG_SW 40) 1).put (IC_VCFG_EN 40) 1

theorem test_meets_InterruptEntryAndReturn_2 :
  ∃ s : State, ∃ n : Nat,
  (s.samplingOpen = true) ∧
  (s.chosen = some n) ∧
  (s.tableGood n = true) :=
  ⟨ir, 40, by decide, by decide, by decide⟩

theorem test_meets_InterruptEntryAndReturn_3 :
  ∃ s : State,
  (s.samplingOpen = false ∨ s.chosen = none) :=
  ⟨rn, by decide⟩

theorem test_meets_InterruptEntryAndReturn_4 :
  ∃ s : State,
  (s.lit = true) ∧
  (s.core.inReset = false) :=
  ⟨rn.onCore (fun c => { c with hold := 5 }), by decide, by decide⟩

def xe : State := rn.csrPut 0x010 0x10004001

theorem test_meets_ExceptionsAndTraps_1 :
  ∃ id : BitVec 8, ∃ s : State, ∃ v : Nat,
  (s.canIssue = true) ∧
  (s.aoclkRuns = true) ∧
  (excVector id.toNat = some v) ∧
  (s.core.hold = 0) ∧
  (s.vbaseEn = true) ∧
  (s.appliedClass (s.get (clsFld id.toNat)) ≤ 5) ∧
  (s.eligible 32 = false) ∧
  (s.tableGood v = true) :=
  ⟨0x10, xe, 1, by and_intros <;> decide⟩

def mis : State := rn.setReg 1 2
theorem mis_fetches : mis.fetches mis := fetches_of mis (by decide) (by rfl)

theorem test_meets_ExceptionsAndTraps_2 :
  ∃ s : State, ∃ f : State, ∃ ra : Reg, ∃ imm : BitVec 16,
  (s.fetches f) ∧
  (f.canIssue = true) ∧
  ((f.reg ra.toNat + imm.signExtend 32).toNat % 4 ≠ 0) :=
  ⟨mis, mis, 1, 0, mis_fetches, by decide, by decide⟩

def full : State := dt.csrPut 0 0x10000F0F
theorem full_fetches : full.fetches full := fetches_of full (by decide) (by rfl)

theorem test_meets_ExceptionsAndTraps_3 :
  ∃ s : State, ∃ f : State, ∃ ra : Reg, ∃ imm : BitVec 16,
  (s.fetches f) ∧
  (f.canIssue = true) ∧
  ((f.reg ra.toNat + imm.signExtend 32).toNat % 4 = 0) ∧
  (256 ≤ f.ssDepth) :=
  ⟨full, full, 0, 0, full_fetches, by decide, by decide, by decide⟩

theorem test_meets_ExceptionsAndTraps_4 :
  ∃ s : State, ∃ f : State,
  (s.fetches f) ∧
  (f.canIssue = true) ∧
  (256 ≤ f.ssDepth) :=
  ⟨full, full, full_fetches, by decide, by decide⟩

theorem test_meets_ExceptionsAndTraps_5 :
  ∃ s : State, ∃ f : State,
  (s.fetches f) ∧
  (f.canIssue = true) ∧
  (f.ssDepth = 0) :=
  ⟨rn, rn, rn_fetches, by decide, by decide⟩

def rt2 : State := (rn.csrPut 0 0x00100F0F).setReg 30 4
theorem rt2_fetches : rt2.fetches rt2 := fetches_of rt2 (by decide) (by rfl)

theorem test_meets_ExceptionsAndTraps_6 :
  ∃ s : State, ∃ f : State,
  (s.fetches f) ∧
  (f.canIssue = true) ∧
  (0 < f.ssDepth) ∧
  (f.readable (f.ssBase + 4 * (f.ssDepth - 1)) 1 = true) ∧
  (f.goodWord (f.ssBase + 4 * (f.ssDepth - 1)) ≠ f.reg 30) :=
  ⟨rt2, rt2, rt2_fetches, by and_intros <;> decide⟩

theorem test_meets_ExceptionsAndTraps_7 :
  ∃ s : State, ∃ f : State, ∃ csr : BitVec 12,
  (s.fetches f) ∧
  (f.canIssue = true) ∧
  (f.csrRead csr.toNat = none) :=
  ⟨rn, rn, 0x7FF, rn_fetches, by decide, by decide⟩

theorem test_meets_ExceptionsAndTraps_8 :
  ∃ s : State, ∃ f : State,
  (s.fetches f) ∧
  (f.canIssue = true) ∧
  (8 < f.level) :=
  ⟨rn, rn, rn_fetches, by decide, by decide⟩

theorem test_meets_ExceptionsAndTraps_9 :
  ∃ s : State, ∃ f : State,
  (s.fetches f) ∧
  (f.canIssue = true) ∧
  (f.is DBG_CTL_HALTEN = false) :=
  ⟨rn, rn, rn_fetches, by decide, by decide⟩

theorem test_meets_ExceptionsAndTraps_10 :
  ∃ s : State, ∃ f : State, ∃ n : BitVec 6,
  (s.fetches f) ∧
  (f.canIssue = true) ∧
  (f.is (MC_XOP_VALID n.toNat) = false) :=
  ⟨rn, rn, 63, rn_fetches, by decide, by decide⟩

theorem test_meets_ExceptionsAndTraps_11 :
  ∃ s : State, ∃ f : State, ∃ w : Word, ∃ sub : BitVec 4,
  (s.fetches f) ∧
  (f.canIssue = true) ∧
  (sisDecode w = .illegal sub.toNat) :=
  ⟨rn, rn, 0xFFFFFFFF, 0, rn_fetches, by decide, by decide⟩

theorem test_meets_ExceptionsAndTraps_12 :
  ∃ s : State, ∃ f : State, ∃ w : Word, ∃ sub : BitVec 4,
  (s.fetches f) ∧
  (f.canIssue = true) ∧
  (sisDecode w = .illegal sub.toNat) :=
  ⟨rn, rn, 0x80004000, 1, rn_fetches, by decide, by decide⟩

theorem test_meets_ExceptionsAndTraps_13 :
  ∃ s : State, ∃ f : State,
  (s.fetches f) ∧
  (f.canIssue = true) ∧
  (f.gDepth = 0) :=
  ⟨rn, rn, rn_fetches, by decide, by decide⟩

def xo : State := (rn.put (MC_XOP_VALID 0) 1).putMword 0x1400 (mwSeal (BitVec.ofNat 144 (0x3F * 2 ^ 103 + 2 ^ 16)) 0x1400)
theorem xo_fetches : xo.fetches xo := fetches_of xo (by decide) (by rfl)

theorem test_meets_RoutinesAndMicroTraps_1 :
  ∃ n : BitVec 6, ∃ s : State, ∃ f : State,
  (s.fetches f) ∧
  (f.is (MC_XOP_VALID n.toNat) = true) ∧
  let a := 0x1400 + f.get (MC_XOP_OFFSET n.toNat)
  (f.mword a = mwSeal (BitVec.ofNat 144 (0x3F * 2 ^ 103 + 2 ^ 16)) a) ∧
  (f.injected 0x18 a = false) :=
  ⟨0, xo, xo, xo_fetches, by decide, by decide, by decide⟩

def micro (ck : Option Checkpoint) : Micro := ⟨0, 1, 2, 0x1400, 0, 0, 0, 0, 0, [], none, ck, 1, 0, none⟩
def ckp : Checkpoint := ⟨0, 0, 0, 0, 0, 0x1400⟩
theorem test_meets_RoutinesAndMicroTraps_2 :
  ∃ wait : BitVec 16, ∃ s : State, ∃ m : Micro, ∃ p,
  (s.core.micro = some m) ∧
  (s.running = true) ∧
  (p ∈ [(MicroCause.eccCorrection, 4, 9), (.lineMiss, 6, 11), (.stationsFull, wait.toNat, 5 + wait.toNat), (.pendingCheck, 2, 7)]) ∧
  (m.ck = none) :=
  ⟨0, rn.onCore (fun c => { c with micro := some (micro none) }), micro none, (MicroCause.eccCorrection, 4, 9), by decide, by decide, List.Mem.head _, by decide⟩

def mts (s : State) (f1 f2 : Option Checkpoint) : State := s.onCore (fun c => { c with micro := some (micro (some ckp)), frame1 := f1, frame2 := f2 })
theorem test_meets_RoutinesAndMicroTraps_3 :
  ∃ wait : BitVec 16, ∃ s : State, ∃ m : Micro, ∃ p, ∃ k,
  (s.core.micro = some m) ∧
  (s.running = true) ∧
  (p ∈ [(MicroCause.eccCorrection, 4, 9), (.lineMiss, 6, 11), (.stationsFull, wait.toNat, 5 + wait.toNat), (.pendingCheck, 2, 7)]) ∧
  (m.ck = some k) ∧
  (s.core.frame1 = none) ∧
  (s.core.frame2 = none) :=
  ⟨0, mts rn none none, micro (some ckp), (MicroCause.eccCorrection, 4, 9), ckp, by decide, by decide, List.Mem.head _, by decide, by decide, by decide⟩

theorem test_meets_RoutinesAndMicroTraps_4 :
  ∃ wait : BitVec 16, ∃ s : State, ∃ m : Micro, ∃ p, ∃ k, ∃ k1,
  (s.core.micro = some m) ∧
  (s.running = true) ∧
  (p ∈ [(MicroCause.eccCorrection, 4, 9), (.lineMiss, 6, 11), (.stationsFull, wait.toNat, 5 + wait.toNat), (.pendingCheck, 2, 7)]) ∧
  (m.ck = some k) ∧
  (s.core.frame1 = some k1) ∧
  (s.core.frame2 = none) :=
  ⟨0, mts rn (some ckp) none, micro (some ckp), (MicroCause.eccCorrection, 4, 9), ckp, ckp, by decide, by decide, List.Mem.head _, by decide, by decide, by decide⟩

theorem test_meets_RoutinesAndMicroTraps_5 :
  ∃ wait : BitVec 16, ∃ s : State, ∃ m : Micro, ∃ p, ∃ k,
  (s.core.micro = some m) ∧
  (s.running = true) ∧
  (p ∈ [(MicroCause.eccCorrection, 4, 9), (.lineMiss, 6, 11), (.stationsFull, wait.toNat, 5 + wait.toNat), (.pendingCheck, 2, 7)]) ∧
  (m.ck = some k) ∧
  (s.core.frame2.isSome = true) ∧
  (s.aoclkRuns = true) ∧
  (s.vbaseEn = true) ∧
  (s.core.hold = 0) ∧
  (s.appliedClass (s.get (clsFld 0x17)) ≤ 5) ∧
  (s.eligible 32 = false) ∧
  (s.tableGood 6 = true) :=
  ⟨0, mts xe (some ckp) (some ckp), micro (some ckp), (MicroCause.eccCorrection, 4, 9), ckp, by decide, by decide, List.Mem.head _, by and_intros <;> decide⟩

theorem test_meets_DirectLaneAndStations_1 :
  ∃ s : State, ∃ f : State,
  (s.fetches f) :=
  ⟨rn, rn, rn_fetches⟩

theorem test_meets_DirectLaneAndStations_2 :
  ∃ ra : Reg, ∃ s : State, ∃ f : State,
  (s.fetches f) ∧
  let tag := fld (f.reg ra.toNat) 0 10
  (f.ce.ops.find? (fun o => o.tag == tag && o.src == .lane) = none) :=
  ⟨0, rn, rn, rn_fetches, by decide⟩

def res (st : Nat) : CeRes := ⟨st, 5, 7, 0⟩
def ceop (tag op : Nat) (src : CeSrc) (args : List Word) (r : Option CeRes) (held : Bool) : CeOp := ⟨tag, op, 0, 0, 0, args, src, true, false, r, held, 0⟩
def ln : State := { rn with ce := { rn.ce with ops := [ceop 0 0 .lane [] (some (res 0xFFFD)) true] } }
theorem ln_fetches : ln.fetches ln := fetches_of ln (by decide) (by rfl)

theorem test_meets_DirectLaneAndStations_3 :
  ∃ ra : Reg, ∃ s : State, ∃ f : State, ∃ o, ∃ r,
  (s.fetches f) ∧
  let tag := fld (f.reg ra.toNat) 0 10
  (f.ce.ops = [o]) ∧
  (o.tag = tag) ∧
  (o.src = .lane) ∧
  (o.result = some r) ∧
  (o.held = true) ∧
  (r.status < 0xFFFE) :=
  ⟨0, ln, ln, ceop 0 0 .lane [] (some (res 0xFFFD)) true, res 0xFFFD, ln_fetches, by and_intros <;> decide⟩

def stn (k : StKind) (r : Option (BitVec 64)) : Station := ⟨3, k, 5, r, 15, 9, 0, 0, false, false, 0x10000000, false, false, false, 0, 0, false⟩
theorem test_meets_DirectLaneAndStations_4 :
  ∃ n : BitVec 3, ∃ s : State, ∃ l : List Station, ∃ r : List Station, ∃ x : Station, ∃ v : BitVec 64,
  (s.core.stations = l ++ x :: r) ∧
  ((∀ y ∈ l ++ r, y.n ≠ n.toNat)) ∧
  (x.n = n.toNat) ∧
  (x.result = some v) ∧
  (x.micro = false) ∧
  (x.dest < 32) ∧
  ((x.kind = .chwait → x.mode ≠ 1)) :=
  ⟨3, rn.onCore (fun c => { c with stations := [stn .div (some 7)] }), [], [], stn .div (some 7), 7, by and_intros <;> decide⟩

theorem test_meets_DirectLaneAndStations_5 :
  ∃ s : State, ∃ l : List Station, ∃ r : List Station, ∃ x : Station, ∃ v : BitVec 64,
  (s.core.stations = l ++ x :: r) ∧
  ((∀ y ∈ l ++ r, y.kind ≠ .chissue ∧ y.n ≠ x.n)) ∧
  (x.kind = .chissue) ∧
  (x.result = some v) ∧
  (x.micro = false) ∧
  (x.dest < 32) :=
  ⟨rn.onCore (fun c => { c with stations := [stn .chissue (some 7)] }), [], [], stn .chissue (some 7), 7, by and_intros <;> decide⟩

theorem test_meets_DirectLaneAndStations_6 :
  ∃ n : BitVec 3, ∃ s : State, ∃ x : Station,
  (s.core.stations = [x]) ∧
  (x.n = n.toNat) ∧
  (x.result = none) ∧
  (x.kind = .load) ∧
  (x.micro = false) :=
  ⟨3, rn.onCore (fun c => { c with stations := [stn .load none] }), stn .load none, by and_intros <;> decide⟩

theorem test_meets_DebugHalts_1 :
  ∃ s : State,
  (s.running = true) ∧
  (s.is DBG_STAT_HALTED = false) ∧
  ((s.get KS_LC_STATE ≠ 2 ∨ s.unlocked = true)) :=
  ⟨rn, by decide, by decide, by decide⟩

theorem test_meets_DebugHalts_2 :
  ∃ addr : Word, ∃ s : State,
  (s.running = true) ∧
  (s.is DBG_STAT_HALTED = false) ∧
  (addr = s.core.pc) ∧
  (s.bpHit addr = true) :=
  ⟨0x10000000, (rn.put (DBG_BP_EN 3) 1).put (DBG_BP_ADDR 3) 0x4000000, by and_intros <;> decide⟩

def hb : State := rn.put DBG_CTL_HALTEN 1
theorem hb_fetches : hb.fetches hb := fetches_of hb (by decide) (by rfl)

theorem test_meets_DebugHalts_3 :
  ∃ s : State, ∃ f : State,
  (s.fetches f) ∧
  (f.is DBG_CTL_HALTEN = true) :=
  ⟨hb, hb, hb_fetches, by decide⟩

theorem test_meets_DebugHalts_4 :
  ∃ s : State,
  (s.is DBG_STAT_HALTED = true) ∧
  ((s.get KS_LC_STATE ≠ 2 ∨ s.unlocked = true)) ∧
  (s.is DBG_REGSEL_CSR = false) :=
  ⟨rn.put DBG_STAT_HALTED 1, by decide, by decide, by decide⟩

theorem test_meets_DebugHalts_5 :
  ∃ s : State,
  (s.running = true) ∧
  (s.is DBG_STAT_HALTED = false) ∧
  (s.get KS_LC_STATE = 2) ∧
  (s.unlocked = false) :=
  ⟨rn.put KS_LC_STATE 2, by and_intros <;> decide⟩

theorem test_meets_PeripheralRegisters_1 :
  ∃ l : List (Nat × Nat × Nat), ∃ y,
  (l ≠ []) ∧
  ((∀ r ∈ l, r.1 ≤ r.2.1 ∧ 0 < r.2.2 ∧ (r.2.1 - r.1) % r.2.2 = 0)) ∧
  let ok (y : Nat) : Prop := ∃ r ∈ l, r.1 ≤ y ∧ y ≤ r.2.1 ∧ (y - r.1) % r.2.2 = 0
  (ok y) :=
  ⟨[(8, 200, 4), (255, 255, 1)], 200, by decide, by decide, (⟨(8, 200, 4), List.Mem.head _, by decide, by decide, by decide⟩)⟩

theorem test_meets_PeripheralRegisters_2 :
  ∃ m : Master, ∃ addr : Word, ∃ v : Word, ∃ r : RegD, ∃ s : State,
  let a := addr.toNat
  (s.issues m = true) ∧
  (inPeriph a = true) ∧
  (a % 4 = 0) ∧
  (a / 4096 ≠ 0x40090) ∧
  (s.refusal m .write a = none) ∧
  (s.aimed 0x27 a = false) ∧
  (regRow a = some r) ∧
  (r.only = []) ∧
  (r.img = false) ∧
  (s.regWrite m a v = s.plainWrite m a v) ∧
  (a ≠ SYS_CLAMPCNT) ∧
  (a ≠ SYS_CLAMPLAST) ∧
  ((∀ f ∈ r.fields, f.lo + f.len ≤ 32 ∧ clampLegal f.legal (fld v f.lo f.len) < 2 ^ f.len)) ∧
  (r.fields.Pairwise (fun f g => f.lo + f.len ≤ g.lo)) :=
  ⟨.host, BitVec.ofNat 32 FLT_INJADDR, 0x18010000, (regRow FLT_INJADDR).get (by decide), rn, by decide, by decide, by decide, of_decide_eq_true rfl, by decide, by decide, by decide, of_decide_eq_true rfl, by decide, (rfl), by and_intros <;> decide⟩

theorem test_meets_PeripheralRegisters_3 :
  ∃ m : Master, ∃ v : Word, ∃ s : State,
  (s.issues m = true) ∧
  (s.refusal m .write FLT_INJADDR = none) ∧
  (s.aimed 0x27 FLT_INJADDR = false) ∧
  (0x10000000 ≤ v.toNat) ∧
  (v.toNat < 0x100C0000) ∧
  (v.toNat % 4 = 0) :=
  ⟨.host, 0x10000000, rn, by and_intros <;> decide⟩

theorem test_meets_PeripheralRegisters_4 :
  ∃ m : Master, ∃ v : Word, ∃ s : State,
  (s.issues m = true) ∧
  (s.refusal m .write FLT_INJADDR = none) ∧
  (s.aimed 0x27 FLT_INJADDR = false) ∧
  (0x10000000 ≤ v.toNat) ∧
  (v.toNat < 0x100C0000) ∧
  (v.toNat % 4 = 0) :=
  ⟨.debug, 0x100BFFFC, rn, by and_intros <;> decide⟩

theorem test_meets_PeripheralRegisters_5 :
  ∃ m : Master, ∃ v : Word, ∃ s : State,
  (s.issues m = true) ∧
  (s.refusal m .write FLT_INJADDR = none) ∧
  (s.aimed 0x27 FLT_INJADDR = false) ∧
  (0x18010000 ≤ v.toNat) :=
  ⟨.host, 0x18010000, rn, by and_intros <;> decide⟩

theorem test_meets_PeripheralRegisters_6 :
  ∃ m : Master, ∃ s : State, ∃ sz,
  (s.issues m = true) ∧
  (s.refusal m .write FLT_INJADDR = none) ∧
  (s.aimed 0x27 FLT_INJADDR = false) ∧
  (sz ∈ [Size.byte, .half]) :=
  ⟨.host, rn, Size.byte, by decide, by decide, by decide, List.Mem.head _⟩

theorem test_meets_PeripheralRegisters_7 :
  ∃ m : Master, ∃ addr : Word, ∃ r : Nat, ∃ s : State,
  (m ≠ .cluster) ∧
  (s.issues m = true) ∧
  (inPeriph addr.toNat = true) ∧
  (s.refusal m .write addr.toNat = some r) ∧
  (addr.toNat % 4 = 0) ∧
  (s.get MPU_FCNT_COUNT < 0xFFFF) :=
  ⟨.host, BitVec.ofNat 32 FLT_CFG, 1, State.reset, by and_intros <;> decide⟩

theorem test_meets_PeripheralRegisters_8 :
  ∃ p, ∃ m : Master, ∃ s : State,
  (p ∈ [(FLT_REPEAT, 16), (FLT_LOST, 16), (LNT_STRETRY, 16), (LNT_BUBBLE, 16), (IC_HOLDMAX, 8), (MPU_FCNT, 16), (GT_CALLS, 32), (RNG_UNDER, 16), (MEM_WBLOST, 16), (CE_EVLOST, 16), (RING_FCNT, 32), (RING_CRCCNT, 32), (HOST_LATECNT, 16)]) ∧
  (s.issues m = true) ∧
  (s.refusal m .read p.1 = none) ∧
  (s.aimed 0x27 p.1 = false) :=
  ⟨(FLT_REPEAT, 16), .host, rn, List.Mem.head _, by decide, by decide, by decide⟩

theorem test_meets_LockstepComparisons_1 :
  ∃ src : AdmSource, ∃ s : State,
  (s.noInj 0x0A 0x0A = true) ∧
  (crossing .cluster src = true) ∧
  (s.presents = true) :=
  ⟨.wickTick, rn, by decide, by decide, by decide⟩

theorem test_meets_LockstepComparisons_2 :
  ∃ src : AdmSource, ∃ s : State,
  (s.noInj 0x0A 0x0A = true) ∧
  (crossing .ce src = true) ∧
  (s.engineRuns = true) :=
  ⟨.port 15, rn, by decide, by decide, by decide⟩

theorem test_meets_LockstepComparisons_3 :
  ∃ m : Master, ∃ s : State,
  (m ≠ .cluster) ∧
  (s.running = true) :=
  ⟨.ce, rn, by decide, by decide⟩

theorem test_meets_LockstepComparisons_4 :
  ∃ d : BitVec 6, ∃ s : State,
  (d ≠ 0) ∧
  (d.toNat < 32) ∧
  (s.is DBG_STAT_HALTED = false) :=
  ⟨31, rn, by decide, by decide, by decide⟩

theorem test_meets_LockstepComparisons_5 :
  ∃ ca : CopyCycle, ∃ cb : CopyCycle, ∃ cc : CopyCycle, ∃ s : State,
  (s.presents = true) ∧
  (s.noInj 0 2 = true) ∧
  let a := s.cvPresented 0 ca
  let b := s.cvPresented 1 cb
  let c := s.cvPresented 2 cc
  (a = ~~~ b) ∧
  (b = ~~~ c) :=
  ⟨⟨[.request true false true 0 0x10000000 5 15], 0⟩, ⟨[.request true false true 0 0x10000000 5 15], 0⟩, ⟨[.request true false true 0 0x10000000 5 15], 0⟩, rn, by and_intros <;> decide⟩

theorem test_meets_LockstepComparisons_6 :
  ∃ ca : CopyCycle, ∃ cb : CopyCycle, ∃ s : State,
  (s.presents = true) ∧
  (s.noInj 0 2 = true) ∧
  let a := s.cvPresented 0 ca
  let b := s.cvPresented 1 cb
  (s.lmode = 1) ∧
  (s.insvc = 3) ∧
  (s.lock.window = none) ∧
  (a ≠ ~~~ b) :=
  ⟨⟨[.stall], 0⟩, ⟨[.retired 1], 0⟩, rn, by and_intros <;> decide⟩

theorem test_meets_LockstepComparisons_7 :
  ∃ ca : CopyCycle, ∃ cb : CopyCycle, ∃ cc : CopyCycle, ∃ s : State,
  (s.presents = true) ∧
  (s.noInj 0 2 = true) ∧
  let a := s.cvPresented 0 ca
  let b := s.cvPresented 1 cb
  let c := s.cvPresented 2 cc
  (s.lmode = 2) ∧
  (s.lock.window = none) ∧
  (s.get LNT_STAT_LEAD = 0) ∧
  (a = ~~~ b) ∧
  (c ≠ a) :=
  ⟨⟨[.stall], 0⟩, ⟨[.stall], 0⟩, ⟨[.stall], 1⟩, rn.put LNT_MODE_MODE 2, by and_intros <;> decide⟩

theorem test_meets_LockstepComparisons_8 :
  ∃ ep : EngineCycle, ∃ es : EngineCycle, ∃ s : State,
  (s.engineRuns = true) ∧
  (s.noInj 8 8 = true) ∧
  let p := engineVector ep
  let q := engineVector es
  (p = q) :=
  ⟨⟨[.queue 3], 5, 0⟩, ⟨[.queue 3], 5, 0⟩, rn, by decide, by decide, by decide⟩

theorem test_meets_LockstepComparisons_9 :
  ∃ ep : EngineCycle, ∃ es : EngineCycle, ∃ s : State,
  (s.engineRuns = true) ∧
  (s.noInj 8 8 = true) ∧
  let p := engineVector ep
  let q := engineVector es
  (p ≠ q) :=
  ⟨⟨[.queue 3], 5, 0⟩, ⟨[.queue 3], 5, 1⟩, rn, by decide, by decide, by decide⟩

theorem test_meets_SignaturesAndSelfTests_1 :
  ∃ s : State,
  (s.presents = true) ∧
  (s.noInj 3 3 = true) :=
  ⟨rn, by decide, by decide⟩

theorem test_meets_SignaturesAndSelfTests_2 :
  ∃ e : Bool, ∃ s : State,
  (s.lock.window = none) ∧
  (s.is LNT_STAT_JOINACT = false) ∧
  (s.noInj 4 9 = true) ∧
  ((if e then s.engineRuns else s.presents) = true) ∧
  (s.copyIn (s.get LNT_STSTAT_KC) = true) ∧
  ((s.lmode = 2 ∨ s.lmode = 1 ∧ s.insvc = 3)) :=
  ⟨false, rn.put LNT_MODE_MODE 1, by and_intros <;> decide⟩

theorem test_meets_SignaturesAndSelfTests_3 :
  ∃ e : Bool, ∃ s : State,
  (s.lock.window = none) ∧
  (s.is LNT_STAT_JOINACT = false) ∧
  (s.noInj 4 9 = true) ∧
  ((if e then s.engineRuns else s.presents) = true) ∧
  (s.copyIn (s.get LNT_STSTAT_KC) = true) ∧
  ((s.lmode = 2 ∨ s.lmode = 1 ∧ s.insvc = 3)) :=
  ⟨true, rn, by and_intros <;> decide⟩

def win (m : Bool) : Window := ⟨false, 2, 30, m, false⟩
def wst (m : Bool) : State := { rn with lock := { rn.lock with window := some (win m) } }
theorem test_meets_RekindleAndLockstepModes_1 :
  ∃ s : State, ∃ w : Window, ∃ r : CopyBusRun,
  (s.lock.window = some w) ∧
  (w.join = false) ∧
  (w.copy < 3) ∧
  (w.moved = false) ∧
  (r.divided = false) ∧
  (s.noInj 5 5 = true) ∧
  (s.core.stations = []) ∧
  (s.core.sb = []) :=
  ⟨wst false, win false, ⟨31, 511, false⟩, by and_intros <;> decide⟩

theorem test_meets_RekindleAndLockstepModes_2 :
  ∃ s : State, ∃ w : Window,
  (s.lock.window = some w) ∧
  (w.join = false) ∧
  (w.copy < 3) ∧
  (w.moved = true) ∧
  (w.corrupt = false) ∧
  (s.is DBG_CTL_HALTREQ = false) :=
  ⟨wst true, win true, by and_intros <;> decide⟩

theorem test_meets_RekindleAndLockstepModes_3 :
  ∃ s : State, ∃ w : Window,
  (s.lock.window = some w) ∧
  (w.join = false) ∧
  (w.copy < 3) ∧
  (w.moved = true) ∧
  (w.corrupt = false) ∧
  (s.is DBG_CTL_HALTREQ = true) ∧
  (s.is DBG_STAT_HALTED = false) ∧
  (s.presents = true) :=
  ⟨(wst true).put DBG_CTL_HALTREQ 1, win true, by and_intros <;> decide⟩

def sl : State := rn.put KS_IMGSEL_SEALED 1

theorem test_meets_RekindleAndLockstepModes_4 :
  ∃ m : Master, ∃ v : Word, ∃ s : State,
  (s.admits m LNT_MODE = true) ∧
  (s.is LNT_STAT_JOINACT = false) ∧
  (s.lock.window = none) ∧
  (s.lmode < fld v 0 2) ∧
  (fld v 0 2 ≤ 2) ∧
  (fld v 0 2 < popN 3 s.healthy) :=
  ⟨.cluster, 2, sl, by and_intros <;> decide⟩

theorem test_meets_RekindleAndLockstepModes_5 :
  ∃ m : Master, ∃ v : Word, ∃ s : State,
  (s.admits m LNT_MODE = true) ∧
  (s.is LNT_STAT_JOINACT = false) ∧
  (s.lock.window = none) ∧
  (fld v 0 2 < s.lmode) :=
  ⟨.cluster, 0, sl, by and_intros <;> decide⟩

theorem test_meets_RekindleAndLockstepModes_6 :
  ∃ r : CopyBusRun, ∃ s : State,
  (s.is LNT_STAT_JOINACT = true) ∧
  (s.lock.window = none) ∧
  (s.presents = true) ∧
  (s.noInj 5 5 = true) ∧
  (s.core.stations = []) ∧
  (s.core.sb = []) ∧
  (r.divided = false) ∧
  (s.lock.joinMode ≤ 2) :=
  ⟨⟨0, 0, false⟩, (rn.put LNT_STAT_JOINACT 1), by and_intros <;> decide⟩

theorem test_meets_FaultCaptureAndReactions_1 :
  ∃ id : BitVec 8, ∃ s : State,
  ((faultRow id.toNat).isSome = true) ∧
  (s.aoclkRuns = true) ∧
  (s.isSealed = true) ∧
  (s.limp = false) ∧
  (s.pend id.toNat = false) ∧
  (s.get (clsFld id.toNat) ≤ 2) ∧
  (s.logOpen = true) ∧
  (s.flt.buffer = []) ∧
  (s.noInj 0x27 0x27 = true) :=
  ⟨0x28, sl, by and_intros <;> decide⟩

theorem test_meets_FaultCaptureAndReactions_2 :
  ∃ id : BitVec 8, ∃ s : State, ∃ row : FaultRow,
  (faultRow id.toNat = some row) ∧
  (row.iso = .none) ∧
  (s.aoclkRuns = true) ∧
  (s.isSealed = true) ∧
  (s.limp = false) ∧
  (s.core.inReset = false) ∧
  (s.noInj 0x27 0x27 = true) ∧
  let cls := s.get (clsFld id.toNat)
  let o := s.rd (FLT_OSET id.toNat) &&& 0xFFFFFF
  (cls = 5) :=
  ⟨0x28, sl.put (clsFld 0x28) 5, (faultRow 0x28).get (by decide), by and_intros <;> decide⟩

theorem test_meets_FaultCaptureAndReactions_3 :
  ∃ id : BitVec 8, ∃ s : State, ∃ row : FaultRow,
  (faultRow id.toNat = some row) ∧
  (row.iso = .none) ∧
  (s.aoclkRuns = true) ∧
  (s.isSealed = true) ∧
  (s.limp = false) ∧
  (s.core.inReset = false) ∧
  (s.noInj 0x27 0x27 = true) ∧
  let cls := s.get (clsFld id.toNat)
  let o := s.rd (FLT_OSET id.toNat) &&& 0xFFFFFF
  (cls = 6) ∧
  (s.get FLT_STAT_RSTCNT ≠ 3) :=
  ⟨0x28, sl.put (clsFld 0x28) 6, (faultRow 0x28).get (by decide), by and_intros <;> decide⟩

theorem test_meets_FaultCaptureAndReactions_4 :
  ∃ id : BitVec 8, ∃ s : State, ∃ row : FaultRow,
  (faultRow id.toNat = some row) ∧
  (row.iso = .none) ∧
  (s.aoclkRuns = true) ∧
  (s.isSealed = true) ∧
  (s.limp = false) ∧
  (s.core.inReset = false) ∧
  (s.noInj 0x27 0x27 = true) ∧
  let cls := s.get (clsFld id.toNat)
  let o := s.rd (FLT_OSET id.toNat) &&& 0xFFFFFF
  (cls = 7) :=
  ⟨0x28, sl.put (clsFld 0x28) 7, (faultRow 0x28).get (by decide), by and_intros <;> decide⟩

theorem test_meets_CollectorUpkeepAndInjection_1 :
  ∃ s : State,
  (s.reaches FLT_STAT = true) :=
  ⟨rn, by decide⟩

theorem test_meets_CollectorUpkeepAndInjection_2 :
  ∃ n : BitVec 2, ∃ s : State,
  (s.flt.cond = []) ∧
  (s.flt.faulty = []) ∧
  (s.reaches (FLT_PEND n.toNat) = true) :=
  ⟨0, rn, by decide, by decide, by decide⟩

def lb : State := { rn with flt := { rn.flt with buffer := [[1, 2, 3, 4]] } }

theorem test_meets_CollectorUpkeepAndInjection_3 :
  ∃ a : Word, ∃ b : Word, ∃ c : Word, ∃ d : Word, ∃ s : State,
  (s.flt.buffer = [[a, b, c, d]]) ∧
  (s.noInj 0x27 0x27 = true) ∧
  (s.logOpen = true) :=
  ⟨1, 2, 3, 4, lb, by decide, by decide, by decide⟩

theorem test_meets_CollectorUpkeepAndInjection_4 :
  ∃ a : Word, ∃ b : Word, ∃ c : Word, ∃ d : Word, ∃ s : State,
  (s.flt.buffer = [[a, b, c, d]]) ∧
  (s.noInj 0x27 0x27 = true) ∧
  (s.logOpen = false) :=
  ⟨1, 2, 3, 4, lb.put PM_STAT_STATE 4, by decide, by decide, by decide⟩

theorem test_meets_CollectorUpkeepAndInjection_5 :
  ∃ s : State,
  (s.reaches FLT_INJKEY = true) :=
  ⟨rn, by decide⟩

theorem test_meets_CollectorUpkeepAndInjection_6 :
  ∃ m : Master, ∃ v : Word, ∃ s : State, ∃ row : FaultRow,
  (s.admits m FLT_INJ = true) ∧
  (s.flt.keyOpen = true) ∧
  (s.is FLT_CFG_INJEN = true) ∧
  ((s.get KS_LC_STATE = 1 ∨ s.get KS_LC_STATE = 2)) ∧
  (faultRow (fld v 0 8) = some row) ∧
  (s.injLegal row (fld v 16 16) = true) ∧
  (row.inject ≠ .co) :=
  ⟨.cluster, 0x65, ({ rn with flt := { rn.flt with keyOpen := true } }.put FLT_CFG_INJEN 1).put KS_LC_STATE 2, (faultRow 0x65).get (by decide), by and_intros <;> decide⟩

def us : State := sl.put (SNF_OCFG_USED 23) 1

theorem test_meets_SnufferChecksAndArming_1 :
  ∃ pins : BitVec 24, ∃ s : State,
  (s.noInj 0x75 0x75 = true) ∧
  ((∀ n < 24, s.is (SNF_OCFG_USED n) = true → pins.getLsbD n = s.outLevel n)) :=
  ⟨BitVec.ofNat 24 (b2n (us.outLevel 23) * 2 ^ 23), us, by decide, by decide⟩

theorem test_meets_SnufferChecksAndArming_2 :
  ∃ pins : BitVec 24, ∃ n : BitVec 5, ∃ s : State,
  (s.noInj 0x75 0x75 = true) ∧
  (n.toNat < 24) ∧
  (s.readBack n.toNat = true) ∧
  (pins.getLsbD n.toNat ≠ s.outLevel n.toNat) ∧
  (s.mismatches n.toNat = 15) ∧
  ((∀ k < 24, k ≠ n.toNat → s.is (SNF_OCFG_USED k) = true → pins.getLsbD k = s.outLevel k)) :=
  ⟨BitVec.ofNat 24 (b2n (!us.outLevel 23) * 2 ^ 23), 23, { us with snf := { us.snf with levelAge := [(23, 16)], mismatch := [(23, 15)] } }, by and_intros <;> decide⟩

theorem test_meets_SnufferChecksAndArming_3 :
  ∃ s : State,
  (s.noInj 0x76 0x76 = true) :=
  ⟨rn, by decide⟩

theorem test_meets_SnufferChecksAndArming_4 :
  ∃ s : State,
  (s.reaches SNF_SWSNUFF = true) ∧
  (s.noInj 0x27 0x27 = true) :=
  ⟨rn, by decide, by decide⟩

theorem test_meets_SnufferChecksAndArming_5 :
  ∃ v : Word, ∃ s : State,
  (s.reaches SNF_UNSNUFF = true) ∧
  (v = 0x5A5AC3C3) :=
  ⟨0x5A5AC3C3, rn, by decide, by decide⟩

theorem test_meets_SnufferChecksAndArming_6 :
  ∃ v : Word, ∃ s : State,
  (s.reaches SNF_UNSNUFF = true) ∧
  (v ≠ 0x5A5AC3C3) :=
  ⟨0, rn, by decide, by decide⟩

theorem test_meets_SnufferChecksAndArming_7 :
  ∃ s : State,
  (s.reaches SNF_CHALRSP = true) ∧
  (s.is SNF_STAT_ARMED = false) :=
  ⟨rn, by decide, by decide⟩

def ar : State := { us.put SNF_STAT_ARMED 1 with snf := { us.snf with armAge := 1600, wwd := { us.snf.wwd with served := true }, qaw := { us.snf.qaw with served := true } } }

theorem test_meets_SnufferChecksAndArming_8 :
  ∃ s : State,
  (s.is SNF_STAT_ARMED = true) :=
  ⟨ar, by decide⟩

theorem test_meets_Unsnuff_1 :
  ∃ s : State,
  (s.reaches SNF_CHALRSP = true) ∧
  (s.is SNF_STAT_ARMED = false) :=
  ⟨rn, by decide, by decide⟩

theorem test_meets_Unsnuff_2 :
  ∃ s : State,
  (s.reaches SNF_CHALRSP = true) ∧
  (s.is SNF_STAT_ARMED = true) ∧
  (1600 < s.snf.armAge) :=
  ⟨{ ar with snf := { ar.snf with armAge := 1601 } }, by decide, by decide, by decide⟩

theorem test_meets_Unsnuff_3 :
  ∃ v : Word, ∃ s : State,
  (s.reaches SNF_CHALRSP = true) ∧
  let inTime : Prop := s.is SNF_STAT_ARMED = true ∧ s.snf.armAge ≤ 1600 ∧ v = ~~~ s.rd SNF_CHAL
  (inTime) ∧
  (s.isSealed = false) :=
  ⟨~~~ ar.rd SNF_CHAL, ar.put KS_IMGSEL_SEALED 0, by decide, by decide, by decide⟩

theorem test_meets_Unsnuff_4 :
  ∃ v : Word, ∃ s : State,
  (s.reaches SNF_CHALRSP = true) ∧
  let inTime : Prop := s.is SNF_STAT_ARMED = true ∧ s.snf.armAge ≤ 1600 ∧ v = ~~~ s.rd SNF_CHAL
  (inTime) ∧
  (s.isSealed = true) ∧
  (s.limp = true) :=
  ⟨~~~ ar.rd SNF_CHAL, ar.put FLT_STAT_LIMP 1, by and_intros <;> decide⟩

theorem test_meets_Unsnuff_5 :
  ∃ v : Word, ∃ s : State,
  (s.reaches SNF_CHALRSP = true) ∧
  let m := s.rd SNF_RELMASK &&& s.used &&& 0xFFFFFF
  let inTime : Prop := s.is SNF_STAT_ARMED = true ∧ s.snf.armAge ≤ 1600 ∧ v = ~~~ s.rd SNF_CHAL
  (inTime) ∧
  (s.isSealed = true) ∧
  (s.limp = false) ∧
  (m = 0) :=
  ⟨~~~ ar.rd SNF_CHAL, ar.wr SNF_RELMASK 0, by and_intros <;> decide⟩

theorem test_meets_Unsnuff_6 :
  ∃ v : Word, ∃ s : State,
  (s.reaches SNF_CHALRSP = true) ∧
  let m := s.rd SNF_RELMASK &&& s.used &&& 0xFFFFFF
  let inTime : Prop := s.is SNF_STAT_ARMED = true ∧ s.snf.armAge ≤ 1600 ∧ v = ~~~ s.rd SNF_CHAL
  let served : Bool := s.wwdOk && s.qawOk
  (inTime) ∧
  (s.isSealed = true) ∧
  (s.limp = false) ∧
  (m ≠ 0) ∧
  (served = false) :=
  ⟨~~~ ar.rd SNF_CHAL, { ar with snf := { ar.snf with wwd := { ar.snf.wwd with served := false } } }, by and_intros <;> decide⟩

theorem test_meets_Unsnuff_7 :
  ∃ v : Word, ∃ s : State, ∃ id,
  (s.reaches SNF_CHALRSP = true) ∧
  let m := s.rd SNF_RELMASK &&& s.used &&& 0xFFFFFF
  let inTime : Prop := s.is SNF_STAT_ARMED = true ∧ s.snf.armAge ≤ 1600 ∧ v = ~~~ s.rd SNF_CHAL
  let served : Bool := s.wwdOk && s.qawOk
  (id < 128) ∧
  (inTime) ∧
  (s.isSealed = true) ∧
  (s.limp = false) ∧
  (m ≠ 0) ∧
  (served = true) ∧
  (s.blocks id = true) ∧
  ((∀ k < id, s.blocks k = false)) :=
  ⟨~~~ ar.rd SNF_CHAL, ar.put (pendFld 0x75) 1, 0x75, by and_intros <;> decide⟩

theorem test_meets_Unsnuff_8 :
  ∃ v : Word, ∃ s : State, ∃ o,
  (s.reaches SNF_CHALRSP = true) ∧
  let m := s.rd SNF_RELMASK &&& s.used &&& 0xFFFFFF
  let inTime : Prop := s.is SNF_STAT_ARMED = true ∧ s.snf.armAge ≤ 1600 ∧ v = ~~~ s.rd SNF_CHAL
  let noBlock : Prop := ∀ id < 128, s.blocks id = false
  let served : Bool := s.wwdOk && s.qawOk
  (o < 24) ∧
  (inTime) ∧
  (s.isSealed = true) ∧
  (s.limp = false) ∧
  (m ≠ 0) ∧
  (served = true) ∧
  (noBlock) ∧
  (bitOf (m &&& s.activeCauses) o = true) ∧
  ((∀ k < o, bitOf (m &&& s.activeCauses) k = false)) :=
  ⟨~~~ ar.rd SNF_CHAL, (((ar.put (MON_CFG_EN 127) 1).put (MON_STAT_LIVE 127) 1).put (MON_STAT_UF 127) 1).wr (MON_RTEU 127) 0x800000, 23, by and_intros <;> decide⟩

theorem test_meets_Unsnuff_9 :
  ∃ v : Word, ∃ s : State,
  (s.reaches SNF_CHALRSP = true) ∧
  let m := s.rd SNF_RELMASK &&& s.used &&& 0xFFFFFF
  let inTime : Prop := s.is SNF_STAT_ARMED = true ∧ s.snf.armAge ≤ 1600 ∧ v = ~~~ s.rd SNF_CHAL
  let noBlock : Prop := ∀ id < 128, s.blocks id = false
  let served : Bool := s.wwdOk && s.qawOk
  (inTime) ∧
  (s.isSealed = true) ∧
  (s.limp = false) ∧
  (m ≠ 0) ∧
  (served = true) ∧
  (noBlock) ∧
  (m &&& s.activeCauses = 0) ∧
  (s.noInj 0x27 0x27 = true) :=
  ⟨~~~ ar.rd SNF_CHAL, ar, by and_intros <;> decide⟩

theorem test_meets_Unsnuff_10 :
  ∃ v : Word, ∃ s : State,
  (s.reaches SNF_CHALRSP = true) ∧
  (s.is SNF_STAT_ARMED = true) ∧
  (s.snf.armAge ≤ 1600) ∧
  (v ≠ ~~~ s.rd SNF_CHAL) :=
  ⟨ar.rd SNF_CHAL, ar, by and_intros <;> decide⟩

theorem test_meets_Unsnuff_11 :
  ∃ n : BitVec 5, ∃ s : State,
  (n.toNat < 24) ∧
  (bitOf s.snf.holding n.toNat = true) :=
  ⟨23, { us with snf := { us.snf with holding := 0x800000, holdLeft := [(23, 1)] } }, by decide, by decide⟩

theorem test_meets_WatchdogsAndTheirLimits_1 :
  ∃ s : State, ∃ v : Word,
  let c := s.get ⟨SNF_WWDCNT, 0, 16⟩
  let x := s.question
  (s.snf.wdRun = true) ∧
  (4 ≤ s.pstate) ∧
  (s.snf.only = false) ∧
  (v = 0xA5C3) ∧
  (s.snf.wwd.openAt ≤ c) ∧
  (c < s.snf.wwd.closeAt) :=
  ⟨rn, 0xA5C3, by and_intros <;> decide⟩

theorem test_meets_WatchdogsAndTheirLimits_2 :
  ∃ s : State, ∃ v : Word,
  let c := s.get ⟨SNF_WWDCNT, 0, 16⟩
  let x := s.question
  (s.snf.wdRun = true) ∧
  (4 ≤ s.pstate) ∧
  (s.snf.only = false) ∧
  (v = 0xA5C3) ∧
  (s.snf.wwd.openAt ≤ c) ∧
  (c < s.snf.wwd.closeAt) :=
  ⟨rn.wr SNF_WWDCNT 6249, 0xA5C3, by and_intros <;> decide⟩

theorem test_meets_WatchdogsAndTheirLimits_3 :
  ∃ s : State, ∃ v : Word,
  let c := s.get ⟨SNF_WWDCNT, 0, 16⟩
  let x := s.question
  (s.snf.wdRun = true) ∧
  (4 ≤ s.pstate) ∧
  (s.snf.only = false) ∧
  ((v ≠ 0xA5C3 ∨ c < s.snf.wwd.openAt ∨ s.snf.wwd.closeAt ≤ c)) :=
  ⟨rn.wr SNF_WWDCNT 6250, 0xA5C3, by and_intros <;> decide⟩

theorem test_meets_WatchdogsAndTheirLimits_4 :
  ∃ s : State, ∃ v : Word,
  let q := s.get ⟨SNF_QAWCNT, 0, 16⟩
  let x := s.question
  let ans : Word := (x + 0x69) ++ (x.rotateLeft 1 ^^^ 0x5A) ++ (~~~x) ++ (x ^^^ 0x3C)
  (s.snf.wdRun = true) ∧
  (4 ≤ s.pstate) ∧
  (s.snf.only = false) ∧
  (v = ans) ∧
  (s.snf.qaw.openAt ≤ q) ∧
  (q < s.snf.qaw.closeAt) :=
  ⟨rn, qaAnswer rn.question, by and_intros <;> decide⟩

theorem test_meets_WatchdogsAndTheirLimits_5 :
  ∃ s : State, ∃ v : Word,
  let q := s.get ⟨SNF_QAWCNT, 0, 16⟩
  let x := s.question
  let ans : Word := (x + 0x69) ++ (x.rotateLeft 1 ^^^ 0x5A) ++ (~~~x) ++ (x ^^^ 0x3C)
  (s.snf.wdRun = true) ∧
  (4 ≤ s.pstate) ∧
  (s.snf.only = false) ∧
  ((v ≠ ans ∨ q < s.snf.qaw.openAt ∨ s.snf.qaw.closeAt ≤ q)) :=
  ⟨rn, qaAnswer rn.question + 1, by and_intros <;> decide⟩

theorem test_meets_WatchdogsAndTheirLimits_6 :
  ∃ s : State,
  let x := s.question
  (s.wdCounts = true) :=
  ⟨rn, by decide⟩

theorem test_meets_WatchdogsAndTheirLimits_7 :
  ∃ m : Master, ∃ qa : Bool, ∃ v : Word, ∃ s : State,
  let a := if qa then SNF_QAWCFG else SNF_WWDCFG
  (s.admits m a = true) ∧
  (s.isSealed = true) ∧
  (0 < fld v 0 16) ∧
  (fld v 0 16 ≤ fld (s.latched a) 0 16) ∧
  (fld v 16 16 < fld v 0 16) ∧
  (fld (s.latched a) 16 16 ≤ fld v 16 16) :=
  ⟨.cluster, false, fld (sl.latched SNF_WWDCFG) 0 32, sl, by and_intros <;> decide⟩

theorem test_meets_ControlStoreAndSoftwareRequests_1 :
  ∃ s : State,
  (4 ≤ s.pstate) ∧
  (s.core.inReset = false) ∧
  (s.snf.only = false) ∧
  (s.noInj 0x19 0x19 = true) ∧
  (s.mc.flipped.contains 0x1FFF = false) ∧
  ((∀ a ∈ [0x1000 + s.mc.scan, 0x1400 + s.mc.scan], mf (s.mword a) 0 8 = mwChk (s.mword a) a)) :=
  ⟨rn, by and_intros <;> decide⟩

def hl : State := (rn.put DBG_STAT_HALTED 1).put KS_LC_STATE 1

theorem test_meets_ControlStoreAndSoftwareRequests_2 :
  ∃ s : State,
  (s.reaches MC_CSCTL = true) ∧
  (s.csReadable = true) :=
  ⟨hl, by decide, by decide⟩

theorem test_meets_ControlStoreAndSoftwareRequests_3 :
  ∃ s : State,
  let a := s.get MC_CSADDR_V
  (s.reaches MC_CSCTL = true) ∧
  (s.csWritable = true) ∧
  (0x1000 ≤ a) ∧
  (a < 0x1800) :=
  ⟨hl.put MC_CSADDR_V 0x17FF, by and_intros <;> decide⟩

theorem test_meets_ControlStoreAndSoftwareRequests_4 :
  ∃ n : BitVec 8, ∃ s : State,
  (34 ≤ n.toNat) ∧
  (vectorListed n.toNat = true) ∧
  (s.reaches (IC_VCFG n.toNat) = true) :=
  ⟨34, rn, by decide, by decide, by decide⟩

theorem test_meets_FlashCommandsAndOperations_1 :
  ∃ p, ∃ key : BitVec 16, ∃ s : State,
  (p ∈ [(Instr.flashProgram, 1), (Instr.flashErase, 2), (Instr.blankCheck, 3)]) ∧
  (s.lit = true) ∧
  (s.snf.only = false) ∧
  (s.is FLC_STAT_BUSY = false) ∧
  let a := s.get FLC_ADDR_V
  (key = 0x6C5E) ∧
  ((p.2 = 3 ∨ s.flashLocked a = false)) :=
  ⟨(Instr.flashProgram, 1), 0x6C5E, rn, List.Mem.head _, by and_intros <;> decide⟩

theorem test_meets_FlashCommandsAndOperations_2 :
  ∃ p, ∃ key : BitVec 16, ∃ s : State,
  (p ∈ [(Instr.flashProgram, 1), (Instr.flashErase, 2), (Instr.blankCheck, 3)]) ∧
  (s.lit = true) ∧
  (s.snf.only = false) ∧
  (s.is FLC_STAT_BUSY = false) ∧
  let a := s.get FLC_ADDR_V
  (key = 0x6C5E) ∧
  (p.2 ≠ 3) ∧
  (s.flashLocked a = true) :=
  ⟨(Instr.flashProgram, 1), 0x6C5E, rn.wr (FLC_LOCK 0) 1, List.Mem.head _, by and_intros <;> decide⟩

theorem test_meets_FlashCommandsAndOperations_3 :
  ∃ p, ∃ key : BitVec 16, ∃ s : State,
  (p ∈ [(Instr.flashProgram, 1), (Instr.flashErase, 2), (Instr.blankCheck, 3)]) ∧
  (s.lit = true) ∧
  (s.snf.only = false) ∧
  (s.is FLC_STAT_BUSY = false) ∧
  (key ≠ 0x6C5E) :=
  ⟨(Instr.flashProgram, 1), 0, rn, List.Mem.head _, by and_intros <;> decide⟩

def fop (op : Nat) : FlashOp := ⟨op, 0x46020, [1, 2, 3, 4, 5, 6, 7, 8], false⟩
def fst (op : Nat) : State := { rn with memi := { rn.memi with flash := some (fop op) } }
theorem test_meets_FlashCommandsAndOperations_4 :
  ∃ s : State, ∃ o : FlashOp,
  (s.pstate ≠ 0) ∧
  (s.memi.flash = some o) ∧
  (o.orphan = false) ∧
  (s.noInj 0x20 0x26 = true) ∧
  let l := o.addr / 32 * 32
  (o.op = 1) ∧
  (o.data.length = 8) ∧
  (s.lineZeros l ≤ 2) ∧
  (2 < (s.putLine l o.data).lineZeros l) :=
  ⟨fst 1, fop 1, by and_intros <;> decide⟩

theorem test_meets_FlashCommandsAndOperations_5 :
  ∃ s : State, ∃ o : FlashOp,
  (s.pstate ≠ 0) ∧
  (s.memi.flash = some o) ∧
  (o.orphan = false) ∧
  (s.noInj 0x20 0x26 = true) ∧
  (o.op = 2) :=
  ⟨fst 2, fop 2, by and_intros <;> decide⟩

theorem test_meets_FlashCommandsAndOperations_6 :
  ∃ s : State, ∃ o : FlashOp,
  (s.pstate ≠ 0) ∧
  (s.memi.flash = some o) ∧
  (o.orphan = false) ∧
  (s.noInj 0x20 0x26 = true) ∧
  (o.op = 3) :=
  ⟨fst 3, fop 3, by and_intros <;> decide⟩

theorem test_meets_ScrubAndLocks_1 :
  ∃ k : BitVec 1, ∃ s : State,
  (s.reaches (FLC_LOCK k.toNat) = true) :=
  ⟨0, rn, by decide⟩

theorem test_meets_ScrubAndLocks_2 :
  ∃ bank : BitVec 3, ∃ s : State, ∃ a : Nat, ∃ w : Word,
  (bank.toNat < 5) ∧
  (s.bankServed = true) ∧
  (a % 4 = 0) ∧
  (Store.get (fun _ => none) s.memi.wb bank.toNat = some (a, w)) :=
  ⟨4, { rn with memi := { rn.memi with wb := [(4, some (0x18000000, 5))] } }, 0x18000000, 5, by and_intros <;> decide⟩

theorem test_meets_ScrubAndLocks_3 :
  ∃ bank : BitVec 3, ∃ s : State,
  let b := bank.toNat
  let r := Store.get (fun _ => 0) s.memi.row b
  (b < 5) ∧
  (s.lit = true) ∧
  (s.det = false) ∧
  (Store.get (fun _ => none) s.memi.wb b = none) ∧
  (s.unitClass (bankBase b + 8 * r) = .good) ∧
  (s.unitClass (bankBase b + 8 * r + 4) = .good) :=
  ⟨4, rn, by and_intros <;> decide⟩

theorem test_meets_ScrubAndLocks_4 :
  ∃ bank : BitVec 3, ∃ s : State,
  let b := bank.toNat
  let r := Store.get (fun _ => 0) s.memi.row b
  (b < 5) ∧
  (s.lit = true) ∧
  (s.det = false) ∧
  (Store.get (fun _ => none) s.memi.wb b = none) ∧
  (s.unitClass (bankBase b + 8 * r) = .good) ∧
  (s.unitClass (bankBase b + 8 * r + 4) = .good) :=
  ⟨0, rn, by and_intros <;> decide⟩

theorem test_meets_ScrubAndLocks_5 :
  ∃ s : State,
  (s.lit = true) ∧
  (s.det = true) :=
  ⟨dt, by decide, by decide⟩

def q0 : State := ((((rn.put (CE_QCFG_EN 0) 1).put (CE_QCFG_TYPE 0) 1).put (CE_QCFG_LOG2DEPTH 0) 4).wr (CE_QBASE 0) 0x10001000).wr (CE_TWIN 0) 0x00010000

theorem test_meets_QueuesAndTheDirectLane_1 :
  ∃ m : Master, ∃ q : BitVec 8, ∃ v : Word, ∃ s : State,
  (s.admits m (CE_QDB q.toNat) = true) ∧
  (s.mirrors = false) ∧
  (s.get (CE_QCFG_TYPE q.toNat) = 1) ∧
  (fld v 0 12 < s.qDepth q.toNat) :=
  ⟨.cluster, 0, 15, q0, by and_intros <;> decide⟩

theorem test_meets_QueuesAndTheDirectLane_2 :
  ∃ m : Master, ∃ q : BitVec 8, ∃ v : Word, ∃ s : State,
  (s.admits m (CE_QBASE q.toNat) = true) ∧
  (s.mirrors = false) ∧
  (s.is (CE_QCFG_EN q.toNat) = false) ∧
  ((s.get (CE_QCFG_TYPE q.toNat) ≠ 1 ∨ bitOf v 4 = false)) ∧
  (fld v 4 16 ≤ 0xBFFF) :=
  ⟨.cluster, 255, 0xBFFF0, rn, by and_intros <;> decide⟩

theorem test_meets_QueuesAndTheDirectLane_3 :
  ∃ m : Master, ∃ s : State,
  (s.admits m CE_CTL = true) ∧
  (s.mirrors = false) ∧
  (s.get RING_PSTAT_ROLE ≠ 2) :=
  ⟨.cluster, rn, by decide, by decide, by decide⟩

theorem test_meets_QueuesAndTheDirectLane_4 :
  ∃ m : Master, ∃ s : State,
  (s.admits m CE_CTL = true) ∧
  (s.mirrors = false) ∧
  (s.get RING_PSTAT_ROLE = 2) :=
  ⟨.cluster, rn.put RING_PSTAT_ROLE 2, by decide, by decide, by decide⟩

def qf : State := ((q0.put (CE_QPTR_TAIL 0) 1).put CE_CTL_RUN 1).putWord 0x1000101C (BitVec.ofNat 32 (crc16 (List.replicate 30 0) * 65536))

theorem test_meets_QueuesAndTheDirectLane_5 :
  ∃ s : State, ∃ q : Nat,
  (s.ceOn = true) ∧
  (s.is CE_CTL_RUN = true) ∧
  (s.ledgerGood) ∧
  (q < 256) ∧
  let a := (s.rd (CE_QBASE q)).toNat + 32 * s.get (CE_QPTR_HEAD q)
  let o := entryOp q ((List.range 8).map (fun k => s.goodWord (a + 4 * k)))
  (s.turnSq = some q) ∧
  (s.entryGood q = true) :=
  ⟨qf, 0, by decide, by decide, ledgerGood_of _ rfl, by decide, by decide, by decide⟩

theorem test_meets_QueuesAndTheDirectLane_6 :
  ∃ s : State, ∃ q : Nat,
  (s.ceOn = true) ∧
  (s.is CE_CTL_RUN = true) ∧
  (s.ledgerGood) ∧
  (q < 256) ∧
  let a := (s.rd (CE_QBASE q)).toNat + 32 * s.get (CE_QPTR_HEAD q)
  let o := entryOp q ((List.range 8).map (fun k => s.goodWord (a + 4 * k)))
  (s.is (CE_QPTR_STALL q) = true) ∧
  (s.mirrors = false) ∧
  ((s.put (CE_QPTR_STALL q) 0).turnSq = some q) ∧
  (s.entryGood q = true) ∧
  (s.wordAt (a + 4) = s.goodWord (a + 4)) :=
  ⟨qf.put (CE_QPTR_STALL 0) 1, 0, by decide, by decide, ledgerGood_of _ rfl, by and_intros <;> decide⟩

def lreq : LaneReq := ⟨3, 0, 0, 0, []⟩
def la : State := { rn.onCore (fun c => { c with stations := [stn .chissue none] }) with ce := { rn.ce with lane := [lreq] } }

theorem test_meets_QueuesAndTheDirectLane_7 :
  ∃ s : State, ∃ r : LaneReq, ∃ rest : List LaneReq, ∃ x : Station,
  (s.ceClock = true) ∧
  (s.ce.lane = r :: rest) ∧
  (s.core.stations = [x]) ∧
  (x.n = r.st) ∧
  (x.kind = .chissue) ∧
  (x.result = none) ∧
  (s.is CE_CTL_RUN = false) :=
  ⟨la, lreq, [], stn .chissue none, by and_intros <;> decide⟩

theorem test_meets_QueuesAndTheDirectLane_8 :
  ∃ s : State, ∃ r : LaneReq, ∃ rest : List LaneReq, ∃ x : Station, ∃ tag,
  (s.ceClock = true) ∧
  (s.ce.lane = r :: rest) ∧
  (s.core.stations = [x]) ∧
  (x.n = r.st) ∧
  (x.kind = .chissue) ∧
  (x.result = none) ∧
  (s.is CE_CTL_RUN = true) ∧
  (r.op ≤ 0xF) ∧
  (needsChannel r.op = false) ∧
  (s.ledgerGood) ∧
  (s.freeTag (s.get CE_DLWIN_TBASE) (s.get CE_DLWIN_TCNT) = some tag) :=
  ⟨(la.put CE_CTL_RUN 1).wr CE_DLWIN 0x00010005, lreq, [], stn .chissue none, 5, by decide, by decide, by decide, of_decide_eq_true rfl, by decide, by decide, by decide, of_decide_eq_true rfl, by decide, ledgerGood_of _ rfl, by decide⟩

def op (n : Nat) (args : List Word) : CeOp := ceop 0 n .lane args none false
def ops (s : State) (o : CeOp) : State := { s with ce := { s.ce with ops := [o] } }
theorem test_meets_EngineOperations_1 :
  ∃ tag : BitVec 10, ∃ s : State, ∃ o : CeOp,
  (s.ceOn = true) ∧
  (s.ceFind tag.toNat = some o) ∧
  (o.started = true) ∧
  (o.atUnit = false) ∧
  (o.result = none) ∧
  (o.op = 0) :=
  ⟨0, ops rn (op 0 []), op 0 [], by and_intros <;> decide⟩

theorem test_meets_EngineOperations_2 :
  ∃ tag : BitVec 10, ∃ s : State, ∃ o : CeOp,
  (s.ceOn = true) ∧
  (s.ceFind tag.toNat = some o) ∧
  (o.started = true) ∧
  (o.atUnit = false) ∧
  (o.result = none) ∧
  (o.op = 7) :=
  ⟨0, ops rn (op 7 []), op 7 [], by and_intros <;> decide⟩

theorem test_meets_EngineOperations_3 :
  ∃ tag : BitVec 10, ∃ s : State, ∃ o : CeOp,
  (s.ceOn = true) ∧
  (s.ceFind tag.toNat = some o) ∧
  (o.started = true) ∧
  (o.atUnit = false) ∧
  (o.result = none) ∧
  (o.op = 8) :=
  ⟨0, ops rn (op 8 []), op 8 [], by and_intros <;> decide⟩

theorem test_meets_EngineOperations_4 :
  ∃ tag : BitVec 10, ∃ s : State, ∃ o : CeOp,
  (s.ceOn = true) ∧
  (s.ceFind tag.toNat = some o) ∧
  (o.started = true) ∧
  (o.atUnit = false) ∧
  (o.result = none) ∧
  (o.op = 0xB) :=
  ⟨0, ops rn (op 0xB []), op 0xB [], by and_intros <;> decide⟩

theorem test_meets_EngineOperations_5 :
  ∃ tag : BitVec 10, ∃ s : State, ∃ o : CeOp,
  (s.ceOn = true) ∧
  (s.ceFind tag.toNat = some o) ∧
  (o.started = true) ∧
  (o.atUnit = false) ∧
  (o.result = none) ∧
  (o.op = 0xE) ∧
  (s.codeAt (CE_LEDGER (fld (o.arg 0) 0 11)) = 0) :=
  ⟨0, ops rn (op 0xE [0x7FF]), op 0xE [0x7FF], by and_intros <;> decide⟩

theorem test_meets_ChannelLifecycle_1 :
  ∃ tag : BitVec 10, ∃ s : State, ∃ o : CeOp, ∃ i,
  (s.ceOn = true) ∧
  (s.ceFind tag.toNat = some o) ∧
  (o.started = true) ∧
  (o.atUnit = false) ∧
  (o.result = none) ∧
  (o.op = 0xC) ∧
  (s.mirrors = false) ∧
  (s.ledgerGood) ∧
  (s.freeChan 0 1024 = some i) ∧
  ((fld (o.arg 0) 0 3 = 2 → s.timerCount 1024 < 64)) :=
  ⟨0, ops rn (op 0xC [2]), op 0xC [2], 0, by decide, by decide, by decide, of_decide_eq_true rfl, by decide, by decide, by decide, ledgerGood_of _ rfl, by decide, by decide⟩

def allOpen : State := { rn with regs := (List.range 1024).map (fun k => (CE_CHINFO k, 0xFFFFFFFF)) }
theorem open_get (d : Nat → Word) (l : List Nat) (j : Nat) (h : j ∈ l) :
   Store.get d (l.map (fun k => (CE_CHINFO k, (0xFFFFFFFF : Word)))) (CE_CHINFO j) = 0xFFFFFFFF := by
 induction l with
 | nil => cases h
 | cons a t ih =>
   simp only [List.map, Store.get]
   split
   · rfl
   · next hne => exact ih ((List.mem_cons.1 h).resolve_left (fun e => hne (by rw [e])))
theorem open_none (o : CeOp) : ∀ n k, k + n ≤ 1024 → (ops allOpen o).freeChan k n = none
 | 0, _, _ => rfl
 | n + 1, k, h => by
   have e : (ops allOpen o).rd (CE_CHINFO k) = 0xFFFFFFFF := open_get _ _ k (List.mem_range.2 (by omega))
   have p : (ops allOpen o).is (CE_CHINFO_OPEN k) = true := by
     show (fld ((ops allOpen o).rd (CE_CHINFO k)) 6 1 != 0) = true
     rw [e]; decide
   simp only [State.freeChan, p, if_true]
   exact open_none o n (k + 1) (by omega)
theorem test_meets_ChannelLifecycle_2 :
  ∃ tag : BitVec 10, ∃ s : State, ∃ o : CeOp,
  (s.ceOn = true) ∧
  (s.ceFind tag.toNat = some o) ∧
  (o.started = true) ∧
  (o.atUnit = false) ∧
  (o.result = none) ∧
  (o.op = 0xC) ∧
  (s.mirrors = false) ∧
  (s.ledgerGood) ∧
  (s.freeChan 0 1024 = none) :=
  ⟨0, ops allOpen (op 0xC []), op 0xC [], by decide, by decide, by decide, of_decide_eq_true rfl, by decide, by decide, by decide, ledgerGood_of _ rfl, (open_none _ 1024 0 (by decide))⟩

def ch0 : State := ((rn.put (CE_CHINFO_OPEN 0) 1).put (CE_CHINFO_GEN 0) 1).put (CE_CHINFO_KIND 0) 1

theorem test_meets_ChannelLifecycle_3 :
  ∃ tag : BitVec 10, ∃ s : State, ∃ o : CeOp,
  (s.ceOn = true) ∧
  (s.ceFind tag.toNat = some o) ∧
  (o.started = true) ∧
  (o.atUnit = false) ∧
  (o.result = none) ∧
  (o.op = 0xD) ∧
  let h := fld (o.arg 0) 0 16
  (s.current h = false) :=
  ⟨0, ops rn (op 0xD [1024]), op 0xD [1024], by and_intros <;> decide⟩

theorem test_meets_ChannelLifecycle_4 :
  ∃ tag : BitVec 10, ∃ s : State, ∃ o : CeOp,
  (s.ceOn = true) ∧
  (s.ceFind tag.toNat = some o) ∧
  (o.started = true) ∧
  (o.atUnit = false) ∧
  (o.result = none) ∧
  (o.op = 0xD) ∧
  let h := fld (o.arg 0) 0 16
  (s.current h = true) ∧
  (o.chan = none) ∧
  (s.ledgerGood) :=
  ⟨0, ops ch0 (op 0xD [1024]), op 0xD [1024], by decide, by decide, by decide, of_decide_eq_true rfl, by decide, by decide, by decide, of_decide_eq_true rfl, ledgerGood_of _ rfl⟩

def opd (n : Nat) (src : CeSrc) (fl tmo : Nat) (r : Option CeRes) : CeOp := ⟨0, n, 1024, fl, tmo, [], src, true, false, r, false, 0⟩
theorem test_meets_CompletionsAndEvents_1 :
  ∃ tag : BitVec 10, ∃ s : State, ∃ o : CeOp, ∃ r : CeRes, ∃ q,
  (s.ceClock = true) ∧
  (s.ce.ops = [o]) ∧
  (o.tag = tag.toNat) ∧
  (o.result = some r) ∧
  (o.held = false) ∧
  (o.op ≠ 0xD) ∧
  (o.src = .sq q) ∧
  (o.flags / 2 % 2 = 1) ∧
  (r.status = stOk) :=
  ⟨0, ops rn (opd 0 (.sq 0) 2 0 (some (res 0))), opd 0 (.sq 0) 2 0 (some (res 0)), res 0, 0, by and_intros <;> decide⟩

theorem test_meets_CompletionsAndEvents_2 :
  ∃ tag : BitVec 10, ∃ s : State, ∃ o : CeOp, ∃ r : CeRes,
  (s.ceClock = true) ∧
  (s.ce.ops = [o]) ∧
  (o.tag = tag.toNat) ∧
  (o.result = some r) ∧
  (o.held = false) ∧
  (o.op ≠ 0xD) ∧
  (o.src = .lane) ∧
  (s.core.stations = []) :=
  ⟨0, ops rn (opd 0 .lane 0 0 (some (res 0))), opd 0 .lane 0 0 (some (res 0)), res 0, by and_intros <;> decide⟩

theorem test_meets_CompletionsAndEvents_3 :
  ∃ tag : BitVec 10, ∃ s : State, ∃ o : CeOp, ∃ i,
  (s.ceOn = true) ∧
  (s.ceFind tag.toNat = some o) ∧
  (o.result = none) ∧
  (o.tmo ≠ 0) ∧
  (s.heldBack o.tag = false) ∧
  (o.chan = some i) :=
  ⟨0, ops rn (opd 7 .lane 0 1 none), opd 7 .lane 0 1 none, 0, by and_intros <;> decide⟩

def tmo : CeOp := { opd 8 .lane 0 0 none with atUnit := true }
def tm : State := { ops ch0 tmo with ce := { (ops ch0 tmo).ce with timers := [(0, some (true, 0))] } }

theorem test_meets_CompletionsAndEvents_4 :
  ∃ ch : BitVec 10, ∃ s : State, ∃ per : Bool, ∃ n : Nat, ∃ o,
  (s.ceOn = true) ∧
  (Store.get (fun _ => none) s.ce.timers ch.toNat = some (per, n)) ∧
  (o ∈ s.ce.ops) ∧
  (o.op = 8) ∧
  (o.chan = some ch.toNat) ∧
  (o.atUnit = true) ∧
  (o.result = none) :=
  ⟨0, tm, true, 0, tmo, by and_intros <;> decide⟩

theorem test_meets_CompletionsAndEvents_5 :
  ∃ ch : BitVec 10, ∃ s : State, ∃ o,
  (s.ceOn = true) ∧
  (s.is (CE_CHINFO_OPEN ch.toNat) = true) ∧
  (s.ce.ops.find? (fun o => o.op == 7 && o.chan == some ch.toNat && o.started && o.result.isNone) = some o) :=
  ⟨0, ops ch0 (opd 7 .lane 0 0 none), opd 7 .lane 0 0 none, by decide, by decide, by decide⟩

theorem test_meets_CompletionsAndEvents_6 :
  ∃ ch : BitVec 10, ∃ s : State,
  (s.ceOn = true) ∧
  (s.is (CE_CHINFO_OPEN ch.toNat) = true) ∧
  (s.ce.ops = []) ∧
  (s.get (CE_CHINFO_EQ ch.toNat) = 0) :=
  ⟨0, ch0, by and_intros <;> decide⟩

def sls (n : Nat) : State := ((rn.put (MON_CFG_EN n) 1).put (MON_STAT_LIVE n) 1)
theorem test_meets_SliceOutputsAndFaults_1 :
  ∃ k : BitVec 7, ∃ s : State,
  let n := k.toNat
  let u := s.get (MON_THR_UPPER n)
  let l := s.get (MON_THR_LOWER n)
  let y := s.get (MON_FILT_HYST n)
  (s.pm.held = []) ∧
  (s.matrixOn = true) ∧
  (s.sliceLive n = true) ∧
  (s.get (MON_CFG_MODE n) = 0) ∧
  ((n < 127 → s.get (MON_CFG_MODE (n + 1)) ≠ 2)) :=
  ⟨127, sls 127, by and_intros <;> decide⟩

theorem test_meets_SliceOutputsAndFaults_2 :
  ∃ k : BitVec 7, ∃ s : State,
  let n := k.toNat
  let u := s.get (MON_THR_UPPER n)
  let l := s.get (MON_THR_LOWER n)
  let y := s.get (MON_FILT_HYST n)
  (s.pm.held = []) ∧
  (s.matrixOn = true) ∧
  (s.sliceLive n = true) ∧
  (s.get (MON_CFG_MODE n) = 0) ∧
  ((n < 127 → s.get (MON_CFG_MODE (n + 1)) ≠ 2)) :=
  ⟨0, sls 0, by and_intros <;> decide⟩

theorem test_meets_SliceOutputsAndFaults_3 :
  ∃ k : BitVec 7, ∃ s : State, ∃ up : Bool,
  let n := k.toNat
  let u := s.get (MON_THR_UPPER n)
  let l := s.get (MON_THR_LOWER n)
  let y := s.get (MON_FILT_HYST n)
  let raw := s.is (if up then MON_STAT_UR n else MON_STAT_LR n)
  (s.pm.held = []) ∧
  (s.noInj 0x27 0x27 = true) ∧
  (s.lit = true) ∧
  (s.matrixOn = true) ∧
  (s.sliceLive n = true) ∧
  (s.is (MON_STAT_ISO n) = false) ∧
  (s.digital n = false) ∧
  (s.groupsOf n 32 = []) ∧
  (s.sliceChans n = []) ∧
  ((∀ j < 128, s.is (MON_CFG_FLT j) = false)) ∧
  (s.is (if up then MON_STAT_UF n else MON_STAT_LF n) ≠ raw) :=
  ⟨127, (sls 127).put (MON_STAT_UR 127) 1, true, by and_intros <;> decide⟩

theorem test_meets_SliceOutputsAndFaults_4 :
  ∃ k : BitVec 7, ∃ s : State, ∃ up : Bool,
  let n := k.toNat
  let u := s.get (MON_THR_UPPER n)
  let l := s.get (MON_THR_LOWER n)
  let y := s.get (MON_FILT_HYST n)
  let raw := s.is (if up then MON_STAT_UR n else MON_STAT_LR n)
  (s.pm.held = []) ∧
  (s.noInj 0x27 0x27 = true) ∧
  (s.lit = true) ∧
  (s.matrixOn = true) ∧
  (s.sliceLive n = true) ∧
  (s.is (MON_STAT_ISO n) = false) ∧
  (s.digital n = false) ∧
  (s.groupsOf n 32 = []) ∧
  (s.sliceChans n = []) ∧
  ((∀ j < 128, s.is (MON_CFG_FLT j) = false)) ∧
  (s.is (if up then MON_STAT_UF n else MON_STAT_LF n) ≠ raw) :=
  ⟨127, (sls 127).put (MON_STAT_LR 127) 1, false, by and_intros <;> decide⟩

def rsl : State := (((sls 5).put (MON_CFG_MODE 5) 2).put (MON_THR_UPPER 5) 1).put (MON_THR_LOWER 5) 1
theorem test_meets_SliceOutputsAndFaults_5 :
  ∃ k : BitVec 7, ∃ s : State,
  let n := k.toNat
  let u := s.get (MON_THR_UPPER n)
  let l := s.get (MON_THR_LOWER n)
  let y := s.get (MON_FILT_HYST n)
  (s.get (MON_CFG_MODE n) = 2) ∧
  (s.sliceLive n = true) ∧
  (y < u) ∧
  (y < l) ∧
  (0 < Store.get (fun _ => 0) s.mon.input n) ∧
  (Store.get (fun _ => 0) s.mon.input n < 16 * 1023) :=
  ⟨5, { rsl with mon := { rsl.mon with input := [(5, 8000)] } }, by and_intros <;> decide⟩

theorem test_meets_SliceOutputsAndFaults_6 :
  ∃ k : BitVec 7, ∃ s : State,
  let n := k.toNat
  let u := s.get (MON_THR_UPPER n)
  let l := s.get (MON_THR_LOWER n)
  let y := s.get (MON_FILT_HYST n)
  (s.lit = true) ∧
  (s.is (MON_CFG_EN n) = true) ∧
  (s.get (MON_CFG_MODE n) = 0) ∧
  (s.groupsOf n 32 = []) ∧
  (s.get ⟨MON_STAT n, 0, 7⟩ = 0) :=
  ⟨3, rn.put (MON_CFG_EN 3) 1, by and_intros <;> decide⟩

theorem test_meets_SliceOutputsAndFaults_7 :
  ∃ k : BitVec 7, ∃ s : State,
  let n := k.toNat
  (s.matrixOn = true) ∧
  (s.sliceLive n = true) ∧
  (s.unwatched n = false) ∧
  (s.noInj 0x42 0x42 = true) ∧
  (s.digital n = false) :=
  ⟨3, sls 3, by and_intros <;> decide⟩

def vt : State := ((((((rn.put (MON_GRPC_KIND 0) 1).put (MON_GRPC_M1 0) 1).put (MON_GRPC_M2 0) 2).put (MON_CFG_EN 1) 1).put (MON_STAT_LIVE 1) 1).put (MON_STAT_UF 1) 1)

theorem test_meets_SliceOutputsAndFaults_8 :
  ∃ g : BitVec 5, ∃ s : State, ∃ m : Nat,
  (s.matrixOn = true) ∧
  (s.noInj 0x41 0x41 = true) ∧
  (s.disagree g.toNat true = true) ∧
  (s.minority g.toNat true = some m) :=
  ⟨0, vt, 1, by and_intros <;> decide⟩

theorem test_meets_SliceOutputsAndFaults_9 :
  ∃ k : BitVec 7, ∃ s : State,
  let n := k.toNat
  (s.codeAt (CE_LEDGER (0x510 + n)) = 0) ∧
  (s.ledgerHeld (0x510 + n) = false) ∧
  (s.is (MON_STAT_ISO n) = true) ∧
  (s.pend (s.get (MON_STAT_ISOID n)) = false) ∧
  (s.groupsOf n 32 = []) ∧
  (s.reaches (MON_CFG n) = true) ∧
  ((∀ j < 128, s.is (MON_CFG_FLT j) = false)) :=
  ⟨127, rn.put (MON_STAT_ISO 127) 1, by and_intros <;> decide⟩

theorem test_meets_SliceSettingsOperationsAndCalibration_1 :
  ∃ m : Master, ∃ k : BitVec 7, ∃ s : State,
  let n := k.toNat
  (s.admits m (MON_THR n) = true) ∧
  (s.pm.phase = false) ∧
  (s.pm.held = []) ∧
  (s.digital n = true) :=
  ⟨.cluster, 127, sl.put (MON_CFG_MODE 127) 1, by and_intros <;> decide⟩

theorem test_meets_SliceSettingsOperationsAndCalibration_2 :
  ∃ m : Master, ∃ k : BitVec 7, ∃ s : State,
  let n := k.toNat
  (s.admits m (MON_THR n) = true) ∧
  (s.pm.phase = false) ∧
  (s.pm.held = []) ∧
  (s.get (MON_CFG_MODE n) = 0) :=
  ⟨.cluster, 0, sl, by and_intros <;> decide⟩

theorem test_meets_SliceSettingsOperationsAndCalibration_3 :
  ∃ m : Master, ∃ k : BitVec 2, ∃ s : State,
  (s.admits m (MON_WSET k.toNat) = true) ∧
  (s.pm.phase = false) ∧
  (s.pm.held = []) ∧
  (s.watchCount 128 < 16) ∧
  (s.latched (MON_WSET k.toNat) &&& ~~~ s.rd (MON_WSET k.toNat) = 0) :=
  ⟨.cluster, 0, sl, by and_intros <;> decide⟩

theorem test_meets_SliceSettingsOperationsAndCalibration_4 :
  ∃ s : State,
  (s.pstate = 3) ∧
  (s.ceOn = true) ∧
  (s.mon.latched = []) :=
  ⟨rn.put PM_STAT_STATE 3, by decide, by decide, by decide⟩

theorem test_meets_SliceSettingsOperationsAndCalibration_5 :
  ∃ tag : BitVec 10, ∃ s : State, ∃ o : CeOp,
  (s.runsOp tag 4 o) :=
  ⟨0, ops rn (op 4 []), op 4 [], by unfold State.runsOp; decide⟩

theorem test_meets_SliceSettingsOperationsAndCalibration_6 :
  ∃ tag : BitVec 10, ∃ s : State, ∃ o : CeOp,
  (s.runsOp tag 5 o) :=
  ⟨0, ops rn (op 5 []), op 5 [], by unfold State.runsOp; decide⟩

theorem test_meets_SliceSettingsOperationsAndCalibration_7 :
  ∃ tag : BitVec 10, ∃ s : State, ∃ o : CeOp,
  let c := o.handle % 1024
  (s.runsOp tag 6 o) ∧
  (s.is (MON_CFG_EN (s.chBound c)) = false) :=
  ⟨0, ops rn (op 6 []), op 6 [], by unfold State.runsOp; decide, by decide⟩

theorem test_meets_SliceSettingsOperationsAndCalibration_8 :
  ∃ tag : BitVec 10, ∃ s : State, ∃ o : CeOp,
  let c := o.handle % 1024
  (s.runsOp tag 6 o) ∧
  let d := if bitOf (o.arg 0) 1 then (if (s.adcQ 1).length < (s.adcQ 0).length then 1 else 0) else fld (o.arg 0) 0 1
  (s.is (MON_CFG_EN (s.chBound c)) = true) ∧
  (s.is (ADC_STAT_ISO d) = true) :=
  ⟨0, ops ((sls 0).put (ADC_STAT_ISO 0) 1) (op 6 []), op 6 [], by unfold State.runsOp; decide, by decide, by decide⟩

theorem test_meets_SliceSettingsOperationsAndCalibration_9 :
  ∃ tag : BitVec 10, ∃ s : State, ∃ o : CeOp,
  let c := o.handle % 1024
  (s.runsOp tag 6 o) ∧
  let d := if bitOf (o.arg 0) 1 then (if (s.adcQ 1).length < (s.adcQ 0).length then 1 else 0) else fld (o.arg 0) 0 1
  (s.is (MON_CFG_EN (s.chBound c)) = true) ∧
  (s.is (ADC_STAT_ISO d) = false) :=
  ⟨0, ops (sls 0) (op 6 []), op 6 [], by unfold State.runsOp; decide, by decide, by decide⟩

def adcOp : CeOp := ⟨0, 6, 0, 0, 0, [0], .lane, true, true, none, false, 0⟩
theorem test_meets_SliceSettingsOperationsAndCalibration_10 :
  ∃ c : BitVec 1, ∃ codes : List (BitVec 14), ∃ s : State, ∃ o : CeOp, ∃ q : List Nat,
  (s.adcRuns = true) ∧
  (s.mon.refd.contains c.toNat = true) ∧
  (s.is (ADC_STAT_ON c.toNat) = true) ∧
  (s.adcQ c.toNat = o.tag :: q) ∧
  (o.tag ∉ q) ∧
  (s.ceFind o.tag = some o) ∧
  (o.op = 6) ∧
  (o.atUnit = true) ∧
  (o.result = none) ∧
  (codes.length = fld (o.arg 0) 4 4 + 1) :=
  ⟨1, [0x3FFF], { ops (rn.put (ADC_STAT_ON 1) 1) adcOp with mon := { rn.mon with adc1 := [0], refd := [1] } }, adcOp, [], by and_intros <;> decide⟩

theorem test_meets_SliceSettingsOperationsAndCalibration_11 :
  ∃ b : BitVec 1, ∃ s : State,
  let c := b.toNat
  (s.adcRuns = true) ∧
  (s.noInj 0x43 0x44 = true) ∧
  (s.get (ADC_STAT_STEP c) < 7) :=
  ⟨1, rn.put (ADC_STAT_STEP 1) 6, by decide, by decide, by decide⟩

theorem test_meets_SliceSettingsOperationsAndCalibration_12 :
  ∃ b : BitVec 1, ∃ s : State,
  let c := b.toNat
  (s.adcRuns = true) ∧
  (s.noInj 0x43 0x44 = true) ∧
  (s.get (ADC_STAT_STEP c) = 7) :=
  ⟨1, rn.put (ADC_STAT_STEP 1) 7, by decide, by decide, by decide⟩

theorem test_meets_SliceSettingsOperationsAndCalibration_13 :
  ∃ s : State, ∃ code : BitVec 14,
  (s.adcRuns = true) ∧
  (s.noInj 0x43 0x44 = true) ∧
  (9504 ≤ code.toNat) ∧
  (code.toNat ≤ 9696) :=
  ⟨rn, 9504, by and_intros <;> decide⟩

theorem test_meets_SliceSettingsOperationsAndCalibration_14 :
  ∃ s : State, ∃ code : BitVec 14,
  (s.adcRuns = true) ∧
  (s.noInj 0x43 0x44 = true) ∧
  (9504 ≤ code.toNat) ∧
  (code.toNat ≤ 9696) :=
  ⟨rn, 9696, by and_intros <;> decide⟩

theorem test_meets_SliceSettingsOperationsAndCalibration_15 :
  ∃ s : State, ∃ code : BitVec 14,
  (s.adcRuns = true) ∧
  (s.noInj 0x43 0x44 = true) ∧
  (code.toNat < 9504 ∨ 9696 < code.toNat) :=
  ⟨rn, 9503, by decide, by decide, by decide⟩

theorem test_meets_SliceSettingsOperationsAndCalibration_16 :
  ∃ s : State, ∃ code : BitVec 14,
  (s.adcRuns = true) ∧
  (s.noInj 0x43 0x44 = true) ∧
  (code.toNat < 9504 ∨ 9696 < code.toNat) :=
  ⟨rn, 9697, by decide, by decide, by decide⟩

theorem test_meets_PortOperationsAndTransactions_1 :
  ∃ p, ∃ tag : BitVec 10, ∃ s : State, ∃ o : CeOp,
  (p ∈ [(Instr.portRead, 1), (Instr.portWrite, 2), (Instr.portXfer, 3)]) ∧
  (s.runsOp tag p.2 o) ∧
  let c := o.handle % 1024
  (s.chKind c ≠ 4 ∨ p.2 = 3) :=
  ⟨(Instr.portRead, 1), 0, ops rn (op 1 []), op 1 [], List.Mem.head _, by unfold State.runsOp; decide, by decide⟩

def lp : State := (rn.put (CE_CHINFO_OPEN 0) 1).put (CE_CHINFO_KIND 0) 4

theorem test_meets_PortOperationsAndTransactions_2 :
  ∃ p, ∃ tag : BitVec 10, ∃ s : State, ∃ o : CeOp,
  (p ∈ [(Instr.portRead, 1), (Instr.portWrite, 2), (Instr.portXfer, 3)]) ∧
  (s.runsOp tag p.2 o) ∧
  let c := o.handle % 1024
  (s.chKind c = 4) ∧
  (p.2 = 1) :=
  ⟨(Instr.portRead, 1), 0, ops lp (op 1 []), op 1 [], List.Mem.head _, by unfold State.runsOp; decide, by decide, by decide⟩

theorem test_meets_PortOperationsAndTransactions_3 :
  ∃ p, ∃ tag : BitVec 10, ∃ s : State, ∃ o : CeOp,
  (p ∈ [(Instr.portRead, 1), (Instr.portWrite, 2), (Instr.portXfer, 3)]) ∧
  (s.runsOp tag p.2 o) ∧
  let c := o.handle % 1024
  (s.chKind c = 4) ∧
  (p.2 = 2) :=
  ⟨(Instr.portWrite, 2), 0, ops lp (op 2 []), op 2 [], (List.Mem.tail _ (List.Mem.head _)), by unfold State.runsOp; decide, by decide, by decide⟩

def popn (n : Nat) (a : List Word) : CeOp := ⟨7, n, 0, 0, 0, a, .lane, true, true, none, false, 0⟩
def pst (pers : Nat) (part : List Word) : State :=
 { (((rn.put (PORT_CFG_PERS 5) pers).put (CE_CHINFO_OPEN 0) 1).put (CE_CHINFO_KIND 0) 1) with ports := { rn.ports with partners := [(0, part)] } }
def pq (o : CeOp) (x : List (Nat × Option PortXfer)) : State :=
 { pst 4 [0x1215, 4, 0, 0] with ce := { rn.ce with ops := [o] }, ports := { (pst 4 [0x1215, 4, 0, 0]).ports with queue := [(5, 7)], cur := x } }
theorem test_meets_PortOperationsAndTransactions_4 :
  ∃ k : BitVec 4, ∃ s : State, ∃ o : CeOp,
  let p := k.toNat
  (s.portRuns p = true) ∧
  (s.is (PORT_STAT_HUNG p) = false) ∧
  (s.pers p = 4) ∧
  (s.portBank p = true) ∧
  (s.portCur p = none) ∧
  (s.is (PORT_CTL_DAA p) = false) ∧
  (s.is (PORT_STAT_TEST p) = false) ∧
  (s.portNext p = some o) ∧
  (o.op = 2) ∧
  (fld (o.arg 0) 16 3 = 0) ∧
  (fld (o.arg 0) 8 8 = 1) ∧
  (s.pValid (s.opPartner o) = true) ∧
  (s.partnerPort (s.opPartner o) = p) ∧
  (s.recordGood (s.opPartner o)) ∧
  (s.ptInj p = none) :=
  ⟨5, pq (popn 2 [0x100]) [], popn 2 [0x100], by decide, by decide, by decide, of_decide_eq_true rfl, by decide, by decide, by decide, of_decide_eq_true rfl, by decide, by decide, by decide, of_decide_eq_true rfl, by decide, recordGood_of _ _ rfl, by decide⟩

def pxf (n los : Nat) : PortXfer := ⟨7, [], 0, n, false, [], false, los, none, false, 4⟩
theorem test_meets_PortOperationsAndTransactions_5 :
  ∃ k : BitVec 4, ∃ s : State, ∃ x : PortXfer, ∃ o : CeOp, ∃ l : List Byte,
  let p := k.toNat
  (s.portRuns p = true) ∧
  (s.is (PORT_STAT_HUNG p) = false) ∧
  (s.pers p = 4) ∧
  (s.portBank p = true) ∧
  (s.portCur p = some x) ∧
  (s.ceFind x.tag = some o) ∧
  (x.inj = none) ∧
  (o.op = 1) ∧
  (0 < x.need) ∧
  (x.need ≤ l.length) ∧
  (x.block = false) ∧
  (x.pec = false) :=
  ⟨5, pq (popn 1 []) [(5, some (pxf 2 0))], pxf 2 0, popn 1 [], [1, 2], by and_intros <;> decide⟩

theorem test_meets_PortOperationsAndTransactions_6 :
  ∃ k : BitVec 4, ∃ s : State, ∃ x : PortXfer, ∃ o : CeOp,
  let p := k.toNat
  (s.portRuns p = true) ∧
  (s.is (PORT_STAT_HUNG p) = false) ∧
  (s.pers p = 4) ∧
  (s.portBank p = true) ∧
  (s.portCur p = some x) ∧
  (s.ceFind x.tag = some o) ∧
  (x.inj = none) ∧
  (x.tmo ≠ 0) :=
  ⟨5, pq (popn 1 []) [(5, some (pxf 2 0))], pxf 2 0, popn 1 [], by and_intros <;> decide⟩

theorem test_meets_PortOperationsAndTransactions_7 :
  ∃ k : BitVec 4, ∃ s : State, ∃ x : PortXfer, ∃ o : CeOp,
  let p := k.toNat
  (s.portRuns p = true) ∧
  (s.is (PORT_STAT_HUNG p) = false) ∧
  (s.pers p = 4) ∧
  (s.portBank p = true) ∧
  (s.portCur p = some x) ∧
  (s.ceFind x.tag = some o) ∧
  (x.inj = none) ∧
  (x.losses < 3) :=
  ⟨5, pq (popn 1 []) [(5, some (pxf 2 2))], pxf 2 2, popn 1 [], by and_intros <;> decide⟩

theorem test_meets_PortOperationsAndTransactions_8 :
  ∃ k : BitVec 4, ∃ s : State, ∃ x : PortXfer, ∃ o : CeOp,
  let p := k.toNat
  (s.portRuns p = true) ∧
  (s.is (PORT_STAT_HUNG p) = false) ∧
  (s.pers p = 4) ∧
  (s.portBank p = true) ∧
  (s.portCur p = some x) ∧
  (s.ceFind x.tag = some o) ∧
  (x.inj = none) ∧
  (x.losses = 3) :=
  ⟨5, pq (popn 1 []) [(5, some (pxf 2 3))], pxf 2 3, popn 1 [], by and_intros <;> decide⟩

theorem test_meets_PortRecoveryAndPartnerRecords_1 :
  ∃ k : BitVec 4, ∃ s : State,
  let p := k.toNat
  (s.portRuns p = true) ∧
  (s.pers p = 4) ∧
  (s.portCur p = none) ∧
  (s.mirrors = false) ∧
  (s.portBank p = true) ∧
  (s.is (PORT_STAT_HUNG p) = false) :=
  ⟨5, pst 4 [], by and_intros <;> decide⟩

theorem test_meets_PortRecoveryAndPartnerRecords_2 :
  ∃ k : BitVec 4, ∃ s : State,
  let p := k.toNat
  (s.portRuns p = true) ∧
  (s.pers p = 4) ∧
  (s.portCur p = none) ∧
  (s.mirrors = false) ∧
  (s.portBank p = true) ∧
  (s.is (PORT_STAT_HUNG p) = true) :=
  ⟨5, (pst 4 []).put (PORT_STAT_HUNG 5) 1, by and_intros <;> decide⟩

theorem test_meets_PortRecoveryAndPartnerRecords_3 :
  ∃ k : BitVec 4, ∃ s : State,
  let p := k.toNat
  (s.portRuns p = true) ∧
  (s.pers p = 4) ∧
  (s.portCur p = none) ∧
  (s.mirrors = false) ∧
  (s.portBank p = true) ∧
  (s.reaches (PORT_CTL p) = true) :=
  ⟨5, pst 4 [], by and_intros <;> decide⟩

theorem test_meets_PortRecoveryAndPartnerRecords_4 :
  ∃ k : BitVec 4, ∃ s : State,
  let p := k.toNat
  (s.codeAt (CE_LEDGER (0x500 + p)) = 0) ∧
  (s.ledgerHeld (0x500 + p) = false) ∧
  (s.is (PORT_STAT_ISO p) = true) ∧
  (s.pend (s.get (PORT_STAT_ISOID p)) = false) ∧
  (s.get RING_PSTAT_ROLE ≠ 2) ∧
  (s.reaches (PORT_CTL p) = true) :=
  ⟨15, rn.put (PORT_STAT_ISO 15) 1, by and_intros <;> decide⟩

theorem test_meets_PortRecoveryAndPartnerRecords_5 :
  ∃ s : State,
  (s.recordGood (s.get PORT_PIDX_V)) ∧
  (s.reaches PORT_PCMD = true) :=
  ⟨pst 4 [0x1215, 4, 0, 0], recordGood_of _ _ rfl, by decide⟩

theorem test_meets_PortRecoveryAndPartnerRecords_6 :
  ∃ s : State,
  let n := s.get PORT_PIDX_V
  (s.codeAt (CE_LEDGER (0x600 + n / 8)) = 0) ∧
  (s.ledgerHeld (0x600 + n / 8) = false) ∧
  (s.pIso n = true) ∧
  (s.pend 0x52 = false) ∧
  (s.reaches PORT_PCMD = true) :=
  ⟨pst 4 [0x80001215, 4, 0, 0], by and_intros <;> decide⟩

theorem test_meets_PortRecoveryAndPartnerRecords_7 :
  ∃ m : Master, ∃ s : State,
  (s.admits m PORT_PCMD = true) ∧
  let n := s.get PORT_PIDX_V
  (s.isSealed = true) ∧
  (s.pField n 5 1 = 1) :=
  ⟨.cluster, { pst 4 [0x1235, 4, 0, 0] with regs := (rn.put KS_IMGSEL_SEALED 1).regs }, by decide, by decide, by decide⟩

theorem test_meets_PortRecoveryAndPartnerRecords_8 :
  ∃ m : Master, ∃ s : State,
  (s.admits m PORT_PCMD = true) ∧
  let n := s.get PORT_PIDX_V
  (s.pField n 5 1 = 0) ∧
  let v := s.rd (PORT_PDATA 0)
  (s.pers (fld v 0 4) = 4) ∧
  (8 ≤ fld v 8 7) ∧
  (fld v 8 7 ≤ 0x77) ∧
  (fld v 16 4 ≤ 2) ∧
  (fld (s.rd (PORT_PDATA 1)) 16 7 = 0) :=
  ⟨.cluster, (((pst 4 [0x1215, 4, 0, 0]).wr (PORT_PDATA 0) 0x7715).wr (PORT_PDATA 1) 0), by and_intros <;> decide⟩

theorem test_meets_PortRecoveryAndPartnerRecords_9 :
  ∃ k : BitVec 4, ∃ s : State,
  let p := k.toNat
  (s.portRuns p = true) ∧
  (s.pers p = 1) ∧
  (s.portCur p = none) ∧
  (s.ports.partners = []) :=
  ⟨5, { pst 1 [] with ports := rn.ports }, by and_intros <;> decide⟩

theorem test_meets_PartnerEvents_1 :
  ∃ k : BitVec 4, ∃ s : State,
  let p := k.toNat
  (s.portRuns p = true) ∧
  (s.is (PORT_STAT_HUNG p) = false) ∧
  (s.pstate ≠ 4) ∧
  (s.portCur p = none) ∧
  (s.portBank p = true) ∧
  (s.portQueue p = []) ∧
  (s.ports.served.contains p = false) ∧
  (s.pm.phase = false) ∧
  (s.pers p = 1) ∧
  (s.ports.partners = []) :=
  ⟨5, { pst 1 [] with ports := rn.ports }, by and_intros <;> decide⟩

theorem test_meets_PartnerEvents_2 :
  ∃ k : BitVec 4, ∃ a : BitVec 7, ∃ s : State, ∃ l : List Byte, ∃ n : Nat, ∃ ch : Nat,
  let p := k.toNat
  (s.portRuns p = true) ∧
  (s.is (PORT_STAT_HUNG p) = false) ∧
  (s.pstate ≠ 4) ∧
  (s.portCur p = none) ∧
  (s.portBank p = true) ∧
  (s.portQueue p = []) ∧
  (s.ports.served.contains p = false) ∧
  (s.pm.phase = false) ∧
  (s.pers p = 1) ∧
  (findPartner (fun _ w => fld w 0 4 == p && fld w 8 7 == a.toNat && bitOf w 22 && !bitOf w 31) s.ports.partners = some n) ∧
  (s.partnerChan n 0 1024 = some ch) ∧
  (l.length = s.pField n 23 3) :=
  ⟨5, 0x12, pst 1 [0x01401215, 0, 0, 0], [1, 2], 0, 0, by and_intros <;> decide⟩

theorem test_meets_PartnerEvents_3 :
  ∃ k : BitVec 4, ∃ s : State,
  let p := k.toNat
  (s.portRuns p = true) ∧
  (s.is (PORT_STAT_HUNG p) = false) ∧
  (s.pstate ≠ 4) ∧
  (s.portCur p = none) ∧
  (s.portBank p = true) ∧
  (s.portQueue p = []) ∧
  (s.ports.served.contains p = false) ∧
  (s.pm.phase = false) ∧
  (s.pers p = 1) ∧
  (s.is (PORT_CFG_HJEN p) = true) :=
  ⟨5, (pst 1 []).put (PORT_CFG_HJEN 5) 1, by and_intros <;> decide⟩

theorem test_meets_PartnerEvents_4 :
  ∃ k : BitVec 4, ∃ a : BitVec 7, ∃ s : State,
  let p := k.toNat
  (s.portRuns p = true) ∧
  (s.is (PORT_STAT_HUNG p) = false) ∧
  (s.pstate ≠ 4) ∧
  (s.portCur p = none) ∧
  (s.portBank p = true) ∧
  (s.portQueue p = []) ∧
  (s.ports.served.contains p = false) ∧
  (s.pm.phase = false) ∧
  (s.pers p = 2) ∧
  (s.byAddr p a.toNat = none) ∧
  (s.is (PORT_CFG_ALERTEN p) = true) :=
  ⟨5, 0, (pst 2 []).put (PORT_CFG_ALERTEN 5) 1, by and_intros <;> decide⟩

theorem test_meets_PartnerEvents_5 :
  ∃ k : BitVec 4, ∃ a : BitVec 7, ∃ s : State,
  let p := k.toNat
  (s.portRuns p = true) ∧
  (s.is (PORT_STAT_HUNG p) = false) ∧
  (s.pstate ≠ 4) ∧
  (s.portCur p = none) ∧
  (s.portBank p = true) ∧
  (s.portQueue p = []) ∧
  (s.ports.served.contains p = false) ∧
  (s.pm.phase = false) ∧
  (s.pers p = 2) ∧
  (s.byAddr p a.toNat = none) ∧
  (s.is (PORT_CFG_HNEN p) = true) :=
  ⟨5, 0, (pst 2 []).put (PORT_CFG_HNEN 5) 1, by and_intros <;> decide⟩

theorem test_meets_PartnerEvents_6 :
  ∃ k : BitVec 4, ∃ a : BitVec 7, ∃ s : State, ∃ n, ∃ ch,
  let p := k.toNat
  (s.portRuns p = true) ∧
  (s.is (PORT_STAT_HUNG p) = false) ∧
  (s.pstate ≠ 4) ∧
  (s.portCur p = none) ∧
  (s.portBank p = true) ∧
  (s.portQueue p = []) ∧
  (s.ports.served.contains p = false) ∧
  (s.pm.phase = false) ∧
  (s.pers p = 2) ∧
  (s.byAddr p a.toNat = some n) ∧
  (s.partnerChan n 0 1024 = some ch) ∧
  (s.is (PORT_CFG_ALERTEN p) = true) :=
  ⟨5, 0x12, (pst 2 [0x1215, 0, 0, 0]).put (PORT_CFG_ALERTEN 5) 1, 0, 0, by and_intros <;> decide⟩

theorem test_meets_PartnerEvents_7 :
  ∃ k : BitVec 4, ∃ a : BitVec 7, ∃ s : State, ∃ n, ∃ ch,
  let p := k.toNat
  (s.portRuns p = true) ∧
  (s.is (PORT_STAT_HUNG p) = false) ∧
  (s.pstate ≠ 4) ∧
  (s.portCur p = none) ∧
  (s.portBank p = true) ∧
  (s.portQueue p = []) ∧
  (s.ports.served.contains p = false) ∧
  (s.pm.phase = false) ∧
  (s.pers p = 2) ∧
  (s.byAddr p a.toNat = some n) ∧
  (s.partnerChan n 0 1024 = some ch) ∧
  (s.is (PORT_CFG_HNEN p) = true) :=
  ⟨5, 0x12, (pst 2 [0x1215, 0, 0, 0]).put (PORT_CFG_HNEN 5) 1, 0, 0, by and_intros <;> decide⟩

def tgt : State := ops ((((pst 3 [0x95, 0, 0, 0]).put (CE_CHINFO_GEN 0) 1)).putBytes 0x10001FE0 [2, 8, 9]) (opd 7 .lane 0 0 none)
theorem test_meets_TargetsAndUarts_1 :
  ∃ k : BitVec 4, ∃ s : State, ∃ c : Byte, ∃ ch : Nat, ∃ n : Nat,
  let p := k.toNat
  (s.portRuns p = true) ∧
  (s.is (PORT_STAT_HUNG p) = false) ∧
  (s.pstate ≠ 4) ∧
  (s.portBank p = true) ∧
  (s.pers p = 3) ∧
  (s.is (PORT_CFG_TPEC p) = false) ∧
  (s.selfOf p = some n) ∧
  (s.partnerChan n 0 1024 = some ch) ∧
  (s.flt.inj = []) ∧
  (s.mirrors = false) ∧
  let a := (s.rd (PORT_TBASE p)).toNat + 32 * c.toNat
  ((∀ j < 32, ∀ x ∈ [a + j, a + 0x2000 + j], inSram x = true ∧ s.unitClass x = .good ∧ s.refusal .mover .read x = none ∧ s.refusal .mover .write x = none)) ∧
  (a % 32 = 0) ∧
  (s.ce.ops.any (fun o => o.op == 7 && o.chan == some ch && o.started && o.result.isNone) = true) ∧
  let l := (s.byteAt a).toNat
  (l < 32) :=
  ⟨5, tgt, 0xFF, 0, 0, by and_intros <;> decide⟩

theorem test_meets_TargetsAndUarts_2 :
  ∃ k : BitVec 4, ∃ s : State,
  let p := k.toNat
  (s.portRuns p = true) ∧
  (s.is (PORT_STAT_HUNG p) = false) ∧
  (s.pstate ≠ 4) ∧
  (s.portBank p = true) ∧
  (s.pers p = 3) ∧
  (s.ports.alert.contains p = true) :=
  ⟨5, { pst 3 [] with ports := { rn.ports with alert := [5] } }, by and_intros <;> decide⟩

theorem test_meets_TargetsAndUarts_3 :
  ∃ k : BitVec 4, ∃ s : State,
  let p := k.toNat
  (s.portRuns p = true) ∧
  (s.is (PORT_STAT_HUNG p) = false) ∧
  (s.pstate ≠ 4) ∧
  (s.portBank p = true) ∧
  (s.pers p = 3) ∧
  (s.reaches (PORT_CTL p) = true) :=
  ⟨5, pst 3 [], by and_intros <;> decide⟩

theorem test_meets_TargetsAndUarts_4 :
  ∃ k : BitVec 4, ∃ s : State,
  let p := k.toNat
  (s.portRuns p = true) ∧
  (s.is (PORT_STAT_HUNG p) = false) ∧
  (s.pstate ≠ 4) ∧
  (s.portBank p = true) ∧
  (s.pers p = 7) ∧
  (s.portCur p = none) ∧
  ((s.uartFifo p).length < 64) :=
  ⟨5, pst 7 [], by and_intros <;> decide⟩

theorem test_meets_TargetsAndUarts_5 :
  ∃ k : BitVec 4, ∃ s : State, ∃ n, ∃ ch,
  let p := k.toNat
  (s.portRuns p = true) ∧
  (s.is (PORT_STAT_HUNG p) = false) ∧
  (s.pstate ≠ 4) ∧
  (s.portBank p = true) ∧
  (s.pers p = 7) ∧
  (s.portCur p = none) ∧
  (s.selfOf p = some n) ∧
  (s.partnerChan n 0 1024 = some ch) ∧
  (s.uartFifo p ≠ []) :=
  ⟨5, { pst 7 [] with ports := { rn.ports with partners := [(0, [0x95, 0, 0, 0])], fifo := [(5, [1])] } }, 0, 0, by and_intros <;> decide⟩

theorem test_meets_LinkTestAndPins_1 :
  ∃ m : Master, ∃ k : BitVec 5, ∃ v : Word, ∃ s : State,
  (k.toNat < 16) ∧
  (s.admits m (TST_CTL k.toNat) = true) ∧
  (s.portBusy k.toNat = false) ∧
  (fld v 2 2 ≤ 2) ∧
  (fld v 4 2 ≤ 2) ∧
  (0 < fld v 16 16) :=
  ⟨.cluster, 15, 0x00010000, rn, by and_intros <;> decide⟩

theorem test_meets_LinkTestAndPins_2 :
  ∃ k : BitVec 5, ∃ s : State, ∃ l : List Bool,
  (k.toNat ≤ 0x12) ∧
  (s.is (TST_CTL_CHK k.toNat) = true) ∧
  (s.noInj 0x58 0x58 = true) ∧
  (s.prbsLoop k.toNat = false) ∧
  (s.is (TST_STAT_LOCK k.toNat) = false) ∧
  let p := s.prbsTaps k.toNat
  let rx (j : Nat) : Bool := l.getD j false != s.is (TST_CTL_INV k.toNat)
  let good : Prop := p.1 + 64 ≤ l.length ∧ ∀ j < 64, rx (p.1 + j) = (rx j != rx (p.1 + j - p.2))
  (good) :=
  ⟨0x12, rn.put (TST_CTL_CHK 0x12) 1, (prbsRun (7, 6) 127 71).1, by and_intros <;> decide⟩

theorem test_meets_LinkTestAndPins_3 :
  ∃ k : BitVec 5, ∃ s : State, ∃ l : List Bool,
  (k.toNat ≤ 0x12) ∧
  (s.is (TST_CTL_CHK k.toNat) = true) ∧
  (s.noInj 0x58 0x58 = true) ∧
  (s.prbsLoop k.toNat = false) ∧
  (s.is (TST_STAT_LOCK k.toNat) = false) ∧
  let p := s.prbsTaps k.toNat
  let rx (j : Nat) : Bool := l.getD j false != s.is (TST_CTL_INV k.toNat)
  let good : Prop := p.1 + 64 ≤ l.length ∧ ∀ j < 64, rx (p.1 + j) = (rx j != rx (p.1 + j - p.2))
  (¬ good) :=
  ⟨0x12, rn.put (TST_CTL_CHK 0x12) 1, [], by and_intros <;> decide⟩

theorem test_meets_LinkTestAndPins_4 :
  ∃ k : BitVec 5, ∃ s : State, ∃ b : Bool,
  (k.toNat ≤ 0x12) ∧
  (s.is (TST_CTL_CHK k.toNat) = true) ∧
  (s.noInj 0x58 0x58 = true) ∧
  (s.prbsLoop k.toNat = false) ∧
  (s.is (TST_STAT_LOCK k.toNat) = true) ∧
  (Store.get (fun _ => []) s.ports.checks k.toNat = []) ∧
  let right : Prop := (b != s.is (TST_CTL_INV k.toNat)) = prbsBit (s.prbsTaps k.toNat) (Store.get (fun _ => 0) s.ports.chk k.toNat)
  (right) :=
  ⟨0, (rn.put (TST_CTL_CHK 0) 1).put (TST_STAT_LOCK 0) 1, false, by and_intros <;> decide⟩

theorem test_meets_LinkTestAndPins_5 :
  ∃ k : BitVec 5, ∃ s : State, ∃ b : Bool,
  (k.toNat ≤ 0x12) ∧
  (s.is (TST_CTL_CHK k.toNat) = true) ∧
  (s.noInj 0x58 0x58 = true) ∧
  (s.prbsLoop k.toNat = false) ∧
  (s.is (TST_STAT_LOCK k.toNat) = true) ∧
  (Store.get (fun _ => []) s.ports.checks k.toNat = []) ∧
  let right : Prop := (b != s.is (TST_CTL_INV k.toNat)) = prbsBit (s.prbsTaps k.toNat) (Store.get (fun _ => 0) s.ports.chk k.toNat)
  (¬ right) :=
  ⟨0, (rn.put (TST_CTL_CHK 0) 1).put (TST_STAT_LOCK 0) 1, true, by and_intros <;> decide⟩

theorem test_meets_LinkTestAndPins_6 :
  ∃ k : BitVec 6, ∃ s : State,
  let n := k.toNat
  (n < 40) ∧
  (s.is (GP_CFG_OWNED n) = false) ∧
  (3 ≤ s.pstate) ∧
  (s.gpBank n = true) :=
  ⟨39, rn, by and_intros <;> decide⟩

theorem test_meets_RingEnumeration_1 :
  ∃ s : State,
  (s.ringIn = true) ∧
  (s.ks.ringSet = true) ∧
  (s.laneTest 0x11 = false) ∧
  (s.flt.inj = []) ∧
  (s.is RING_STAT_LINKIN = false) ∧
  (s.ringEn = false ∨ s.is RING_STAT_MST = false) :=
  ⟨rn, by and_intros <;> decide⟩

def rg : State := ((((rn.put RING_CTL_EN 1).put RING_STAT_ENUMD 1).put RING_STAT_ID 2).put RING_STAT_N 64).put RING_STAT_LINKIN 1

def rm : State := (((((rn.put RING_CTL_EN 1).put RING_STAT_ENUMD 1).put RING_STAT_MST 1).put RING_STAT_N 64).put RING_STAT_LINKIN 1)

theorem test_meets_RingEnumeration_2 :
  ∃ s : State,
  (s.ringIn = true) ∧
  (s.ks.ringSet = true) ∧
  (s.laneTest 0x11 = false) ∧
  (s.flt.inj = []) ∧
  (s.is RING_STAT_LINKIN = false) ∧
  (s.ringEn = true) ∧
  (s.is RING_STAT_MST = true) :=
  ⟨rm.put RING_STAT_LINKIN 0, by and_intros <;> decide⟩

theorem test_meets_RingEnumeration_3 :
  ∃ s : State,
  (s.ringIn = true) ∧
  (s.ks.ringSet = true) ∧
  (s.laneTest 0x11 = false) ∧
  (s.flt.inj = []) ∧
  (s.is RING_STAT_LINKIN = false) ∧
  (s.ringEn = true) ∧
  (s.is RING_STAT_ENUMD = true) :=
  ⟨rg.put RING_STAT_LINKIN 0, by and_intros <;> decide⟩

theorem test_meets_RingEnumeration_4 :
  ∃ s : State, ∃ c,
  (s.ringIn = true) ∧
  (s.ks.ringSet = true) ∧
  (s.laneTest 0x11 = false) ∧
  (s.flt.inj = []) ∧
  (s.ringEn = true) ∧
  (s.is RING_STAT_MST = true) ∧
  (c ∈ [Instr.ringEnumWrite, .enumResend]) ∧
  ((c = .enumResend → s.ring.enumOut = true ∧ s.is RING_STAT_LINKIN = true)) :=
  ⟨rm, Instr.ringEnumWrite, by decide, by decide, by decide, by decide, by decide, by decide, List.Mem.head _, (fun h => by cases h)⟩

def fr (src dst arg : Nat) (l : List Byte) : RingFrame := ⟨false, false, BitVec.ofNat 6 dst, BitVec.ofNat 6 src, 7, BitVec.ofNat 16 arg, 0x10000100, l⟩
def bf (src : Nat) (l : List Byte) : RingFrame := ⟨true, false, 63, BitVec.ofNat 6 src, 7, 0, 0, l⟩
theorem test_meets_RingEnumeration_5 :
  ∃ s : State, ∃ f : RingFrame,
  (s.ringIn = true) ∧
  (s.ks.ringSet = true) ∧
  (s.laneTest 0x11 = false) ∧
  (s.flt.inj = []) ∧
  (f.payload.length = 9) ∧
  (f.bc = true) ∧
  (s.ownSrc f.src.toNat = false) ∧
  let n := (f.payload.getD 8 0).toNat
  (s.is RING_STAT_MST = false) ∧
  (n < 64) :=
  ⟨rn, bf 0 [0, 0, 0, 0, 0, 0, 0, 0, 63], by and_intros <;> decide⟩

theorem test_meets_RingEnumeration_6 :
  ∃ s : State, ∃ raw : List Byte, ∃ groups : Bool, ∃ ended : Bool,
  (s.ringIn = true) ∧
  (s.ks.ringSet = true) ∧
  (s.laneTest 0x11 = false) ∧
  (s.flt.inj = []) ∧
  ((rawSrc raw).any s.ownSrc = false) ∧
  (groups = true ∨ ended = false ∨ rawGood raw = false) :=
  ⟨rg, [], true, false, by and_intros <;> decide⟩

theorem test_meets_RingEnumeration_7 :
  ∃ s : State,
  (s.ringIn = true) ∧
  (s.ks.ringSet = true) ∧
  (s.laneTest 0x11 = false) ∧
  (s.flt.inj = []) :=
  ⟨rg, by and_intros <;> decide⟩

theorem test_meets_RingEnumeration_8 :
  ∃ s : State,
  (s.ringIn = true) ∧
  (s.ks.ringSet = true) ∧
  (s.laneTest 0x11 = false) ∧
  (s.flt.inj = []) ∧
  (s.ringEn = true) ∧
  (s.is RING_STAT_MST = false) ∧
  (s.is RING_STAT_ENUMD = false) :=
  ⟨rg.put RING_STAT_ENUMD 0, by and_intros <;> decide⟩

theorem test_meets_RingEnumeration_9 :
  ∃ s : State, ∃ m : Master, ∃ v : Word,
  (s.ringIn = true) ∧
  (s.ks.ringSet = true) ∧
  (s.laneTest 0x11 = false) ∧
  (s.flt.inj = []) ∧
  (s.admits m RING_CTL = true) ∧
  (bitOf v 1 = false) ∧
  (bitOf v 2 = false) ∧
  ((s.is RING_CTL_EN = true ∨ bitOf v 0 = false ∨ s.is RING_STAT_LINKIN = false)) :=
  ⟨sl, .cluster, 1, by and_intros <;> decide⟩

theorem test_meets_RingHeartbeats_1 :
  ∃ s : State, ∃ f : RingFrame, ∃ b,
  (s.ringIn = true) ∧
  (s.ks.ringSet = true) ∧
  (s.laneTest 0x11 = false) ∧
  (s.flt.inj = []) ∧
  (s.ringEn = true) ∧
  (s.is RING_STAT_ENUMD = true) ∧
  (s.mirrors = false) ∧
  (f.payload.length = 18) ∧
  (f.bc = true) ∧
  (s.is RING_STAT_MST = true) ∧
  (s.ring.beat = some b) ∧
  (f.src = b.src) ∧
  (f.arg = b.arg) ∧
  (f.addr = b.addr) ∧
  (f.payload.drop 8 = b.payload.drop 8) :=
  ⟨{ rm with ring := { rm.ring with beat := some (bf 0 (List.replicate 18 0)) } }, bf 0 (3 :: List.replicate 17 0), bf 0 (List.replicate 18 0), by and_intros <;> decide⟩

theorem test_meets_RingHeartbeats_2 :
  ∃ s : State, ∃ f : RingFrame,
  (s.ringIn = true) ∧
  (s.ks.ringSet = true) ∧
  (s.laneTest 0x11 = false) ∧
  (s.flt.inj = []) ∧
  (s.ringEn = true) ∧
  (s.is RING_STAT_ENUMD = true) ∧
  (s.mirrors = false) ∧
  (f.payload.length = 18) ∧
  (f.bc = true) ∧
  (s.is RING_STAT_MST = true) ∧
  (s.ownBeat f = false) :=
  ⟨rm, bf 0 (List.replicate 18 0), by and_intros <;> decide⟩

theorem test_meets_RingHeartbeats_3 :
  ∃ s : State, ∃ f : RingFrame,
  (s.ringIn = true) ∧
  (s.ks.ringSet = true) ∧
  (s.laneTest 0x11 = false) ∧
  (s.flt.inj = []) ∧
  (s.ringEn = true) ∧
  (s.is RING_STAT_ENUMD = true) ∧
  (s.mirrors = false) ∧
  let present (map : Nat) : Prop := ∀ m < 64, s.is (memberBit RING_PRES m) = map.testBit m
  (f.payload.length = 18) ∧
  (f.bc = true) ∧
  (s.is RING_STAT_MST = false) ∧
  (s.ownSrc f.src.toNat = false) ∧
  (s.ring.gtHold = false) ∧
  (s.is RING_STAT_LINKIN = true) ∧
  (present (bytesNat ((f.payload.drop 8).take 8))) :=
  ⟨rg, bf 0 (List.replicate 18 0), by and_intros <;> decide⟩

theorem test_meets_RingHeartbeats_4 :
  ∃ s : State,
  (s.ringIn = true) ∧
  (s.ks.ringSet = true) ∧
  (s.laneTest 0x11 = false) ∧
  (s.flt.inj = []) ∧
  (s.ringEn = true) ∧
  (s.is RING_STAT_ENUMD = true) ∧
  (s.mirrors = false) ∧
  let present (map : Nat) : Prop := ∀ m < 64, s.is (memberBit RING_PRES m) = map.testBit m
  (s.is RING_STAT_MST = true) ∧
  (present s.ring.ret) :=
  ⟨rm, by and_intros <;> decide⟩

theorem test_meets_RingHeartbeats_5 :
  ∃ s : State, ∃ id : BitVec 6,
  (s.ringIn = true) ∧
  (s.ks.ringSet = true) ∧
  (s.laneTest 0x11 = false) ∧
  (s.flt.inj = []) ∧
  (s.ringEn = true) ∧
  (s.is RING_STAT_ENUMD = true) ∧
  (s.mirrors = false) ∧
  let m := id.toNat
  (s.is RING_STAT_MST = true) ∧
  (m ≠ 0) ∧
  (m < s.ringN) ∧
  (s.flt.isolated.contains (.member m) = false) :=
  ⟨rm, 63, by and_intros <;> decide⟩

def ri : State := { rm.put (memberBit RING_PRES 5) 1 with flt := { rm.flt with isolated := [.member 5] } }

theorem test_meets_RingHeartbeats_6 :
  ∃ s : State, ∃ id : BitVec 6,
  (s.ringIn = true) ∧
  (s.ks.ringSet = true) ∧
  (s.laneTest 0x11 = false) ∧
  (s.flt.inj = []) ∧
  (s.ringEn = true) ∧
  (s.is RING_STAT_ENUMD = true) ∧
  (s.mirrors = false) ∧
  let m := id.toNat
  (s.is RING_STAT_MST = true) ∧
  (s.codeAt (CE_LEDGER (0x5C0 + m)) = 0) ∧
  (s.ledgerHeld (0x5C0 + m) = false) ∧
  (s.flt.isolated.contains (.member m) = true) ∧
  (s.pend 0x55 = false) ∧
  (s.is (memberBit RING_PRES m) = true) ∧
  (s.reaches RING_MRST = true) :=
  ⟨ri, 5, by and_intros <;> decide⟩

theorem test_meets_RingHeartbeats_7 :
  ∃ s : State,
  (s.ringIn = true) ∧
  (s.ks.ringSet = true) ∧
  (s.laneTest 0x11 = false) ∧
  (s.flt.inj = []) ∧
  (s.ringEn = true) ∧
  (s.is RING_STAT_ENUMD = true) ∧
  (s.mirrors = false) ∧
  (s.is RING_STAT_MST = false) :=
  ⟨rg, by and_intros <;> decide⟩

def rreq (b : Bool) (w : RingWho) : RingReq := ⟨7, 3, [fr 2 5 0 []], w, b⟩
def rst (s : State) (b : Bool) (w : RingWho) : State := { s with ring := { s.ring with reqs := [(7, some (rreq b w))] } }
theorem test_meets_RingRequests_1 :
  ∃ s : State, ∃ r : RingReq, ∃ x : RingFrame, ∃ i : BitVec 3, ∃ f : RingFrame, ∃ tag : BitVec 10, ∃ o : CeOp,
  (s.ringIn = true) ∧
  (s.ks.ringSet = true) ∧
  (s.laneTest 0x11 = false) ∧
  (s.flt.inj = []) ∧
  (r.frames = [x]) ∧
  (s.ring.reqs = [(i.toNat, some r)]) ∧
  (s.ring.wait = []) ∧
  (f.bc = false) ∧
  (s.hasId = true) ∧
  (f.dst.toNat = s.ringId) ∧
  (f.src.toNat ≠ s.ringId) ∧
  (x.dst = f.src) ∧
  (r.seq = f.seq.toNat) ∧
  (r.who = .op tag.toNat) ∧
  (s.ceFind tag.toNat = some o) ∧
  (o.result = none) ∧
  (f.payload = []) ∧
  (f.arg.toNat % 16 ≠ 3) :=
  ⟨rst (ops rg (op 9 [])) false (.op 0), rreq false (.op 0), fr 2 5 0 [], 7, fr 5 2 4 [], 0, op 9 [], by and_intros <;> decide⟩

def rld : Station := ⟨3, .load, 5, none, 15, 7, 0x60000000, 0, false, false, 0x10000000, false, false, false, 2, 0, false⟩
theorem test_meets_RingRequests_2 :
  ∃ s : State, ∃ r : RingReq, ∃ x : RingFrame, ∃ i : BitVec 3, ∃ f : RingFrame, ∃ y : Station,
  (s.ringIn = true) ∧
  (s.ks.ringSet = true) ∧
  (s.laneTest 0x11 = false) ∧
  (s.flt.inj = []) ∧
  (r.frames = [x]) ∧
  (s.ring.reqs = [(i.toNat, some r)]) ∧
  (s.ring.wait = []) ∧
  (f.bc = false) ∧
  (s.hasId = true) ∧
  (f.dst.toNat = s.ringId) ∧
  (f.src.toNat ≠ s.ringId) ∧
  (x.dst = f.src) ∧
  (r.seq = f.seq.toNat) ∧
  (r.who = .access y.n) ∧
  (s.core.stations = [y]) ∧
  (y.kind = .load) ∧
  (y.tag = r.seq) ∧
  (y.result = none) ∧
  (y.mode % 4 = 2) ∧
  (y.opA.toNat % 4 = 0) ∧
  (f.payload.length = 4) ∧
  (f.arg.toNat % 16 = 0) :=
  ⟨(rst rg false (.access 3)).onCore (fun c => { c with stations := [rld] }), rreq false (.access 3), fr 2 5 0 [], 7, fr 5 2 0 [1, 2, 3, 4], rld, by and_intros <;> decide⟩

theorem test_meets_RingRequests_3 :
  ∃ s : State, ∃ r : RingReq, ∃ x : RingFrame, ∃ i : BitVec 3, ∃ f : RingFrame,
  (s.ringIn = true) ∧
  (s.ks.ringSet = true) ∧
  (s.laneTest 0x11 = false) ∧
  (s.flt.inj = []) ∧
  (r.frames = [x]) ∧
  (s.ring.reqs = [(i.toNat, some r)]) ∧
  (s.ring.wait = []) ∧
  (f.bc = false) ∧
  (s.hasId = true) ∧
  (f.dst.toNat = s.ringId) ∧
  (f.src.toNat ≠ s.ringId) ∧
  (x.dst = f.src) ∧
  (r.seq = f.seq.toNat) ∧
  (f.payload = []) ∧
  (f.arg.toNat % 16 = 3) :=
  ⟨rst rg false .debug, rreq false .debug, fr 2 5 0 [], 7, fr 5 2 3 [], by and_intros <;> decide⟩

theorem test_meets_RingRequests_4 :
  ∃ s : State, ∃ r : RingReq, ∃ x : RingFrame, ∃ i : BitVec 3,
  (s.ringIn = true) ∧
  (s.ks.ringSet = true) ∧
  (s.laneTest 0x11 = false) ∧
  (s.flt.inj = []) ∧
  (r.frames = [x]) ∧
  (s.ring.reqs = [(i.toNat, some r)]) ∧
  (s.ring.wait = []) ∧
  (r.busy = true) ∧
  (s.ringEn = true) :=
  ⟨rst rg true .debug, rreq true .debug, fr 2 5 0 [], 7, by and_intros <;> decide⟩

theorem test_meets_RingRequests_5 :
  ∃ s : State, ∃ r : RingReq, ∃ x : RingFrame, ∃ i : BitVec 3, ∃ tag : BitVec 10, ∃ o : CeOp,
  (s.ringIn = true) ∧
  (s.ks.ringSet = true) ∧
  (s.laneTest 0x11 = false) ∧
  (s.flt.inj = []) ∧
  (r.frames = [x]) ∧
  (s.ring.reqs = [(i.toNat, some r)]) ∧
  (s.ring.wait = []) ∧
  (r.who = .op tag.toNat) ∧
  (s.ceFind tag.toNat = some o) ∧
  (o.result = none) :=
  ⟨rst (ops rg (op 9 [])) false (.op 0), rreq false (.op 0), fr 2 5 0 [], 7, 0, op 9 [], by and_intros <;> decide⟩

theorem test_meets_RingRequests_6 :
  ∃ s : State, ∃ r : RingReq, ∃ x : RingFrame, ∃ i : BitVec 3, ∃ tag : BitVec 10, ∃ o : CeOp,
  (s.ringIn = true) ∧
  (s.ks.ringSet = true) ∧
  (s.laneTest 0x11 = false) ∧
  (s.flt.inj = []) ∧
  (r.frames = [x]) ∧
  (s.ring.reqs = [(i.toNat, some r)]) ∧
  (s.ring.wait = []) ∧
  (s.runsOp tag 9 o) ∧
  (s.is RING_STAT_LINKIN = false) :=
  ⟨rst (ops (rg.put RING_STAT_LINKIN 0) (op 9 [])) false (.op 0), rreq false (.op 0), fr 2 5 0 [], 7, 0, op 9 [], by decide, by decide, by decide, of_decide_eq_true rfl, by decide, by decide, by decide, by unfold State.runsOp; decide, by decide⟩

theorem test_meets_RingRequests_7 :
  ∃ s : State, ∃ r : RingReq, ∃ x : RingFrame, ∃ i : BitVec 3, ∃ tag : BitVec 10, ∃ o : CeOp,
  (s.ringIn = true) ∧
  (s.ks.ringSet = true) ∧
  (s.laneTest 0x11 = false) ∧
  (s.flt.inj = []) ∧
  (r.frames = [x]) ∧
  (s.ring.reqs = [(i.toNat, some r)]) ∧
  (s.ring.wait = []) ∧
  (s.runsOp tag 9 o) ∧
  let m := s.chBound (o.handle % 1024) % 64
  let a := (o.arg 0).toNat
  (s.is RING_STAT_LINKIN = true) ∧
  (s.ringTarget m = true) ∧
  ((o.arg 1).toNat = 4) ∧
  (inSram a = true) ∧
  (a % 4 = 0) ∧
  (s.refusal .mover .read a = none) ∧
  (s.plainWord a = true) :=
  ⟨rst (ops rg (op 9 [0x10000100, 4])) false (.op 0), rreq false (.op 0), fr 2 5 0 [], 7, 0, op 9 [0x10000100, 4], by decide, by decide, by decide, of_decide_eq_true rfl, by decide, by decide, by decide, by unfold State.runsOp; decide, by and_intros <;> decide⟩

theorem test_meets_RingService_1 :
  ∃ f : RingFrame, ∃ s : State,
  (s.ringIn = true) ∧
  (s.ks.ringSet = true) ∧
  (s.laneTest 0x11 = false) ∧
  (s.flt.inj = []) ∧
  (s.hasId = true) ∧
  (f.bc = false) ∧
  (f.dst.toNat = s.ringId) ∧
  (f.src.toNat ≠ s.ringId) ∧
  (s.mirrors = false) ∧
  let a := f.addr.toNat
  (inSram a = true) ∧
  (a % 4 = 0) ∧
  (f.payload.length = 4) ∧
  (f.arg.toNat % 16 = 15) ∧
  (s.refusal .ring .write a = none) :=
  ⟨fr 5 2 15 [1, 2, 3, 4], rg, by and_intros <;> decide⟩

theorem test_meets_RingService_2 :
  ∃ f : RingFrame, ∃ s : State,
  (s.ringIn = true) ∧
  (s.ks.ringSet = true) ∧
  (s.laneTest 0x11 = false) ∧
  (s.flt.inj = []) ∧
  (s.hasId = true) ∧
  (f.bc = false) ∧
  (f.dst.toNat = s.ringId) ∧
  (f.src.toNat ≠ s.ringId) ∧
  (s.mirrors = false) ∧
  let a := f.addr.toNat
  (inSram a = true) ∧
  (a % 4 = 0) ∧
  (f.payload = []) ∧
  (s.refusal .ring .read a = none) ∧
  (s.plainWord a = true) :=
  ⟨fr 5 2 0 [], rg, by and_intros <;> decide⟩

theorem test_meets_RingService_3 :
  ∃ f : RingFrame, ∃ s : State,
  (s.ringIn = true) ∧
  (s.ks.ringSet = true) ∧
  (s.laneTest 0x11 = false) ∧
  (s.flt.inj = []) ∧
  (s.hasId = true) ∧
  (f.bc = false) ∧
  (f.dst.toNat = s.ringId) ∧
  (f.src.toNat ≠ s.ringId) ∧
  (s.mirrors = false) ∧
  (0 < f.payload.length) ∧
  (f.payload.length ≤ 56) ∧
  (f.more = true) :=
  ⟨{ fr 5 2 0 [1] with more := true }, rg, by and_intros <;> decide⟩

theorem test_meets_RingService_4 :
  ∃ f : RingFrame, ∃ s : State,
  (s.ringIn = true) ∧
  (s.ks.ringSet = true) ∧
  (s.laneTest 0x11 = false) ∧
  (s.flt.inj = []) ∧
  (s.hasId = true) ∧
  (f.bc = false) ∧
  (f.dst.toNat = s.ringId) ∧
  (f.src.toNat ≠ s.ringId) ∧
  (s.mirrors = false) ∧
  (0 < f.payload.length) ∧
  (f.payload.length ≤ 56) ∧
  (f.more = false) ∧
  (Store.get (fun _ => none) s.ring.frag f.src.toNat = none) ∧
  (f.arg.toNat / 256 % 128 ≤ 56) ∧
  (s.slotFree 0 64 = none) :=
  ⟨fr 5 2 0 (List.replicate 56 0), (rg.wr (RING_RXMAP 0) 0xFFFFFFFF).wr (RING_RXMAP 1) 0xFFFFFFFF, by and_intros <;> decide⟩

theorem test_meets_RingService_5 :
  ∃ f : RingFrame, ∃ s : State, ∃ k,
  (s.ringIn = true) ∧
  (s.ks.ringSet = true) ∧
  (s.laneTest 0x11 = false) ∧
  (s.flt.inj = []) ∧
  (s.hasId = true) ∧
  (f.bc = false) ∧
  (f.dst.toNat = s.ringId) ∧
  (f.src.toNat ≠ s.ringId) ∧
  (s.mirrors = false) ∧
  (0 < f.payload.length) ∧
  (f.payload.length ≤ 56) ∧
  let q := f.arg.toNat % 256
  (f.more = false) ∧
  (Store.get (fun _ => none) s.ring.frag f.src.toNat = none) ∧
  (f.arg.toNat / 256 % 128 ≤ 56) ∧
  (s.slotFree 0 64 = some k) ∧
  (s.get (CE_QCFG_TYPE q) ≠ 3) :=
  ⟨fr 5 2 0 [1], (rg.wr (RING_RXMAP 0) 0xFFFFFFFF).wr (RING_RXMAP 1) 0x7FFFFFFF, 63, by and_intros <;> decide⟩

def eq : State := (((rg.put (CE_QCFG_TYPE 1) 3).put (CE_QCFG_EN 1) 1).put (CE_QCFG_LOG2DEPTH 1) 4).wr (CE_QBASE 1) 0x10001000

theorem test_meets_RingService_6 :
  ∃ f : RingFrame, ∃ s : State, ∃ k,
  (s.ringIn = true) ∧
  (s.ks.ringSet = true) ∧
  (s.laneTest 0x11 = false) ∧
  (s.flt.inj = []) ∧
  (s.hasId = true) ∧
  (f.bc = false) ∧
  (f.dst.toNat = s.ringId) ∧
  (f.src.toNat ≠ s.ringId) ∧
  (s.mirrors = false) ∧
  (0 < f.payload.length) ∧
  (f.payload.length ≤ 56) ∧
  let q := f.arg.toNat % 256
  (f.more = false) ∧
  (Store.get (fun _ => none) s.ring.frag f.src.toNat = none) ∧
  (f.arg.toNat / 256 % 128 ≤ 56) ∧
  (s.slotFree 0 64 = some k) ∧
  (s.get (CE_QCFG_TYPE q) = 3) ∧
  (s.is (CE_QCFG_EN q) = true) ∧
  (s.ce.events = []) ∧
  ((s.get (CE_QPTR_TAIL q) + 1) % s.qDepth q ≠ s.get (CE_QPTR_HEAD q)) ∧
  let b := (s.rd RING_RXBASE).toNat + 64 * k
  let e := (s.rd (CE_QBASE q)).toNat + 16 * s.get (CE_QPTR_TAIL q)
  ((∀ j < 64, inSram (b + j) = true ∧ s.refusal .mover .write (b + j) = none ∧ s.unitClass (b + j) = .good)) ∧
  ((∀ j < 16, inSram (e + j) = true ∧ s.refusal .ce .write (e + j) = none ∧ s.unitClass (e + j) = .good)) ∧
  (b % 4 = 0) ∧
  (e % 16 = 0) :=
  ⟨fr 5 2 1 [1], eq, 0, by and_intros <;> decide⟩

theorem test_meets_RingSnuff_1 :
  ∃ id : BitVec 6, ∃ seq : BitVec 2, ∃ s : State,
  (s.ringIn = true) ∧
  (s.ks.ringSet = true) ∧
  (s.laneTest 0x11 = false) ∧
  (s.noInj 0x27 0x27 = true) ∧
  let i := id.toNat
  let q := seq.toNat
  (s.ownSrc i = false) ∧
  (Store.get (fun _ => none) s.ring.acted i ≠ some q) :=
  ⟨5, 0, rn, by and_intros <;> decide⟩

theorem test_meets_RingSnuff_2 :
  ∃ id : BitVec 6, ∃ seq : BitVec 2, ∃ s : State,
  (s.ringIn = true) ∧
  (s.ks.ringSet = true) ∧
  (s.laneTest 0x11 = false) ∧
  (s.noInj 0x27 0x27 = true) ∧
  let i := id.toNat
  let q := seq.toNat
  (s.ownSrc i = false) ∧
  (Store.get (fun _ => none) s.ring.acted i = some q) :=
  ⟨5, 3, { rg with ring := { rg.ring with acted := [(5, some 3)] } }, by and_intros <;> decide⟩

theorem test_meets_RingSnuff_3 :
  ∃ id : BitVec 6, ∃ seq : BitVec 2, ∃ s : State,
  (s.ringIn = true) ∧
  (s.ks.ringSet = true) ∧
  (s.laneTest 0x11 = false) ∧
  (s.noInj 0x27 0x27 = true) ∧
  let i := id.toNat
  let q := seq.toNat
  (s.ownSrc i = true) ∧
  (s.ring.xsends ≠ 0) ∧
  (q = (s.ring.xseq + 3) % 4) :=
  ⟨2, 3, { rg with ring := { rg.ring with xsends := 1 } }, by and_intros <;> decide⟩

theorem test_meets_RingSnuff_4 :
  ∃ s : State,
  (s.ringIn = true) ∧
  (s.ks.ringSet = true) ∧
  (s.laneTest 0x11 = false) ∧
  (s.noInj 0x27 0x27 = true) ∧
  (s.is RING_STAT_OVER = false) :=
  ⟨rg, by and_intros <;> decide⟩

theorem test_meets_RingSnuff_5 :
  ∃ s : State,
  (s.ringIn = true) ∧
  (s.ks.ringSet = true) ∧
  (s.laneTest 0x11 = false) ∧
  (s.noInj 0x27 0x27 = true) ∧
  (s.ring.xsends ≠ 0) ∧
  (s.ring.xsends < 8) :=
  ⟨{ rg with ring := { rg.ring with xsends := 7 } }, by and_intros <;> decide⟩

theorem test_meets_RingSnuff_6 :
  ∃ s : State,
  (s.ringIn = true) ∧
  (s.ks.ringSet = true) ∧
  (s.laneTest 0x11 = false) ∧
  (s.noInj 0x27 0x27 = true) ∧
  (s.ring.xsends ≠ 0) ∧
  (8 ≤ s.ring.xsends) :=
  ⟨{ rg with ring := { rg.ring with xsends := 8 } }, by and_intros <;> decide⟩

def pr : State := rg.put RING_PCFG_GROUP 1

theorem test_meets_PairRolesAndMirror_1 :
  ∃ s : State,
  (s.ringIn = true) ∧
  (s.ks.ringSet = true) ∧
  (s.laneTest 0x11 = false) ∧
  (s.flt.inj = []) ∧
  (s.pairMode = true) ∧
  (s.hasId = true) ∧
  (s.ringEn = true) ∧
  (s.is RING_STAT_ENUMD = true) :=
  ⟨pr, by and_intros <;> decide⟩

theorem test_meets_PairRolesAndMirror_2 :
  ∃ s : State, ∃ f : RingFrame,
  (s.ringIn = true) ∧
  (s.ks.ringSet = true) ∧
  (s.laneTest 0x11 = false) ∧
  (s.flt.inj = []) ∧
  (s.pairMode = true) ∧
  (s.hasId = true) ∧
  (f.payload.length = 4) ∧
  (f.bc = true) ∧
  (s.is RING_STAT_OVER = false) ∧
  (f.src.toNat ≠ s.ringId) ∧
  (s.get RING_PSTAT_ROLE = 0) ∧
  (s.ring.partner = none) ∧
  ((f.payload.getD 0 0).toNat = s.get RING_PCFG_GROUP) :=
  ⟨pr, bf 5 [1, 0, 0, 0], by and_intros <;> decide⟩

theorem test_meets_PairRolesAndMirror_3 :
  ∃ s : State,
  (s.ringIn = true) ∧
  (s.ks.ringSet = true) ∧
  (s.laneTest 0x11 = false) ∧
  (s.flt.inj = []) ∧
  (s.pairMode = true) ∧
  (s.hasId = true) ∧
  (s.get RING_PSTAT_ROLE = 0) ∧
  (s.ring.partner = none) :=
  ⟨pr, by and_intros <;> decide⟩

def ptn (s : State) : State := { s with ring := { s.ring with partner := some 5 } }
theorem test_meets_PairRolesAndMirror_4 :
  ∃ s : State, ∃ p,
  (s.ringIn = true) ∧
  (s.ks.ringSet = true) ∧
  (s.laneTest 0x11 = false) ∧
  (s.flt.inj = []) ∧
  (s.pairMode = true) ∧
  (s.hasId = true) ∧
  (s.ring.partner = some p) ∧
  (s.is RING_PSTAT_PEER = true) :=
  ⟨ptn (pr.put RING_PSTAT_PEER 1), 5, by and_intros <;> decide⟩

theorem test_meets_PairRolesAndMirror_5 :
  ∃ s : State, ∃ id : BitVec 6,
  (s.ringIn = true) ∧
  (s.ks.ringSet = true) ∧
  (s.laneTest 0x11 = false) ∧
  (s.flt.inj = []) ∧
  (s.pairMode = true) ∧
  (s.hasId = true) ∧
  (s.ownSrc id.toNat = false) ∧
  (s.ring.partner = some id.toNat) ∧
  (s.get RING_PSTAT_ROLE = 2) ∧
  (s.is RING_PSTAT_SYNCED = true) ∧
  (s.ring.rx = []) :=
  ⟨(ptn (pr.put RING_PSTAT_ROLE 2)).put RING_PSTAT_SYNCED 1, 5, by and_intros <;> decide⟩

theorem test_meets_PairRolesAndMirror_6 :
  ∃ s : State,
  (s.ringIn = true) ∧
  (s.ks.ringSet = true) ∧
  (s.laneTest 0x11 = false) ∧
  (s.flt.inj = []) ∧
  (s.pairMode = true) ∧
  (s.hasId = true) ∧
  (s.get RING_PSTAT_ROLE = 1) ∧
  (s.is RING_STAT_OVER = false) ∧
  (s.reaches RING_PCTL = true) :=
  ⟨pr.put RING_PSTAT_ROLE 1, by and_intros <;> decide⟩

theorem test_meets_PairRolesAndMirror_7 :
  ∃ f : RingFrame, ∃ w : Word, ∃ s : State,
  (s.ringIn = true) ∧
  (s.flt.inj = []) ∧
  (s.hasId = true) ∧
  (f.bc = false) ∧
  (f.dst.toNat = s.ringId) ∧
  (f.src.toNat ≠ s.ringId) ∧
  (s.get RING_PSTAT_ROLE = 2) ∧
  (s.ring.partner = some f.src.toNat) ∧
  (s.pstate ≠ 4) ∧
  (s.ring.fresh = false) ∧
  (f.seq.toNat = (s.get RING_MSEQ_SENT + 1) % 65536) ∧
  (f.payload = wordBytes w) ∧
  let a := f.addr.toNat
  (f.arg.toNat % 8 = 0) ∧
  (inSram a = true) ∧
  (s.inMirror a = true) ∧
  (a % 4 = 0) :=
  ⟨{ fr 5 2 0 (wordBytes 5) with seq := 1 }, 5, ((ptn (pr.put RING_PSTAT_ROLE 2)).put RING_PCFG_MWSIZE 1).wr RING_MWBASE 0x10000000, by and_intros <;> decide⟩

theorem test_meets_PairRolesAndMirror_8 :
  ∃ f : RingFrame, ∃ w : Word, ∃ s : State,
  (s.ringIn = true) ∧
  (s.flt.inj = []) ∧
  (s.hasId = true) ∧
  (f.bc = false) ∧
  (f.dst.toNat = s.ringId) ∧
  (f.src.toNat ≠ s.ringId) ∧
  (s.get RING_PSTAT_ROLE = 2) ∧
  (s.ring.partner = some f.src.toNat) ∧
  (s.pstate ≠ 4) ∧
  (s.ring.fresh = false) ∧
  (f.seq.toNat = (s.get RING_MSEQ_SENT + 1) % 65536) ∧
  (f.payload = wordBytes w) ∧
  let a := f.addr.toNat
  (f.arg.toNat % 8 = 1) ∧
  (ledgerMirrored a = true) :=
  ⟨{ fr 5 2 1 (wordBytes 5) with seq := 1, addr := 0x50F }, 5, ptn (pr.put RING_PSTAT_ROLE 2), by and_intros <;> decide⟩

theorem test_meets_PairRolesAndMirror_9 :
  ∃ s : State,
  (s.get RING_PSTAT_ROLE = 2) ∧
  (s.reaches RING_PCTL = true) :=
  ⟨pr.put RING_PSTAT_ROLE 2, by decide, by decide⟩

theorem test_meets_PairRolesAndMirror_10 :
  ∃ s : State,
  (s.get RING_PSTAT_ROLE = 1) ∧
  (s.reaches RING_MFLUSH = true) :=
  ⟨pr.put RING_PSTAT_ROLE 1, by decide, by decide⟩

def sy : State := { pr.put RING_PSTAT_ROLE 1 with ring := { pr.ring with peerStandby := true, syncing := true } }

theorem test_meets_PairRolesAndMirror_11 :
  ∃ s : State,
  (s.mirrors = true) ∧
  (s.linksOn = true) ∧
  (s.ks.ringSet = true) ∧
  (s.laneTest 0x11 = false) ∧
  (s.ring.syncing = true) :=
  ⟨sy, by and_intros <;> decide⟩

def mb : State := ((rn.put (HOST_MBCFG_EN 7) 1).put (HOST_MBWIN_WSIZE 7) 16).put (HOST_MBWIN_BASE 7) 0x10000

theorem test_meets_HostTransactionsAndMailboxes_1 :
  ∃ a : Nat, ∃ c : Nat, ∃ cmd : Byte, ∃ s : State,
  (s.hostReach = true) ∧
  (s.lit = true) ∧
  (s.hostI3c = false) ∧
  (s.flt.inj = []) ∧
  (s.mirrors = false) ∧
  (a % 4 = 0) ∧
  (a < 2 ^ 24) ∧
  (s.winChan a = some c) ∧
  (s.mbIsolated c = false) ∧
  (s.is (HOST_MBCFG_EN c) = true) ∧
  let b := s.winAddr c a
  (inSram b = true) ∧
  (0x10 ≤ cmd.toNat) ∧
  (cmd.toNat ≤ 0x12) ∧
  (s.refusal .host .write b = none) :=
  ⟨0x87FFFC, 7, 0x12, mb, by and_intros <;> decide⟩

theorem test_meets_HostTransactionsAndMailboxes_2 :
  ∃ a : Nat, ∃ c : Nat, ∃ cmd : Byte, ∃ s : State,
  (s.hostReach = true) ∧
  (s.lit = true) ∧
  (s.hostI3c = false) ∧
  (s.flt.inj = []) ∧
  (s.mirrors = false) ∧
  (a % 4 = 0) ∧
  (a < 2 ^ 24) ∧
  (s.winChan a = some c) ∧
  (s.mbIsolated c = false) ∧
  (s.is (HOST_MBCFG_EN c) = true) ∧
  let b := s.winAddr c a
  (inSram b = true) ∧
  (0x10 ≤ cmd.toNat) ∧
  (cmd.toNat ≤ 0x12) ∧
  (s.refusal .host .write b = none) :=
  ⟨0x870000, 7, 0x10, mb, by and_intros <;> decide⟩

theorem test_meets_HostTransactionsAndMailboxes_3 :
  ∃ a : Nat, ∃ c : Nat, ∃ cmd : Byte, ∃ w : Word, ∃ s : State, ∃ l : List Byte,
  (s.hostReach = true) ∧
  (s.lit = true) ∧
  (s.hostI3c = false) ∧
  (s.flt.inj = []) ∧
  (s.mirrors = false) ∧
  (a % 4 = 0) ∧
  (a < 2 ^ 24) ∧
  (s.winChan a = some c) ∧
  (s.mbIsolated c = false) ∧
  (s.is (HOST_MBCFG_EN c) = true) ∧
  let b := s.winAddr c a
  let body := cmd :: (natBytes 3 a ++ [0] ++ wordBytes w)
  (inSram b = true) ∧
  (0x10 ≤ cmd.toNat) ∧
  (cmd.toNat ≤ 0x12) ∧
  (l.length = 2) ∧
  (bytesNat l ≠ crc16 body) :=
  ⟨0x870000, 7, 0x10, 0, mb, [0, 0], by and_intros <;> decide⟩

theorem test_meets_HostTransactionsAndMailboxes_4 :
  ∃ a : Nat, ∃ c : Nat, ∃ cmd : Byte, ∃ s : State,
  (s.hostReach = true) ∧
  (s.lit = true) ∧
  (s.hostI3c = false) ∧
  (s.flt.inj = []) ∧
  (s.mirrors = false) ∧
  (a % 4 = 0) ∧
  (a < 2 ^ 24) ∧
  (s.winChan a = some c) ∧
  (s.mbIsolated c = false) ∧
  (s.is (HOST_MBCFG_EN c) = true) ∧
  let b := s.winAddr c a
  (inSram b = true) ∧
  (0x20 ≤ cmd.toNat) ∧
  (cmd.toNat ≤ 0x22) ∧
  (s.refusal .host .read b = none) ∧
  (s.plainWord b = true) :=
  ⟨0x87FFFC, 7, 0x20, mb, by and_intros <;> decide⟩

theorem test_meets_HostTransactionsAndMailboxes_5 :
  ∃ f : List Byte, ∃ s : State, ∃ c,
  (s.hostReach = true) ∧
  (s.pstate = 3 ∨ s.pstate = 4) ∧
  (s.pm.phase = false) ∧
  (c ∈ [Instr.hostWake, .hostWrite f]) :=
  ⟨[], rn.put PM_STAT_STATE 4, Instr.hostWake, by decide, by decide, by decide, List.Mem.head _⟩

theorem test_meets_HostTransactionsAndMailboxes_6 :
  ∃ a : Nat, ∃ n : Nat, ∃ s : State,
  (s.hostReach = true) ∧
  (s.hostI3c = true) ∧
  (a < 2 ^ 24) ∧
  (n < 64) :=
  ⟨0xFFFFFF, 63, rn.put SYS_STRAP_HOSTSEL 1, by and_intros <;> decide⟩

theorem test_meets_HostTransactionsAndMailboxes_7 :
  ∃ addr : BitVec 7, ∃ s : State, ∃ c,
  (s.hostOn = true) ∧
  (s.hostI3c = true) ∧
  (c ∈ [Instr.entdaa addr, .setdasa 0x2C addr]) ∧
  (s.is HOST_CFG_ASSIGNED = false) :=
  ⟨9, rn.put SYS_STRAP_HOSTSEL 1, Instr.entdaa (9), by decide, by decide, List.Mem.head _, by decide⟩

theorem test_meets_HostTransactionsAndMailboxes_8 :
  ∃ addr : BitVec 7, ∃ s : State, ∃ c,
  (s.hostOn = true) ∧
  (s.hostI3c = true) ∧
  (c ∈ [Instr.entdaa addr, .setdasa 0x2C addr]) ∧
  (s.is HOST_CFG_ASSIGNED = true) :=
  ⟨9, (rn.put SYS_STRAP_HOSTSEL 1).put HOST_CFG_ASSIGNED 1, Instr.entdaa (9), by decide, by decide, List.Mem.head _, by decide⟩

def mq : State := ((((((((rn.put (HOST_MBCFG_EN 7) 1).put (HOST_MBCFG_SQ 7) 3).put (HOST_MBCFG_CQ 7) 4).put (CE_QCFG_EN 3) 1).put (CE_QCFG_TYPE 3) 1).put (CE_QCFG_EN 4) 1).put (CE_QCFG_TYPE 4) 2).put (CE_QCFG_LOG2DEPTH 3) 4).put (CE_QCFG_LOG2DEPTH 4) 4

theorem test_meets_HostTransactionsAndMailboxes_9 :
  ∃ b : BitVec 3, ∃ v : Word, ∃ s : State,
  let c := b.toNat
  let sq := s.get (HOST_MBCFG_SQ c)
  let cq := s.get (HOST_MBCFG_CQ c)
  (s.mbIsolated c = false) ∧
  (s.is (HOST_MBCFG_EN c) = true) ∧
  (s.hostOn = true) ∧
  (s.limp = false) ∧
  (s.queueOn sq 1 = true) ∧
  (s.queueOn cq 2 = true) ∧
  (s.mirrors = false) ∧
  (s.admits .host (HOST_SQDB c) = true) ∧
  (fld v 0 12 < s.qDepth sq) :=
  ⟨7, 15, mq, by and_intros <;> decide⟩

theorem test_meets_HostTransactionsAndMailboxes_10 :
  ∃ b : BitVec 3, ∃ v : Word, ∃ s : State,
  let c := b.toNat
  let sq := s.get (HOST_MBCFG_SQ c)
  let cq := s.get (HOST_MBCFG_CQ c)
  (s.mbIsolated c = false) ∧
  (s.is (HOST_MBCFG_EN c) = true) ∧
  (s.hostOn = true) ∧
  (s.limp = false) ∧
  (s.queueOn sq 1 = true) ∧
  (s.queueOn cq 2 = true) ∧
  (s.mirrors = false) ∧
  (s.admits .host (HOST_CQDB c) = true) ∧
  (fld v 0 12 < s.qDepth cq) ∧
  (s.ce.late = []) ∧
  (s.ce.ops = []) ∧
  (s.ce.events = []) :=
  ⟨7, 15, mq, by and_intros <;> decide⟩

theorem test_meets_HostTransactionsAndMailboxes_11 :
  ∃ b : BitVec 3, ∃ s : State,
  let c := b.toNat
  (s.mbIsolated c = false) ∧
  (s.is (HOST_MBCFG_EN c) = true) ∧
  (s.hostOn = true) ∧
  (s.admits .host (HOST_H2D c) = true) :=
  ⟨7, mq, by and_intros <;> decide⟩

theorem test_meets_HostTransactionsAndMailboxes_12 :
  ∃ b : BitVec 3, ∃ s : State,
  let c := b.toNat
  (s.reaches (HOST_D2H c) = true) :=
  ⟨7, rn, by decide⟩

theorem test_meets_HostTransactionsAndMailboxes_13 :
  ∃ b : BitVec 3, ∃ s : State,
  let c := b.toNat
  let sq := s.get (HOST_MBCFG_SQ c)
  (s.reaches (HOST_MBIRQ c) = true) ∧
  (s.codeAt (CE_LEDGER (0x400 + sq)) = 0) ∧
  (s.ledgerHeld (0x400 + sq) = false) ∧
  (s.mbIsolated c = true) ∧
  (s.pend 0x57 = false) :=
  ⟨7, { mq with flt := { mq.flt with isolated := [.mailbox 7] } }, by and_intros <;> decide⟩

theorem test_meets_ManagementReads_1 :
  ∃ s : State, ∃ t,
  (s.mgmtOn = true) ∧
  (s.limp = false) ∧
  (s.flt.inj = []) ∧
  let i := s.get MGMT_LIDX_V
  let j := s.get MGMT_LOGIDX_V
  (s.codeAt (CE_LEDGER i) = 0) ∧
  (s.refusal .mgmt .read (CE_LEDGER i) = none) ∧
  (exec .mgmtLedger s = .next t) :=
  ⟨rn, _, by decide, by decide, by decide, by decide, by decide, (rfl)⟩

theorem test_meets_ManagementReads_2 :
  ∃ s : State, ∃ t,
  (s.mgmtOn = true) ∧
  (s.limp = false) ∧
  (s.flt.inj = []) ∧
  let j := s.get MGMT_LOGIDX_V
  let e := 0x1800F000 + 16 * j
  (s.pstate ≠ 4) ∧
  ((∀ k < 4, s.unitClass (e + 4 * k) = .good)) ∧
  ((∀ a ∈ [e, e + 4, e + 8, e + 12], s.refusal .mgmt .read a = none)) ∧
  (exec .mgmtLog s = .next t) :=
  ⟨rn, _, by decide, by decide, by decide, by decide, by decide, by decide, (rfl)⟩

theorem test_meets_ManagementReads_3 :
  ∃ s : State,
  (s.mgmtOn = true) ∧
  (s.limp = false) ∧
  (s.flt.inj = []) ∧
  let j := s.get MGMT_LOGIDX_V
  (s.mgmt.busy = false) ∧
  (s.ce.hold = none) :=
  ⟨rn, by and_intros <;> decide⟩

theorem test_meets_ManagementReads_4 :
  ∃ s : State, ∃ cmd,
  (s.mgmtOn = true) ∧
  (s.limp = false) ∧
  (s.flt.inj = []) ∧
  let j := s.get MGMT_LOGIDX_V
  (cmd ∈ [0x01, 0x02, 0x11, 0x21, 0x22, 0x31, 0x50]) :=
  ⟨rn, 0x01, by decide, by decide, by decide, List.Mem.head _⟩

theorem test_meets_ManagementReads_5 :
  ∃ s : State, ∃ cmd : Byte,
  (s.mgmtOn = true) ∧
  (s.limp = false) ∧
  (s.flt.inj = []) ∧
  let j := s.get MGMT_LOGIDX_V
  (mgmtCodes.contains cmd.toNat = false) :=
  ⟨rn, 0x03, by and_intros <;> decide⟩

theorem test_meets_ManagementWrites_1 :
  ∃ s : State, ∃ p0 : Word, ∃ p1 : Word,
  (s.mgmtOn = true) ∧
  (s.noInj 0x27 0x27 = true) ∧
  ((∀ a ∈ [MGMT_LIDX, MGMT_LOGIDX, MGMT_PROP0, MGMT_PROP1, MGMT_PREQ], s.refusal .mgmt .write a = none)) ∧
  (s.ce.hold = none) ∧
  (s.limp = false) ∧
  (p0.toNat < 2 ^ 24) ∧
  (fld p0 17 7 ≠ 0) ∧
  (p1.toNat < 4096) :=
  ⟨rn, 0xFE0000, 4095, by and_intros <;> decide⟩

theorem test_meets_ManagementWrites_2 :
  ∃ s : State, ∃ q : Nat,
  (s.mgmtOn = true) ∧
  (s.noInj 0x27 0x27 = true) ∧
  ((∀ a ∈ [MGMT_LIDX, MGMT_LOGIDX, MGMT_PROP0, MGMT_PROP1, MGMT_PREQ], s.refusal .mgmt .write a = none)) ∧
  (q ≤ 5) ∧
  (s.preqRefused q = false) ∧
  (s.lit = true) :=
  ⟨rn, 5, by and_intros <;> decide⟩

theorem test_meets_ManagementWrites_3 :
  ∃ s : State, ∃ p, ∃ f : List Byte,
  (s.mgmtOn = true) ∧
  (s.noInj 0x27 0x27 = true) ∧
  ((∀ a ∈ [MGMT_LIDX, MGMT_LOGIDX, MGMT_PROP0, MGMT_PROP1, MGMT_PREQ], s.refusal .mgmt .write a = none)) ∧
  let frame (cmd : Byte) (l : List Byte) : List Byte := l ++ [BitVec.ofNat 8 (pec (BitVec.ofNat 8 (2 * s.mgmtAddr) :: cmd :: l))]
  (p ∈ [(Instr.mgmtLidx, (0x10 : Byte), 2), (.mgmtLogidx, 0x20, 1), (.mgmtHold, 0x30, 6), (.mgmtPreq, 0x40, 1)]) ∧
  (f ≠ frame p.2.1 (f.take p.2.2) ∨ f.length ≠ p.2.2 + 1) :=
  ⟨rn, (Instr.mgmtLidx, (0x10 : Byte), 2), [0x10, 1, 2, 3], by decide, by decide, by decide, List.Mem.head _, by decide⟩

def hld (p0 p1 : Word) : State := { rn with ce := { rn.ce with hold := some (p0, p1) } }
theorem test_meets_ManagementWrites_4 :
  ∃ p0 : Word, ∃ p1 : Word, ∃ s : State,
  (s.ce.hold = some (p0, p1)) ∧
  (s.ceClock = true) ∧
  (s.get RING_PSTAT_ROLE ≠ 2) ∧
  (s.mirrors = false) ∧
  let i := fld p0 0 11
  let w := s.rd (CE_LEDGER i)
  ((ledgerKind i).isSome = true) ∧
  (s.codeAt (CE_LEDGER i) = 0) ∧
  (fld w 4 12 = fld p1 0 12) ∧
  (bitOf p0 16 = true) ∧
  (s.ledgerHeld i = false) :=
  ⟨0x30500, 0, hld 0x30500 0, by and_intros <;> decide⟩

theorem test_meets_ManagementWrites_5 :
  ∃ p0 : Word, ∃ p1 : Word, ∃ s : State,
  (s.ce.hold = some (p0, p1)) ∧
  (s.ceClock = true) ∧
  (s.get RING_PSTAT_ROLE ≠ 2) ∧
  (s.mirrors = false) ∧
  let i := fld p0 0 11
  let w := s.rd (CE_LEDGER i)
  ((ledgerKind i).isSome = true) ∧
  (s.codeAt (CE_LEDGER i) = 0) ∧
  (fld w 4 12 ≠ fld p1 0 12) :=
  ⟨0x30500, 1, hld 0x30500 1, by and_intros <;> decide⟩

theorem test_meets_ManagementWrites_6 :
  ∃ v : Word, ∃ s : State,
  (s.admits .cluster MGMT_PRES = true) ∧
  (fld v 0 2 = 1 ∨ fld v 0 2 = 2) :=
  ⟨2, rn, by decide, by decide⟩

theorem test_meets_ManagementWrites_7 :
  ∃ s : State, ∃ m : Master,
  (m ≠ .cluster) ∧
  (s.refusal m .write MGMT_PRES = none) ∧
  (s.aimed 0x27 MGMT_PRES = false) :=
  ⟨rn, .mgmt, by decide, by decide, by decide⟩

theorem test_meets_ManagementWrites_8 :
  ∃ v : Word, ∃ s : State, ∃ m,
  (bitOf v 31 = true) ∧
  (s.admits m SYS_CLAMPCNT = true) :=
  ⟨0x80000000, rn, .cluster, by decide, by decide⟩

theorem test_meets_PowerStatesAndSupplies_1 :
  ∃ m : Master, ∃ v : Word, ∃ s : State,
  (s.admits m PM_REQ = true) ∧
  let x := fld v 0 3
  (1 ≤ x) ∧
  (x ≤ 4) ∧
  (s.reqRefusal x = 0) :=
  ⟨.cluster, 4, sl, by and_intros <;> decide⟩

theorem test_meets_PowerStatesAndSupplies_2 :
  ∃ m : Master, ∃ v : Word, ∃ s : State,
  (s.admits m PM_REQ = true) ∧
  let x := fld v 0 3
  (1 ≤ x) ∧
  (x ≤ 4) ∧
  (s.reqRefusal x ≠ 0) :=
  ⟨.cluster, 1, sl.put RING_PCFG_GROUP 1, by and_intros <;> decide⟩

theorem test_meets_PowerStatesAndSupplies_3 :
  ∃ m : Master, ∃ v : Word, ∃ s : State,
  (s.admits m PM_REQ = true) ∧
  let x := fld v 0 3
  (x = 5) :=
  ⟨.cluster, 5, rn, by decide, by decide⟩

def ent : State := { rn.put PM_REQ_ARMED 1 with core := { rn.core with wfi := true } }

theorem test_meets_PowerStatesAndSupplies_4 :
  ∃ s : State,
  (s.is PM_REQ_ARMED = true) ∧
  (s.entryReady = true) ∧
  (s.get PM_REQ_TARGET = 4) ∧
  (s.pm.phase = false) :=
  ⟨ent.put PM_REQ_TARGET 4, by and_intros <;> decide⟩

theorem test_meets_PowerStatesAndSupplies_5 :
  ∃ s : State,
  (s.is PM_REQ_ARMED = true) ∧
  (s.entryReady = true) ∧
  (s.get PM_REQ_TARGET = 4) ∧
  (s.pm.phase = true) ∧
  (s.pm.wake = 0) ∧
  (s.wakeNow 7 = false) :=
  ⟨{ ent.put PM_REQ_TARGET 4 with pm := { ent.pm with phase := true } }, by and_intros <;> decide⟩

theorem test_meets_PowerStatesAndSupplies_6 :
  ∃ r : WakeRun, ∃ s : State,
  (s.pstate = 4) ∧
  (s.pm.phase = false) ∧
  (bitOf s.pm.wake r.src.toNat = true) ∧
  (r.src.toNat ≠ 7) ∧
  (s.mon.latched = []) ∧
  (s.ring.rx = []) ∧
  (s.pm.held = []) ∧
  (s.ce.waits = []) ∧
  (s.is DBG_CTL_HALTREQ = false) :=
  ⟨⟨2, true, true, 0, 0, 0⟩, { rn.put PM_STAT_STATE 4 with pm := { rn.pm with wake := 4 } }, by and_intros <;> decide⟩

theorem test_meets_PowerStatesAndSupplies_7 :
  ∃ n : BitVec 2, ∃ s : State,
  (s.lit = true) ∧
  (bitOf (s.rd PM_WAKECFG) n.toNat = true) :=
  ⟨3, rn.wr PM_WAKECFG 8, by decide, by decide⟩

theorem test_meets_PowerStatesAndSupplies_8 :
  ∃ p, ∃ s : State,
  (p ∈ [(Instr.vmainWarning, 0x68, 2), (Instr.coreUndervoltage, 0x65, 3), (Instr.coreOvervoltage, 0x66, 3), (Instr.dieOverTemperature, 0x67, 2)]) ∧
  (p.2.2 ≤ s.pstate) ∧
  (s.noInj 0x65 0x68 = true) :=
  ⟨(Instr.vmainWarning, 0x68, 2), rn, List.Mem.head _, by decide, by decide⟩

theorem test_meets_PowerStatesAndSupplies_9 :
  ∃ s : State,
  (s.pstate = 0) :=
  ⟨rn.put PM_STAT_STATE 0, by decide⟩

theorem test_meets_PowerStatesAndSupplies_10 :
  ∃ s : State,
  (s.is WK_STAT_ONVBAT = true) :=
  ⟨rn.put WK_STAT_ONVBAT 1, by decide⟩

theorem test_meets_Clocks_1 :
  ∃ s : State, ∃ k : BitVec 3,
  (s.noInj 0x60 0x64 = true) ∧
  (k.toNat < 4) ∧
  (s.monRuns k.toNat = true) :=
  ⟨rn, 3, by decide, by decide, by decide⟩

theorem test_meets_Clocks_2 :
  ∃ s : State, ∃ b : BitVec 1,
  (s.noInj 0x60 0x64 = true) ∧
  let p := b.toNat
  (s.monRuns 4 = true) ∧
  (s.relocking p = false) :=
  ⟨rn, 1, by decide, by decide, by decide⟩

theorem test_meets_Clocks_3 :
  ∃ s : State, ∃ b : BitVec 1,
  (s.noInj 0x60 0x64 = true) ∧
  let p := b.toNat
  (s.relocking p = true) :=
  ⟨{ rn with pm := { rn.pm with relB := true } }, 1, by decide, by decide⟩

theorem test_meets_Clocks_4 :
  ∃ s : State, ∃ m : Master, ∃ v : Word,
  (s.noInj 0x60 0x64 = true) ∧
  (s.admits m CLK_PLLA = true) ∧
  (s.lit = true) ∧
  (2 ≤ fld v 0 5) ∧
  (fld v 0 5 ≤ 16) :=
  ⟨sl, .cluster, 16, by and_intros <;> decide⟩

theorem test_meets_Clocks_5 :
  ∃ s : State, ∃ m : Master, ∃ v : Word,
  (s.noInj 0x60 0x64 = true) ∧
  (s.admits m CLK_PLLA = true) ∧
  (s.lit = true) ∧
  (2 ≤ fld v 0 5) ∧
  (fld v 0 5 ≤ 16) :=
  ⟨sl, .cluster, 2, by and_intros <;> decide⟩

theorem test_meets_Clocks_6 :
  ∃ s : State, ∃ m : Master, ∃ v : Word,
  (s.noInj 0x60 0x64 = true) ∧
  (s.admits m CLK_CLKOUT = true) ∧
  (8 ≤ fld v 16 9) ∧
  (fld v 16 9 ≤ 400) ∧
  (fld v 16 9 % 2 = 0) :=
  ⟨rn, .cluster, 0x01900000, by and_intros <;> decide⟩

theorem test_meets_Clocks_7 :
  ∃ s : State, ∃ m : Master, ∃ v : Word,
  (s.noInj 0x60 0x64 = true) ∧
  (s.admits m CLK_CLKOUT = true) ∧
  (8 ≤ fld v 16 9) ∧
  (fld v 16 9 ≤ 400) ∧
  (fld v 16 9 % 2 = 0) :=
  ⟨rn, .cluster, 0x00080000, by and_intros <;> decide⟩

theorem test_meets_Clocks_8 :
  ∃ s : State,
  (s.noInj 0x60 0x64 = true) ∧
  (s.reaches CLK_CTL = true) ∧
  (s.lit = true) ∧
  (s.ring.reqs = []) ∧
  (s.ring.wait = []) :=
  ⟨rn, by and_intros <;> decide⟩

theorem test_meets_WickCounterAndCalendar_1 :
  ∃ s : State,
  (s.wickRuns = true) ∧
  (s.pm.pre < 32767) ∧
  (s.is WK_WAKE_EN = false) :=
  ⟨rn, by decide, by decide, by decide⟩

theorem test_meets_WickCounterAndCalendar_2 :
  ∃ s : State,
  (s.wickRuns = true) ∧
  (s.pm.pre < 32767) ∧
  (s.is WK_WAKE_EN = true) ∧
  (s.lit = true) ∧
  ((s.wick + 1) / 2 ^ s.get WK_WAKE_K ≠ s.wick / 2 ^ s.get WK_WAKE_K) :=
  ⟨((rn.put WK_WAKE_EN 1).put WK_WAKE_K 3).wr WK_CNT_LO 7, by and_intros <;> decide⟩

theorem test_meets_WickCounterAndCalendar_3 :
  ∃ s : State,
  (s.wickRuns = true) ∧
  (s.pm.pre = 32767) ∧
  (s.is WK_WAKE_EN = false) ∧
  (s.is WK_TRIM_EN = true) ∧
  (s.get WK_TRIM_N ≤ s.pm.sec + 1) :=
  ⟨{ rn.put WK_TRIM_EN 1 with pm := { rn.pm with pre := 32767 } }, by and_intros <;> decide⟩

theorem test_meets_WickCounterAndCalendar_4 :
  ∃ s : State,
  (s.is WK_CTL_HALT = true) ∧
  (s.is WK_STAT_HALTED = true) :=
  ⟨(rn.put WK_CTL_HALT 1).put WK_STAT_HALTED 1, by decide, by decide⟩

theorem test_meets_WickCounterAndCalendar_5 :
  ∃ s : State, ∃ m : Master,
  (s.issues m = true) ∧
  (s.refusal m .read WK_CNT_LO = none) ∧
  (s.aimed 0x27 WK_CNT_LO = false) :=
  ⟨rn, .cluster, by decide, by decide, by decide⟩

theorem test_meets_WickCounterAndCalendar_6 :
  ∃ s : State, ∃ m : Master,
  (s.admits m WK_CTL = true) :=
  ⟨rn, .cluster, by decide⟩

theorem test_meets_WickCounterAndCalendar_7 :
  ∃ s : State,
  (s.is WK_STAT_HALTED = true) ∧
  (s.is WK_CTL_HALT = false) ∧
  (s.is WK_CTL_RELSRC = true) :=
  ⟨((rn.put WK_STAT_HALTED 1).put WK_CTL_HALT 0).put WK_CTL_RELSRC 1, by decide, by decide, by decide⟩

theorem test_meets_WickCounterAndCalendar_8 :
  ∃ s : State, ∃ m : Master, ∃ hi : Bool,
  let a := if hi then WK_CNT_HI else WK_CNT_LO
  (s.admits m a = true) ∧
  (s.is WK_STAT_HALTED = true) ∧
  (s.mirrors = false) :=
  ⟨rn.put WK_STAT_HALTED 1, .cluster, false, by decide, by decide, by decide⟩

theorem test_meets_WickCounterAndCalendar_9 :
  ∃ s : State, ∃ m : Master, ∃ hi : Bool,
  let a := if hi then WK_CNT_HI else WK_CNT_LO
  (s.admits m a = true) ∧
  (s.is WK_STAT_HALTED = false) :=
  ⟨rn.put WK_STAT_HALTED 0, .cluster, false, by decide, by decide⟩

theorem test_meets_WickCounterAndCalendar_10 :
  ∃ s : State,
  (s.lit = true) ∧
  (s.snf.only = false) :=
  ⟨rn, by decide, by decide⟩

theorem test_meets_WickCounterAndCalendar_11 :
  ∃ s : State, ∃ l : List TrimRise,
  (s.pm.meas = true) ∧
  let ref := if s.get WK_TRIMCFG_REF = 1 then 20000 else if s.get WK_TRIMCFG_REF = 2 then 16670 else 1000000
  let near (r : TrimRise) : Prop := 9 * ref ≤ 10 * r.micros.toNat ∧ 10 * r.micros.toNat ≤ 11 * ref
  (l.length = s.get WK_TRIMCFG_WIN) ∧
  ((∀ r ∈ l, 1000 ≤ r.micros.toNat)) ∧
  ((∀ r ∈ l, near r)) :=
  ⟨{ rn.put WK_TRIMCFG_WIN 1 with pm := { rn.pm with meas := true } }, [⟨32768, 1000000⟩], by and_intros <;> decide⟩

theorem test_meets_WickCounterAndCalendar_12 :
  ∃ s : State, ∃ l : List TrimRise,
  (s.pm.meas = true) ∧
  let ref := if s.get WK_TRIMCFG_REF = 1 then 20000 else if s.get WK_TRIMCFG_REF = 2 then 16670 else 1000000
  let near (r : TrimRise) : Prop := 9 * ref ≤ 10 * r.micros.toNat ∧ 10 * r.micros.toNat ≤ 11 * ref
  (l.length = s.get WK_TRIMCFG_WIN) ∧
  ((∀ r ∈ l, 1000 ≤ r.micros.toNat)) ∧
  ((∃ r ∈ l, ¬ near r)) :=
  ⟨{ rn.put WK_TRIMCFG_WIN 1 with pm := { rn.pm with meas := true } }, [⟨32768, 500000⟩], by and_intros <;> decide⟩

theorem test_meets_WickCounterAndCalendar_13 :
  ∃ s : State,
  (4 ≤ s.pstate) ∧
  (s.snf.only = false) ∧
  (s.pm.cal = none) ∧
  let n := (s.rd WK_CALTLO).toNat + s.get WK_CALTHI_V * 2 ^ 32
  let day := n / 32768 / 86400
  (day < 73049) :=
  ⟨rn, by and_intros <;> decide⟩

theorem test_meets_WickCounterAndCalendar_14 :
  ∃ s : State,
  (4 ≤ s.pstate) ∧
  (s.snf.only = false) ∧
  (s.pm.cal = none) ∧
  let y := s.get WK_CALDATE_YEAR
  let m := s.get WK_CALDATE_MONTH
  let d := s.get WK_CALDATE_DAY
  (y ≤ 199) ∧
  (1 ≤ m) ∧
  (m ≤ 12) ∧
  (1 ≤ d) ∧
  (d ≤ monthDays y m) :=
  ⟨(rn.put WK_CALDATE_MONTH 2).put WK_CALDATE_DAY 29, by and_intros <;> decide⟩

theorem test_meets_WickCounterAndCalendar_15 :
  ∃ s : State,
  (4 ≤ s.pstate) ∧
  (s.snf.only = false) ∧
  (s.pm.cal = none) ∧
  let m := s.get WK_CALDATE_MONTH
  (m = 0 ∨ 12 < m) :=
  ⟨rn.put WK_CALDATE_MONTH 13, by and_intros <;> decide⟩

def start (rom : Bool) : StartRun := ⟨rom, true, true, 0, 7, true, true, [], true, true, 0, 64000⟩
theorem test_meets_Starts_1 :
  ∃ r : StartRun, ∃ s : State, ∃ c,
  (c ∈ [Instr.coldStart r, .resetN r]) ∧
  ((c = .coldStart r → s.pm.due = 2)) ∧
  ((c = .resetN r → s.pstate ≠ 0)) ∧
  (s.ks.run = none) ∧
  (s.ks.target = none) ∧
  (s.memi.flash = none) ∧
  (r.romOk = false) :=
  ⟨start false, State.reset, Instr.coldStart (start false), (List.Mem.head _), (fun _ => by decide), (fun h => by cases h), by and_intros <;> decide⟩

theorem test_meets_Starts_2 :
  ∃ r : StartRun, ∃ s : State, ∃ c,
  (c ∈ [Instr.coldStart r, .resetN r]) ∧
  ((c = .coldStart r → s.pm.due = 2)) ∧
  ((c = .resetN r → s.pstate ≠ 0)) ∧
  (s.ks.run = none) ∧
  (s.ks.target = none) ∧
  (s.memi.flash = none) ∧
  (r.romOk = true) ∧
  (r.spOk = true) ∧
  (r.sramOk = true) ∧
  (r.copies = 7) ∧
  (r.lntC = true) ∧
  (r.lntE = true) ∧
  (r.bist = []) ∧
  (r.pllA = true) ∧
  (r.pllB = true) ∧
  ((∀ a, inFlash a = true → s.byteAt a = 0xFF ∧ s.codeAt a = 0xFF)) ∧
  (s.ks.otp.state = 0) :=
  ⟨start true, State.reset, Instr.coldStart (start true), (List.Mem.head _), (fun _ => by decide), (fun h => by cases h), by decide, by decide, by decide, of_decide_eq_true rfl, by decide, by decide, by decide, of_decide_eq_true rfl, by decide, by decide, by decide, of_decide_eq_true rfl, (fun a h => ⟨if_pos (of_decide_eq_true h), if_pos (of_decide_eq_true h)⟩), by decide⟩

def wr : State := { rn.onCore (fun c => { c with inReset := true }) with pm := { rn.pm with due := 0 } }

theorem test_meets_Starts_3 :
  ∃ r : StartRun, ∃ s : State,
  (s.core.inReset = true) ∧
  (s.lit = true) ∧
  (s.snf.only = false) ∧
  (s.pm.due = 0) ∧
  (s.limp = false) ∧
  (r.copies = 7) ∧
  (r.lntC = true) ∧
  (r.lntE = true) ∧
  (r.pllA = true) ∧
  (r.pllB = true) ∧
  (s.get LNT_STAT_RETIRED = 0) ∧
  (s.flt.inj = []) ∧
  (s.flt.buffer = []) ∧
  (s.plainWord 0x46000 = true) ∧
  ((∀ p ∈ s.mc.words, mf (s.mword p.1) 0 8 = mwChk (s.mword p.1) p.1)) ∧
  (s.mc.flipped.contains 0x1FFF = false) ∧
  (s.pm.held = []) ∧
  (s.is DBG_CTL_HALTREQ = false) :=
  ⟨start true, wr, by and_intros <;> decide⟩

theorem test_meets_FusesKeysAndPatches_1 :
  ∃ p, ∃ m : Master, ∃ v : Word, ∃ s : State,
  (p ∈ [(Instr.programRoot, 1), (Instr.programRoot, 2), (Instr.revokeRoot, 3), (Instr.revokeRoot, 4), (Instr.advanceLifecycle, 5)]) ∧
  (s.admits m KS_OTPCMD = true) ∧
  (fld v 16 16 = 0x4F54) ∧
  (fld v 0 4 = p.2) ∧
  (s.is KS_OTPSTAT_BUSY = false) ∧
  (s.is KS_KSTAT_BUSY = false) ∧
  (s.is KS_PSTAT_BUSY = false) ∧
  (s.is FLC_STAT_BUSY = false) ∧
  (s.otpRefusal p.2 = 0) :=
  ⟨(Instr.programRoot, 1), .cluster, 0x4F540001, rn.put KS_LC_STATE 1, List.Mem.head _, by and_intros <;> decide⟩

theorem test_meets_FusesKeysAndPatches_2 :
  ∃ p, ∃ m : Master, ∃ v : Word, ∃ s : State,
  (p ∈ [(Instr.programRoot, 1), (Instr.programRoot, 2), (Instr.revokeRoot, 3), (Instr.revokeRoot, 4), (Instr.advanceLifecycle, 5)]) ∧
  (s.admits m KS_OTPCMD = true) ∧
  (fld v 16 16 = 0x4F54) ∧
  (fld v 0 4 = p.2) ∧
  (s.is KS_OTPSTAT_BUSY = false) ∧
  (s.is KS_KSTAT_BUSY = false) ∧
  (s.is KS_PSTAT_BUSY = false) ∧
  (s.is FLC_STAT_BUSY = false) ∧
  (s.otpRefusal p.2 ≠ 0) :=
  ⟨(Instr.programRoot, 1), .cluster, 0x4F540001, rn.put KS_LC_STATE 2, List.Mem.head _, by and_intros <;> decide⟩

def otpRun : OtpRun := ⟨1, []⟩
theorem test_meets_FusesKeysAndPatches_3 :
  ∃ s : State, ∃ r : OtpRun,
  (s.ks.run = some r) :=
  ⟨{ rn with ks := { rn.ks with run := some otpRun } }, otpRun, by decide⟩

theorem test_meets_FusesKeysAndPatches_4 :
  ∃ v : Word, ∃ s : State,
  let c := s.get KS_RBCNT_COUNT
  (s.admits .cluster KS_RBADV = true) ∧
  (fld v 16 16 = 0x52B1) ∧
  (s.is KS_RBCNT_BUSY = false) ∧
  (s.is KS_IMGSEL_APPLIED = true) ∧
  (c < s.get KS_RBCNT_RBVAL) ∧
  (c < fld v 0 7) :=
  ⟨0x52B10001, (rn.put KS_IMGSEL_APPLIED 1).put KS_RBCNT_RBVAL 1, by and_intros <;> decide⟩

theorem test_meets_FusesKeysAndPatches_5 :
  ∃ s : State, ∃ n : Nat,
  (s.ks.target = some n) ∧
  (n ≤ 64) ∧
  (s.ks.otp.thermo < 2 ^ n) :=
  ⟨{ rn with ks := { rn.ks with target := some 64 } }, 64, by decide, by decide, by decide⟩

theorem test_meets_FusesKeysAndPatches_6 :
  ∃ m : Master, ∃ v : Word, ∃ s : State,
  (s.admits m KS_KCMD = true) ∧
  (bitOf v 0 = true) :=
  ⟨.cluster, 1, rn, by decide, by decide⟩

theorem test_meets_FusesKeysAndPatches_7 :
  ∃ s : State,
  (s.pstate = 0) :=
  ⟨rn.put PM_STAT_STATE 0, by decide⟩

theorem test_meets_FusesKeysAndPatches_8 :
  ∃ s : State, ∃ j : Nat, ∃ r : List Byte,
  (s.ks.update = some (j, r)) ∧
  (j ≤ 1) ∧
  (s.pstate ≠ 0) :=
  ⟨{ rn with ks := { rn.ks with update := some (1, []) } }, 1, [], by decide, by decide, by decide⟩

theorem test_meets_FusesKeysAndPatches_9 :
  ∃ m : Master, ∃ v : Word, ∃ s : State,
  (s.admits m KS_PCMD = true) ∧
  (s.lit = true) ∧
  (fld v 16 16 = 0x5043) ∧
  (s.is KS_PSTAT_BUSY = false) ∧
  (s.is KS_KSTAT_BUSY = false) ∧
  (s.is KS_OTPSTAT_BUSY = false) ∧
  (s.is FLC_STAT_BUSY = false) ∧
  (fld v 0 2 = 1) :=
  ⟨.cluster, 0x50430001, rn, by and_intros <;> decide⟩

theorem test_meets_FusesKeysAndPatches_10 :
  ∃ m : Master, ∃ v : Word, ∃ s : State,
  (s.admits m KS_PCMD = true) ∧
  (s.lit = true) ∧
  (fld v 16 16 = 0x5043) ∧
  (s.is KS_PSTAT_BUSY = false) ∧
  (s.is KS_KSTAT_BUSY = false) ∧
  (s.is KS_OTPSTAT_BUSY = false) ∧
  (s.is FLC_STAT_BUSY = false) ∧
  (fld v 0 2 = 2) ∧
  (s.is KS_PSTAT_VERIFIED = true) :=
  ⟨.cluster, 0x50430002, rn.put KS_PSTAT_VERIFIED 1, by and_intros <;> decide⟩

theorem test_meets_FusesKeysAndPatches_11 :
  ∃ m : Master, ∃ v : Word, ∃ s : State,
  (s.admits m KS_PCMD = true) ∧
  (s.lit = true) ∧
  (fld v 16 16 = 0x5043) ∧
  (s.is KS_PSTAT_BUSY = false) ∧
  (s.is KS_KSTAT_BUSY = false) ∧
  (s.is KS_OTPSTAT_BUSY = false) ∧
  (s.is FLC_STAT_BUSY = false) ∧
  (fld v 0 2 = 2) ∧
  (s.is KS_PSTAT_VERIFIED = false) :=
  ⟨.cluster, 0x50430002, rn, by and_intros <;> decide⟩

theorem test_meets_FusesKeysAndPatches_12 :
  ∃ m : Master, ∃ s : State,
  (s.admits m KS_PDATA = true) ∧
  (s.ks.pass ≠ 0) ∧
  (s.ks.stream.length < 5) :=
  ⟨.cluster, { rn with ks := { rn.ks with pass := 1 } }, by decide, by decide, by decide⟩

theorem test_meets_DebugUnlockAndEntropy_1 :
  ∃ s : State,
  (s.tapOn = true) ∧
  (s.is RNG_STAT_READY = true) ∧
  (s.rngOn = true) ∧
  (s.rng.buf = none ∨ s.rng.reqs < 4095) :=
  ⟨rn.put RNG_STAT_READY 1, by and_intros <;> decide⟩

theorem test_meets_DebugUnlockAndEntropy_2 :
  ∃ s : State,
  (s.tapOn = true) ∧
  (s.is RNG_STAT_READY = false ∨ s.rngOn = false) :=
  ⟨rn.put RNG_STAT_READY 0, by decide, by decide⟩

theorem test_meets_DebugUnlockAndEntropy_3 :
  ∃ dr : BitVec 520, ∃ s : State,
  (s.tapOn = true) ∧
  let b := natBytes 65 dr.toNat
  let k := s.unlockResult (b.headD 0).toNat (b.drop 1)
  (k < 2 ∨ 5 < k) :=
  ⟨0, rn, by decide, by decide⟩

theorem test_meets_DebugUnlockAndEntropy_4 :
  ∃ dr : BitVec 520, ∃ s : State,
  (s.tapOn = true) ∧
  let b := natBytes 65 dr.toNat
  let k := s.unlockResult (b.headD 0).toNat (b.drop 1)
  (2 ≤ k) ∧
  (k ≤ 5) :=
  ⟨0, rn.put KS_LC_STATE 2, by decide, by decide, by decide⟩

theorem test_meets_DebugUnlockAndEntropy_5 :
  ∃ s : State,
  (s.admits .cluster KS_UNLCTL = true) :=
  ⟨rn, by decide⟩

theorem test_meets_DebugUnlockAndEntropy_6 :
  ∃ s : State, ∃ m : Master,
  (m ≠ .cluster) ∧
  (s.refusal m .write KS_UNLCTL = none) ∧
  (s.aimed 0x27 KS_UNLCTL = false) :=
  ⟨rn, .debug, by decide, by decide, by decide⟩

theorem test_meets_DebugUnlockAndEntropy_7 :
  ∃ s : State,
  (s.rngOn = true) ∧
  (s.rng.run = true) :=
  ⟨rn, by decide, by decide⟩

theorem test_meets_DebugUnlockAndEntropy_8 :
  ∃ s : State,
  (s.rngOn = true) ∧
  (s.rng.run = true) ∧
  (s.is RNG_STAT_READY = false) ∧
  (s.rng.wait = false) :=
  ⟨rn, by and_intros <;> decide⟩

def rw : State := { rn with rng := { rn.rng with wait := true } }

theorem test_meets_DebugUnlockAndEntropy_9 :
  ∃ s : State,
  (s.rngOn = true) ∧
  (s.rng.run = true) ∧
  (s.is RNG_STAT_READY = true ∨ s.rng.wait = true) :=
  ⟨rn.put RNG_STAT_READY 1, by decide, by decide, by decide⟩

theorem test_meets_DebugUnlockAndEntropy_10 :
  ∃ s : State,
  (s.rngOn = true) ∧
  (s.rng.run = true) ∧
  (s.is RNG_STAT_READY = true ∨ s.rng.wait = true) :=
  ⟨rw, by decide, by decide, by decide⟩

theorem test_meets_DebugUnlockAndEntropy_11 :
  ∃ s : State,
  (s.rng.wait = true) :=
  ⟨rw, by decide⟩

theorem test_meets_DebugUnlockAndEntropy_12 :
  ∃ s : State,
  (s.reaches RNG_CTL = true) ∧
  (s.is RNG_STAT_HFAIL = true) :=
  ⟨rn.put RNG_STAT_HFAIL 1, by decide, by decide⟩

theorem test_meets_DebugUnlockAndEntropy_13 :
  ∃ s : State, ∃ m : Master, ∃ w, ∃ l,
  (s.issues m = true) ∧
  (s.refusal m .read RNG_DATA = none) ∧
  (s.aimed 0x27 RNG_DATA = false) ∧
  (s.rng.fifo = w :: l) ∧
  (s.is RNG_STAT_READY = true) :=
  ⟨{ rn.put RNG_STAT_READY 1 with rng := { rn.rng with fifo := [5] } }, .cluster, 5, [], by and_intros <;> decide⟩

theorem test_meets_DebugUnlockAndEntropy_14 :
  ∃ s : State, ∃ m : Master,
  (s.issues m = true) ∧
  (s.refusal m .read RNG_DATA = none) ∧
  (s.aimed 0x27 RNG_DATA = false) ∧
  (s.rng.fifo = [] ∨ s.is RNG_STAT_READY = false) :=
  ⟨rn, .cluster, by and_intros <;> decide⟩

theorem test_meets_DebugUnlockAndEntropy_15 :
  ∃ s : State, ∃ tag : BitVec 10, ∃ o : CeOp,
  (s.rngReady = true) ∧
  (s.rng.buf = none ∨ s.rng.reqs < 4095) ∧
  (s.runsOp tag 10 o) :=
  ⟨(ops rn (op 10 [])).put RNG_STAT_READY 1, 0, op 10 [], by decide, by decide, by unfold State.runsOp; decide⟩

theorem test_meets_TapAndBanks_1 :
  ∃ s : State,
  (3 ≤ s.pstate) :=
  ⟨rn, by decide⟩

theorem test_meets_TapAndBanks_2 :
  ∃ s : State, ∃ x : ScanIn, ∃ p,
  (s.tapOn = true) ∧
  (p ∈ [(Instr.extest x, TapInstr.extest, x.scan, (s.bsrCapture x.pins).setWidth 520), (.tapClamp, .clamp, s.tap.bsr, 0), (.highz, .highz, s.tap.bsr, 0)]) ∧
  (s.scanOpen = true) :=
  ⟨rn, ⟨0, 5⟩, (Instr.extest ⟨0, 5⟩, TapInstr.extest, 5, (rn.bsrCapture 0).setWidth 520), by decide, List.Mem.head _, by decide⟩

theorem test_meets_TapAndBanks_3 :
  ∃ s : State, ∃ x : ScanIn, ∃ p,
  (s.tapOn = true) ∧
  (p ∈ [(Instr.extest x, TapInstr.extest, x.scan, (s.bsrCapture x.pins).setWidth 520), (.tapClamp, .clamp, s.tap.bsr, 0), (.highz, .highz, s.tap.bsr, 0)]) ∧
  (s.scanOpen = false) :=
  ⟨sl.put KS_LC_STATE 2, ⟨0, 5⟩, (Instr.extest ⟨0, 5⟩, TapInstr.extest, 5, ((sl.put KS_LC_STATE 2).bsrCapture 0).setWidth 520), by decide, List.Mem.head _, by decide⟩

theorem test_meets_TapAndBanks_4 :
  ∃ s : State,
  (s.tapOn = true) :=
  ⟨rn, by decide⟩

theorem test_meets_TapAndBanks_5 :
  ∃ s : State,
  (s.tapOn = true) :=
  ⟨rn, by decide⟩

def dacc (w : Bool) : State := { rn with tap := { rn.tap with acc := some ⟨w, 0x100BFFFC, 9, false⟩ } }
theorem test_meets_TapAndBanks_6 :
  ∃ s : State, ∃ a : Word, ∃ v : Word,
  (s.snf.only = false) ∧
  (inSram a.toNat = true) ∧
  (a.toNat % 4 = 0) ∧
  (s.flt.inj = []) ∧
  (s.mirrors = false) ∧
  (s.tap.acc = some ⟨true, a, v, false⟩) ∧
  (s.refusal .debug .write a.toNat = none) :=
  ⟨dacc true, 0x100BFFFC, 9, by and_intros <;> decide⟩

theorem test_meets_TapAndBanks_7 :
  ∃ s : State, ∃ a : Word, ∃ v : Word,
  (s.snf.only = false) ∧
  (inSram a.toNat = true) ∧
  (a.toNat % 4 = 0) ∧
  (s.flt.inj = []) ∧
  (s.mirrors = false) ∧
  (s.tap.acc = some ⟨false, a, v, false⟩) ∧
  (s.refusal .debug .read a.toNat = none) ∧
  (s.plainWord a.toNat = true) :=
  ⟨dacc false, 0x100BFFFC, 9, by and_intros <;> decide⟩

theorem test_meets_TickPasses_1 :
  ∃ s : State,
  (s.pending = []) ∧
  (s.aoclkRuns = false) :=
  ⟨rn.put PM_STAT_STATE 1, by decide, by decide⟩

theorem test_meets_TickPasses_2 :
  ∃ s : State,
  (s.pending = []) ∧
  (s.aoclkRuns = true) ∧
  (s.is SNF_STAT_ARMED = false) ∧
  (s.wdCounts = false) ∧
  ((s.lit && s.det) = false) ∧
  (s.pm.cal = none) ∧
  ((s.aoclk + 1) % 16 ≠ 0) ∧
  ((∀ n, n < 24 → bitOf s.snf.holding n = true → 1 < Store.get (fun _ => 0) s.snf.holdLeft n)) :=
  ⟨{ rn with snf := { rn.snf with wdRun := false, holding := 0x800000, holdLeft := [(23, 2)] } }, by and_intros <;> decide⟩

theorem test_meets_DecodeAndEncodeAgree_1 :
  ∃ i : Instr, ∃ w : Word,
  (sisEncode i = some w) ∧
  ((∀ ra, i ≠ .csrw ra 1)) :=
  ⟨Instr.ret, 0xB0000000, by decide, (fun _ h => by cases h)⟩

theorem test_meets_DecodeAndEncodeAgree_2 :
  ∃ w : Word, ∃ i : Instr,
  (sisDecode w = .instr i) :=
  ⟨0xB0000000, Instr.ret, (rfl)⟩

theorem test_meets_EveryStepKeepsMemoryCanonical_1 :
  ∃ s : State, ∃ t : State,
  (s.memOk = true) ∧
  (step s = .next t) :=
  ⟨State.reset, _, by decide, (rfl)⟩

/-! ## Well-formedness: one ill-formed term for each check -/

/-- A frame of a given payload. -/
def frm (p : List Byte) : RingFrame := ⟨false, false, 1, 0, 0, 0, 0, p⟩

theorem test_wf_refuses_output_24 : Instr.wf (.holdoffExpiry 24) = false := by decide
theorem test_wf_refuses_write_back_bank_5 : Instr.wf (.writeBack 5) = false := by decide
theorem test_wf_refuses_scrub_bank_5 : Instr.wf (.scrubRead 5) = false := by decide
theorem test_wf_refuses_prbs_lane_19 : Instr.wf (.prbsCheck 19 true) = false := by decide
theorem test_wf_refuses_prbs_lock_19 : Instr.wf (.prbsLock ⟨19, []⟩) = false := by decide
theorem test_wf_refuses_tst_ctl_19 : Instr.wf (.tstCtlWrite .cluster 19 0) = false := by decide
theorem test_wf_refuses_input_40 : Instr.wf (.gpInput 40 true) = false := by decide
theorem test_wf_refuses_clock_monitor_6 : Instr.wf (.clockMonitor 6 true) = false := by decide
theorem test_wf_refuses_short_beat : Instr.wf (.ringBeat (frm [])) = false := by decide
theorem test_wf_refuses_short_enum : Instr.wf (.ringEnum (frm [0])) = false := by decide
theorem test_wf_refuses_empty_wreq : Instr.wf (.ringWreq (frm [])) = false := by decide
theorem test_wf_refuses_rreq_with_payload : Instr.wf (.ringRreq (frm [0])) = false := by decide
theorem test_wf_refuses_resp_of_one_byte : Instr.wf (.ringResp (frm [0])) = false := by decide
theorem test_wf_refuses_empty_msg : Instr.wf (.ringMsg (frm [])) = false := by decide
theorem test_wf_refuses_long_msg : Instr.wf (.ringMsg (frm (List.replicate 57 0))) = false := by decide
theorem test_wf_refuses_pair_of_three_bytes : Instr.wf (.ringPair (frm [0, 0, 0])) = false := by decide
theorem test_wf_refuses_mirror_of_five_bytes : Instr.wf (.ringMirror (frm [0, 0, 0, 0, 0])) = false := by decide
theorem test_wf_takes_a_beat : Instr.wf (.ringBeat (frm (List.replicate 18 0))) = true := by decide

/-! ## Decoding: words written out from Tables 5.1 to 5.5 -/

theorem test_decode_sub : sisDecode 0b00000000011000100010100000000001 = .instr (.sub 3 2 5) := by decide
theorem test_decode_acw : sisDecode 0b00000100001000100001100000001100 = .instr (.acw 1 2 3) := by decide
theorem test_decode_acc_2 : sisDecode 0b00000100010000100001100000001100 = .illegal 1 := by decide
theorem test_decode_mul_3 : sisDecode 0b00000100000000000000000000000011 = .illegal 0 := by decide
theorem test_decode_shli : sisDecode 0b00100000001000100000000000011111 = .instr (.shli 1 2 31) := by decide
theorem test_decode_shli_32 : sisDecode 0b00100000001000100000000000100000 = .illegal 1 := by decide
theorem test_decode_lui : sisDecode 0b00110000101000001000000000000001 = .instr (.lui 5 0x8001) := by decide
theorem test_decode_ldbu : sisDecode 0b01010000110001111111111111111110 = .instr (.ldbu 6 7 0xFFFE) := by decide
theorem test_decode_bgeu : sisDecode 0b10010100001000100010000000000001 = .instr (.bgeu 1 2 0x2001) := by decide
theorem test_decode_jmp : sisDecode 0b10100011111111111111111111111111 = .instr (.jmp 0x3FFFFFF) := by decide
theorem test_decode_callr : sisDecode 0b10101100000010010000000000000100 = .instr (.callr 9 4) := by decide
theorem test_decode_ret_with_field : sisDecode 0b10110000000000000000000000000001 = .illegal 1 := by decide
theorem test_decode_gate : sisDecode 0b11111100000000000010000001111111 = .instr (.gate 127) := by decide
theorem test_decode_scrub : sisDecode 0b11111100000001001001000000000000 = .instr (.scrub 4) := by decide
theorem test_decode_xop : sisDecode 0b11111100011001011011000000111111 = .instr (.xop 3 5 63) := by decide
theorem test_decode_mode_write : sisDecode 0b11111100000000010001000000000001 = .instr (.modeWrite 1) := by decide
theorem test_decode_system_15 : sisDecode 0b11111100000000001111000000000000 = .illegal 0 := by decide

/-! ## Single operations -/

/-- The check value of CRC-16 over "123456789", the catalogue's for polynomial 0x1021 from 0xFFFF. -/
theorem test_crc16 : crc16 [0x31, 0x32, 0x33, 0x34, 0x35, 0x36, 0x37, 0x38, 0x39] = 0x29B1 := by decide
/-- The same of CRC-32. -/
theorem test_crc32 : crc32 [0x31, 0x32, 0x33, 0x34, 0x35, 0x36, 0x37, 0x38, 0x39] = 0xCBF43926 := by decide
/-- The 32 data columns of the word code are the first values of weight 3 (R229). -/
theorem test_columns : (dataCols 7).take 5 = [7, 11, 13, 14, 19] ∧ (dataCols 7).length = 32 := by decide
/-- The memory at reset is in canonical form. -/
theorem test_reset_memory : State.reset.memOk = true := by decide
/-- SHA-256 of "abc", the example of FIPS 180-4. -/
theorem test_sha256 : bytesNatBE (sha256 [0x61, 0x62, 0x63]) =
    0xBA7816BF8F01CFEA414140DE5DAE2223B00361A396177A9CB410FF61F20015AD := by decide +kernel
/-- The substitution and the product that FIPS 197 works out. -/
theorem test_aes_field : aesSub 0x53 = 0xED ∧ gfMul 0x57 0x83 8 = 0xC1 := by decide
/-- The base point of P-256 lies on the curve. -/
theorem test_p256_base : onCurve (natBytesBE 32 p256g.1 ++ natBytesBE 32 p256g.2) = true := by decide +kernel
/-- An empty queue moves AOCLK by one cycle (log entry 3). -/
theorem test_idle_pending : State.reset.pending = [] := rfl

end Sys2Proof.Tests
end

section
/-! PROOFS. Single bits and one-bit fields, the capture of an event's own fault, and writes that their master may make. -/
namespace Sys2Proof.Machine
variable (s : State)

/-! ## Bits and one-bit fields -/

theorem bitOf_and (w x : Word) (k : Nat) : bitOf (w &&& x) k = (bitOf w k && bitOf x k) := BitVec.getLsbD_and ..

theorem bitOf_or (w x : Word) (k : Nat) : bitOf (w ||| x) k = (bitOf w k || bitOf x k) := BitVec.getLsbD_or ..

theorem bitOf_of_ge (w : Word) (k : Nat) (h : 32 ≤ k) : bitOf w k = false := BitVec.getLsbD_of_ge w k h

theorem bitOf_bit (n k : Nat) : bitOf (bit n) k = (decide (k < 32) && decide (n = k)) := by
  rw [bitOf, bit, BitVec.getLsbD_ofNat, Nat.testBit_two_pow]

theorem bitOf_clear (w : Word) (n k : Nat) : bitOf (w &&& ~~~ bit n) k = (bitOf w k && decide (k ≠ n)) := by
  by_cases h : k < 32
  · have hb : (bit n).getLsbD k = decide (n = k) := (bitOf_bit n k).trans (by simp [h])
    rw [bitOf, BitVec.getLsbD_and, BitVec.getLsbD_not, hb]
    simp [bitOf, h, eq_comm]
  · simp [bitOf_of_ge _ k (by omega)]

/-- The mask of the 24 outputs. -/
theorem bitOf_mask24 (k : Nat) : bitOf 0xFFFFFF k = decide (k < 24) := by
  show (BitVec.ofNat 32 (2 ^ 24 - 1)).getLsbD k = _
  rw [BitVec.getLsbD_ofNat, Nat.testBit_two_pow_sub_one]
  by_cases h : k < 24
  · simp [h, show k < 32 by omega]
  · simp [h]

theorem State.is_bit (a k : Nat) : s.is ⟨a, k, 1⟩ = bitOf (s.rd a) k := by
  unfold State.is State.get fld bitOf BitVec.getLsbD
  rw [Nat.testBit_eq_decide_div_mod_eq]
  rcases Nat.mod_two_eq_zero_or_one ((s.rd a).toNat / 2 ^ k) with h | h <;> simp [h]

theorem State.rd_flag_ne (f : Fld) (b : Bool) (a : Nat) (h : a ≠ f.addr) : (s.flag f b).rd a = s.rd a := by
  rw [State.flag, State.rd_put, if_neg h]

theorem State.bitOf_rd_flag (a j k : Nat) (b : Bool) (h : j < 32) :
    bitOf ((s.flag ⟨a, j, 1⟩ b).rd a) k = if k = j then b else bitOf (s.rd a) k := by
  rw [State.flag, State.rd_put, if_pos rfl, bitOf_putFld]
  by_cases e : k = j
  · subst e; cases b <;> simp [h]
  · rw [if_neg (fun hk => by have := hk.2; dsimp only at this; omega), if_neg e]

/-! ## The snuffed outputs -/

theorem State.bitOf_snuffed (k : Nat) : bitOf s.snuffed k = (decide (k < 24) && bitOf (s.rd SNF_STAT) k) := by
  rw [State.snuffed, bitOf_and, bitOf_mask24, Bool.and_comm]

theorem State.snuffed_congr {s t : State} (h : ∀ k < 24, bitOf (t.rd SNF_STAT) k = bitOf (s.rd SNF_STAT) k) :
    t.snuffed = s.snuffed := by
  apply BitVec.eq_of_getLsbD_eq
  intro k _
  show bitOf _ k = bitOf _ k
  rw [State.bitOf_snuffed, State.bitOf_snuffed]
  by_cases hk : k < 24
  · rw [h k hk]
  · simp [hk]

/-- A used output that is not snuffed shows its operating level (R51). -/
theorem State.outLevel_of_released (n : Nat) (hu : s.is (SNF_OCFG_USED n) = true) (hs : bitOf s.snuffed n = false) :
    s.outLevel n = bitOf (s.rd SNF_OPLVL) n := by
  simp [State.outLevel, hu, hs]

/-! ## A fault of an event's own detection -/

/-- The source of the ID isolates no unit (Table 2.3). -/
def isolatesNothing (id : Nat) : Bool := (faultRow id).all (fun r => r.iso == .none)

theorem State.capture_of_isolatesNothing (id n : Nat) (d : Word) (inj prec : Bool) (h : isolatesNothing id = true) :
    s.capture ⟨id, d, some n, inj, prec⟩ = s.capture ⟨id, d, none, inj, prec⟩ := by
  unfold State.capture
  unfold isolatesNothing at h
  cases hr : faultRow id with
  | none => rfl
  | some row =>
    have hi : row.iso = .none := by simpa [hr] using h
    simp [State.classActions, State.isolateStep, isoUnitOf, hi, State.logWords]

/-- Of a source that isolates nothing the collector captures the same request, whatever unit it names. -/
theorem State.captures_raise (id : BitVec 8) (d : Word) (h : isolatesNothing id.toNat = true) :
    s.captures (s.raise ⟨id.toNat, d, none, false, false⟩) id d 0 := by
  have hid : (id.toNat == 0x01 || id.toNat == 0x03 || id.toNat == 0x05) = false := by
    by_contra hc
    simp only [Bool.not_eq_false, Bool.or_eq_true, beq_iff_eq] at hc
    rcases hc with (e | e) | e <;> rw [e] at h <;> exact absurd h (by decide)
  simp only [State.captures, execFaultCapture, exec, State.raise, hid, Bool.false_and, Bool.false_eq_true, if_false,
    State.capture_of_isolatesNothing _ _ _ _ _ _ h]

/-! ## A register write that its master may make -/

theorem State.rowWrite_of_admitted (m : Master) (a : Nat) (f : State → State) (h : s.writeIgnored m a = false) :
    s.rowWrite m a f = f s := by
  unfold State.writeIgnored at h
  unfold State.rowWrite
  split at h
  · cases h
  · next r hr =>
    obtain ⟨hm, hi⟩ := Bool.or_eq_false_iff.1 h
    simp only [hm, hi, Bool.false_eq_true, if_false]

/-- A write that is admitted has its effect and nothing else. -/
theorem State.regCommand_of_admits (m : Master) (a : Nat) (f : State → State) (h : s.admits m a = true) :
    s.regCommand m a f = f s := by
  simp only [State.admits, Bool.and_eq_true, beq_iff_eq, Bool.not_eq_true'] at h
  obtain ⟨⟨⟨⟨⟨hissues, hperiph⟩, halign⟩, hgrant⟩, haim⟩, hrow⟩ := h
  have hword : a / 4 * 4 = a := by omega
  have hcross : crosses a Size.word.bytes = false := by
    simp only [crosses, Size.bytes, halign]; decide
  simp [State.regCommand, State.regAccess, hissues, hperiph, hcross, hgrant, hword, haim,
    State.rowWrite_of_admitted _ _ _ _ hrow]

theorem State.ownCommand_of_reaches (a : Nat) (f : State → State) (h : s.reaches a = true) : s.ownCommand a f = f s :=
  if_pos h

end Sys2Proof.Machine
end

section
/-! PROOFS. The watchdogs (R63, R64, R65). -/
namespace Sys2Proof.Machine
variable (s : State)

/-! ## A watchdog's restart and its fault -/

theorem State.onlyRegs_wr (a : Nat) (v : Word) : s.onlyRegs (s.wr a v) [a] :=
  ⟨fun b hb => by rw [State.rd_wr, if_neg (by simpa using hb)], s.sameMem_refl⟩

theorem State.wwdRestart_count (served : Bool) : (s.wwdRestart served).rd SNF_WWDCNT = 0 := by
  show (s.wr SNF_WWDCNT 0).rd _ = 0
  simp

theorem State.wwdRestart_onlyRegs (served : Bool) : s.onlyRegs (s.wwdRestart served) [SNF_WWDCNT] :=
  s.onlyRegs_wr SNF_WWDCNT 0

theorem State.qawRestart_count (served : Bool) : (s.qawRestart served).rd SNF_QAWCNT = 0 := by
  show (s.wr SNF_QAWCNT 0).rd _ = 0
  simp

theorem State.qawRestart_onlyRegs (served : Bool) : s.onlyRegs (s.qawRestart served) [SNF_QAWCNT] :=
  s.onlyRegs_wr SNF_QAWCNT 0

theorem State.qawRestart_question (served : Bool) : (s.qawRestart served).question = s.question := by
  unfold State.question
  rw [(s.qawRestart_onlyRegs served).1 SNF_QAWQ (by decide)]

/-- The Q&A watchdog restarted with its next question (R64). -/
theorem State.qawAdvance_question (x : BitVec 8) : (s.wr SNF_QAWQ (x.setWidth 32)).question = x := by
  unfold State.question
  rw [State.rd_wr, if_pos rfl]
  exact BitVec.setWidth_setWidth_of_le x (by decide)

theorem State.onlyRegs_trans {s t u : State} {l k : List Nat} (h : s.onlyRegs t l) (g : t.onlyRegs u k) :
    s.onlyRegs u (l ++ k) := by
  obtain ⟨hr, hb, hc⟩ := h
  obtain ⟨gr, gb, gc⟩ := g
  refine ⟨fun a ha => ?_, fun a => (gb a).trans (hb a), fun a => (gc a).trans (hc a)⟩
  rw [List.mem_append, not_or] at ha
  exact (gr a ha.2).trans (hr a ha.1)

/-- The feedback of the question's shift register: R64's sum of bits 7, 5, 4 and 3 modulo 2. -/
theorem qaNext_eq (x : BitVec 8) : qaNext x = (x <<< 1) ||| BitVec.ofNat 8
    ((x.getLsbD 7).toNat ^^^ (x.getLsbD 5).toNat ^^^ (x.getLsbD 4).toNat ^^^ (x.getLsbD 3).toNat) := by
  unfold qaNext
  congr 1
  cases x.getLsbD 7 <;> cases x.getLsbD 5 <;> cases x.getLsbD 4 <;> cases x.getLsbD 3 <;> rfl

/-- A watchdog that runs takes its services: its registers are reached in LIT and DIM. -/
theorem State.reaches_of_lit_or_dim (a : Nat) (hp : 4 ≤ s.pstate) (ho : s.snf.only = false) : s.reaches a = true := by
  have h3 : ¬ s.pstate < 3 := by omega
  have h4 : ¬ s.pstate < 4 := by omega
  simp [State.reaches, pageOff, ho, h3, h4]

/-- A service is not the right one inside the window if its value, or a bound of the window, says so. -/
theorem not_served {p : Prop} {o c k : Nat} (h : ¬ p ∨ c < o ∨ k ≤ c) : ¬ (p ∧ o ≤ c ∧ c < k) := by
  rintro ⟨hp, ho, hc⟩
  rcases h with h | h | h
  · exact h hp
  · omega
  · omega

theorem State.wwdKick_right (hr : s.snf.wdRun = true) (hp : 4 ≤ s.pstate) (v : Word) (hv : v = 0xA5C3)
    (ho : s.snf.wwd.openAt ≤ s.get ⟨SNF_WWDCNT, 0, 16⟩) (hc : s.get ⟨SNF_WWDCNT, 0, 16⟩ < s.snf.wwd.closeAt) :
    s.wwdKick v = s.wwdRestart true := by
  simp [State.wwdKick, hr, hv, ho, hc, show ¬ s.pstate < 4 by omega]

theorem State.wwdKick_wrong (hr : s.snf.wdRun = true) (hp : 4 ≤ s.pstate) (v : Word)
    (h : v ≠ 0xA5C3 ∨ s.get ⟨SNF_WWDCNT, 0, 16⟩ < s.snf.wwd.openAt ∨ s.snf.wwd.closeAt ≤ s.get ⟨SNF_WWDCNT, 0, 16⟩) :
    s.wwdKick v = (s.wwdRestart false).fault 0x70 (s.get ⟨SNF_WWDCNT, 0, 16⟩) := by
  unfold State.wwdKick
  dsimp only
  rw [if_neg (by simp [hr, hp]), if_neg (by simpa [and_assoc] using not_served h)]

theorem State.qawAnswer_right (hr : s.snf.wdRun = true) (hp : 4 ≤ s.pstate) (v : Word) (hv : v = qaAnswer s.question)
    (ho : s.snf.qaw.openAt ≤ s.get ⟨SNF_QAWCNT, 0, 16⟩) (hc : s.get ⟨SNF_QAWCNT, 0, 16⟩ < s.snf.qaw.closeAt) :
    s.qawAnswer v = (s.qawRestart true).wr SNF_QAWQ ((qaNext s.question).setWidth 32) := by
  simp [State.qawAnswer, hr, hv, ho, hc, show ¬ s.pstate < 4 by omega]

theorem State.qawAnswer_wrong (hr : s.snf.wdRun = true) (hp : 4 ≤ s.pstate) (v : Word)
    (h : v ≠ qaAnswer s.question ∨ s.get ⟨SNF_QAWCNT, 0, 16⟩ < s.snf.qaw.openAt ∨
      s.snf.qaw.closeAt ≤ s.get ⟨SNF_QAWCNT, 0, 16⟩) :
    s.qawAnswer v = (s.qawRestart false).fault 0x71 (s.get ⟨SNF_QAWCNT, 0, 16⟩) := by
  unfold State.qawAnswer
  dsimp only
  rw [if_neg (by simp [hr, hp]), if_neg (by simpa [and_assoc] using not_served h)]

/-- The fault of the windowed watchdog is captured on its restarted count. -/
theorem State.wwdFault_captures (c : Nat) :
    (s.wwdRestart false).captures ((s.wwdRestart false).fault 0x70 c) 0x70 (BitVec.ofNat 32 c) 0 ∧
    (s.wwdRestart false).rd SNF_WWDCNT = 0 ∧ s.onlyRegs (s.wwdRestart false) [SNF_WWDCNT] :=
  ⟨State.captures_raise _ 0x70 _ (by decide), s.wwdRestart_count false, s.wwdRestart_onlyRegs false⟩

/-- The fault of the Q&A watchdog is captured on its restarted count, with its question kept. -/
theorem State.qawFault_captures (c : Nat) :
    (s.qawRestart false).captures ((s.qawRestart false).fault 0x71 c) 0x71 (BitVec.ofNat 32 c) 0 ∧
    (s.qawRestart false).rd SNF_QAWCNT = 0 ∧ (s.qawRestart false).question = s.question ∧
    s.onlyRegs (s.qawRestart false) [SNF_QAWCNT] :=
  ⟨State.captures_raise _ 0x71 _ (by decide), s.qawRestart_count false, s.qawRestart_question false,
    s.qawRestart_onlyRegs false⟩

/-- A word is its two halves. -/
theorem ofNat_halves (v : Word) : BitVec.ofNat 32 (fld v 0 16 + fld v 16 16 * 65536) = v := by
  apply BitVec.eq_of_toNat_eq
  have := v.isLt
  simp only [fld, BitVec.toNat_ofNat]
  omega

/-- Limits no looser than sealed are taken as written (R65). -/
theorem State.wdCfgWrite_legal (a : Nat) (v : Word) (hs : s.isSealed = true) (hpos : 0 < fld v 0 16)
    (hclose : fld v 0 16 ≤ fld (s.latched a) 0 16) (hlt : fld v 16 16 < fld v 0 16)
    (hopen : fld (s.latched a) 16 16 ≤ fld v 16 16) : s.wdCfgWrite a v = s.wr a v := by
  have hc : min (max (fld v 0 16) 1) (fld (s.latched a) 0 16) = fld v 0 16 := by omega
  have ho : max (min (fld v 16 16) (fld v 0 16 - 1)) (fld (s.latched a) 16 16) = fld v 16 16 := by omega
  simp only [State.wdCfgWrite, hs, Bool.not_true, Bool.false_eq_true, if_false, hc, ho, ofNat_halves, bne_self_eq_false,
    Bool.or_self, State.clampIf]

/-! ## The watchdogs' commands -/

theorem exec_snfWwdkick_of_reaches (v : Word) (h : s.reaches SNF_WWDKICK = true) :
    exec (.snfWwdkick v) s = .next (s.wwdKick v) :=
  congrArg Host.Outcome.next (s.ownCommand_of_reaches SNF_WWDKICK _ h)

theorem exec_snfQawans_of_reaches (v : Word) (h : s.reaches SNF_QAWANS = true) :
    exec (.snfQawans v) s = .next (s.qawAnswer v) :=
  congrArg Host.Outcome.next (s.ownCommand_of_reaches SNF_QAWANS _ h)

theorem exec_windowedWatchdogClose_of_counts (h : s.wdCounts = true) :
    exec .windowedWatchdogClose s = .next ((s.wwdRestart false).fault 0x70 s.snf.wwd.closeAt) :=
  congrArg Host.Outcome.next (if_pos h)

theorem exec_qaWatchdogClose_of_counts (h : s.wdCounts = true) :
    exec .qaWatchdogClose s = .next ((s.qawRestart false).fault 0x71 s.snf.qaw.closeAt) :=
  congrArg Host.Outcome.next (if_pos h)

theorem exec_snfWdcfgWrite_of_admits (m : Master) (qa : Bool) (v : Word)
    (h : s.admits m (if qa then SNF_QAWCFG else SNF_WWDCFG) = true) :
    exec (.snfWdcfgWrite m qa v) s = .next (s.wdCfgWrite (if qa then SNF_QAWCFG else SNF_WWDCFG) v) :=
  congrArg Host.Outcome.next (s.regCommand_of_admits m _ _ h)

/-- Settles O25: each service and each close is the equation of its case, and a fault's capture starts from the watchdog as
its restart leaves it. -/
theorem watchdogsAndTheirLimits : Obligations.WatchdogsAndTheirLimits := by
  unfold Obligations.WatchdogsAndTheirLimits
  refine ⟨⟨by decide, fun s => ⟨fun v hrun hp honly => ?_, fun hcounts => ⟨?_, ?_⟩⟩⟩, ?_⟩
  · have hkick := exec_snfWwdkick_of_reaches s v (s.reaches_of_lit_or_dim _ hp honly)
    have hans := exec_snfQawans_of_reaches s v (s.reaches_of_lit_or_dim _ hp honly)
    refine ⟨fun hv ho hc => ?_, fun h => ?_, fun hv ho hc => ?_, fun h => ?_⟩
    · rw [s.wwdKick_right hrun hp v hv ho hc] at hkick
      exact ⟨_, hkick, s.wwdRestart_count true, by simp [State.wwdRestart], s.wwdRestart_onlyRegs true⟩
    · rw [s.wwdKick_wrong hrun hp v h] at hkick
      exact ⟨_, _, hkick, s.wwdFault_captures _⟩
    · rw [s.qawAnswer_right hrun hp v hv ho hc] at hans
      refine ⟨_, hans, ?_, ?_, ?_, State.onlyRegs_trans (s.qawRestart_onlyRegs true) (State.onlyRegs_wr _ SNF_QAWQ _)⟩
      · rw [State.rd_wr, if_neg (by decide), s.qawRestart_count]
      · rw [State.qawAdvance_question, qaNext_eq]
      · simp [State.qawRestart]
    · rw [s.qawAnswer_wrong hrun hp v h] at hans
      exact ⟨_, _, hans, s.qawFault_captures _⟩
  · exact ⟨_, _, exec_windowedWatchdogClose_of_counts s hcounts, s.wwdFault_captures _⟩
  · exact ⟨_, _, exec_qaWatchdogClose_of_counts s hcounts, s.qawFault_captures _⟩
  · intro m qa v s a hadm hseal hpos hclose hlt hopen
    have hexec := exec_snfWdcfgWrite_of_admits s m qa v hadm
    rw [s.wdCfgWrite_legal a v hseal hpos hclose hlt hopen] at hexec
    exact ⟨_, hexec, by simp, s.onlyRegs_wr a v, rfl⟩

end Sys2Proof.Machine
end

section
/-! PROOFS. What a log entry and a ledger entry leave of the Snuffer's state. -/
namespace Sys2Proof.Machine
variable (s : State)

/-! ## What a log entry leaves alone -/

/-- From `s` to `t` only the log and the collector's registers move: the Snuffer's own state and every register of another
block stay, and no injection has joined those that wait. -/
def State.onlyLog (s t : State) : Prop :=
  t.snf = s.snf ∧ (∀ a, a / 4096 ≠ 0x40005 → t.rd a = s.rd a) ∧ ∀ id, t.injWaits id = true → s.injWaits id = true

theorem State.onlyLog_refl : s.onlyLog s := ⟨rfl, fun _ _ => rfl, fun _ h => h⟩

theorem State.onlyLog.trans {s t u : State} (h : s.onlyLog t) (g : t.onlyLog u) : s.onlyLog u := by
  obtain ⟨hs, hr, hi⟩ := h
  obtain ⟨gs, gr, gi⟩ := g
  exact ⟨gs.trans hs, fun a ha => (gr a ha).trans (hr a ha), fun id hid => hi id (gi id hid)⟩

/-- A further write to the collector's page. -/
theorem State.onlyLog.wr {s t : State} (h : s.onlyLog t) (a : Nat) (v : Word) (ha : a / 4096 = 0x40005) :
    s.onlyLog (t.wr a v) :=
  h.trans ⟨rfl, fun b hb => (t.rd_wr a b v).trans (if_neg (fun e : b = a => hb (e ▸ ha))), fun _ hid => hid⟩

theorem State.onlyLog.put {s t : State} (h : s.onlyLog t) (f : Fld) (v : Nat) (hf : f.addr / 4096 = 0x40005) :
    s.onlyLog (t.put f v) :=
  h.wr f.addr _ hf

theorem State.onlyLog.flag {s t : State} (h : s.onlyLog t) (f : Fld) (b : Bool) (hf : f.addr / 4096 = 0x40005) :
    s.onlyLog (t.flag f b) :=
  h.put f _ hf

theorem State.onlyLog.bump {s t : State} (h : s.onlyLog t) (f : Fld) (d : Nat) (hf : f.addr / 4096 = 0x40005) :
    s.onlyLog (t.bump f d) :=
  h.put f _ hf

theorem State.onlyLog.ite {s t u : State} {c : Prop} [Decidable c] (ht : s.onlyLog t) (hu : s.onlyLog u) :
    s.onlyLog (if c then t else u) := by
  split
  · exact ht
  · exact hu

theorem State.putBytes_regs (l : List Byte) (a : Nat) : (s.putBytes a l).regs = s.regs := by
  induction l generalizing s a with
  | nil => rfl
  | cons x t ih => rw [State.putBytes, ih]; rfl

theorem State.putBytes_snf (l : List Byte) (a : Nat) : (s.putBytes a l).snf = s.snf := by
  induction l generalizing s a with
  | nil => rfl
  | cons x t ih => rw [State.putBytes, ih]; rfl

/-- A change of memory contents and of the memories' internals is none of the Snuffer's. -/
theorem State.onlyLog_of_eq {s t : State} (hs : t.snf = s.snf) (hr : t.regs = s.regs)
    (hi : t.flt.inj = s.flt.inj ∨ ∃ i, t.flt.inj = s.flt.inj.erase i) : s.onlyLog t := by
  refine ⟨hs, fun a _ => State.rd_congr hr a, fun id hid => ?_⟩
  unfold State.injWaits at *
  rcases hi with hi | ⟨i, hi⟩ <;> rw [hi] at hid
  · exact hid
  · obtain ⟨x, hx, hxi⟩ := List.any_eq_true.1 hid
    exact List.any_eq_true.2 ⟨x, List.mem_of_mem_erase hx, hxi⟩

/-- A word stored outside SRAM moves nothing at the mirror (R377). -/
theorem State.onlyLog_memStore (a : Nat) (w : Word) (h : inSram a = false) : s.onlyLog (s.memStore a w) := by
  apply State.onlyLog_of_eq <;> unfold State.memStore <;> simp only [h, Bool.false_and, Bool.false_eq_true, if_false]
  · repeat' split
    all_goals simp [State.putWord, State.putBytes_snf]
  · repeat' split
    all_goals simp [State.putWord, State.putBytes_regs]
  · repeat' split
    all_goals simp

theorem logRun_onlyLog (ws : List Word) (a : Nat) (h : 0x18000000 ≤ a) : s.onlyLog (logRun ws s a) := by
  induction ws generalizing s a with
  | nil => exact s.onlyLog_refl
  | cons w t ih =>
    rw [logRun]
    refine State.onlyLog.trans ?_ (ih _ (a + 4) (by omega))
    split
    · exact s.onlyLog_refl
    · exact s.onlyLog_memStore a w (by simp only [inSram, Bool.and_eq_false_iff, decide_eq_false_iff_not]; omega)

theorem State.onlyLog_logStore (ws : List Word) : s.onlyLog (s.logStore ws) := by
  have hhead := ((logRun_onlyLog s ws (0x1800F000 + 16 * s.get FLT_LOGHEAD_HEAD) (by omega)).put FLT_LOGHEAD_HEAD
    (s.get FLT_LOGHEAD_HEAD + 1) (by decide)).bump FLT_LOGHEAD_COUNT 1 (by decide)
  have hfirst := ((((hhead.wr (FLT_FIRST 0) (ws.getD 0 0) (by decide)).wr (FLT_FIRST 1) (ws.getD 1 0) (by decide)).wr
    (FLT_FIRST 2) (ws.getD 2 0) (by decide)).wr (FLT_FIRST 3) (ws.getD 3 0) (by decide)).flag FLT_STAT_FIRSTV true (by decide)
  unfold State.logStore
  exact State.onlyLog.ite ((hhead.ite hfirst).flag FLT_STAT_LOGOVF true (by decide)) (hhead.ite hfirst)

theorem State.onlyLog_logPut (ws : List Word) : s.onlyLog (s.logPut ws) := by
  have hseq : s.onlyLog { s with flt := { s.flt with seq := (s.flt.seq + 1) % 256 } } :=
    State.onlyLog_of_eq rfl rfl (.inl rfl)
  exact (hseq.trans (State.onlyLog_logStore _ ws)).ite
    ((State.onlyLog_of_eq rfl rfl (.inl rfl)).ite (hseq.bump FLT_LOST_COUNT 1 (by decide)))

theorem State.onlyLog_log (e : LogRec) : s.onlyLog (s.log e) := s.onlyLog_logPut _

theorem State.injWaits_of_noInj (id : Nat) (h : s.noInj id id = true) : s.injWaits id = false := by
  rw [State.injWaits, List.any_eq_false]
  intro i hi hid
  have := List.all_eq_true.1 h i hi
  simp only [beq_iff_eq] at hid
  simp [hid] at this

/-- With no end-to-end check to fail, an entry brings no fault of its own (R246). -/
theorem State.logCheck_of_noInj {s t : State} (o : State) (ht : s.onlyLog t) (h : s.noInj 0x27 0x27 = true) :
    t.logCheck o = t := by
  have hw : t.injWaits 0x27 = false :=
    Bool.eq_false_iff.2 (fun e => Bool.false_ne_true ((s.injWaits_of_noInj 0x27 h).symm.trans (ht.2.2 _ e)))
  simp [State.logCheck, State.logFailed, hw]

/-! ## The ledger entries of the outputs -/

theorem State.mirror_snf (c a : Nat) (d : List Word) : (s.mirror c a d).snf = s.snf := by
  unfold State.mirror; dsimp only; split <;> rfl

theorem State.mirror_core (c a : Nat) (d : List Word) : (s.mirror c a d).core = s.core := by
  unfold State.mirror; dsimp only; split <;> rfl

theorem State.ledger_snf (i st : Nat) : (s.ledger i st).snf = s.snf := by
  unfold State.ledger State.ledgerPut
  repeat' split
  all_goals simp [State.mirror_snf]

theorem State.ledger_core (i st : Nat) : (s.ledger i st).core = s.core := by
  unfold State.ledger State.ledgerPut
  repeat' split
  all_goals simp [State.mirror_core]

/-- An entry that is not mirrored changes in its own register alone. -/
theorem State.ledger_rd (i st a : Nat) (hi : ledgerMirrored i = false) (h : a ≠ CE_LEDGER i) :
    (s.ledger i st).rd a = s.rd a := by
  unfold State.ledger State.ledgerPut
  split
  · rfl
  · simp only [hi, Bool.and_false, Bool.false_eq_true, if_false]
    exact (State.rd_wr _ _ _ _).trans (if_neg h)

theorem ledgerMirrored_output {n : Nat} (h : n < 24) : ledgerMirrored (0x5A0 + n) = false := by
  simp only [ledgerMirrored, Bool.or_eq_false_iff, Bool.and_eq_false_iff, decide_eq_false_iff_not]
  omega

end Sys2Proof.Machine
end

section
/-! PROOFS. The release of one output and of the outputs of a mask (R62). -/
namespace Sys2Proof.Machine
variable (s : State)

/-! ## One released output (R62) -/

theorem State.faultNSync_rd_ne (a : Nat) (h : a ≠ SNF_STAT) : s.faultNSync.rd a = s.rd a := s.rd_flag_ne _ _ a h

theorem State.faultNSync_status (k : Nat) (h : k ≠ 24) : bitOf (s.faultNSync.rd SNF_STAT) k = bitOf (s.rd SNF_STAT) k := by
  rw [State.faultNSync, SNF_STAT_FAULTN, State.bitOf_rd_flag _ _ _ _ _ (by decide), if_neg h]

/-- The state of a release before FAULT_N is brought up to date: the level, its age, the hold-off and the ledger. -/
def State.levelTaken (s : State) (n : Nat) : State :=
  let t := (s.wr SNF_STAT (s.rd SNF_STAT &&& ~~~ bit n)).ledger (0x5A0 + n) 8
  { t.levelMoved (bit n &&& t.levelDiffers) with snf := { (t.levelMoved (bit n &&& t.levelDiffers)).snf with
    holding := t.snf.holding &&& ~~~ bit n } }

theorem State.levelTaken_rd (n a : Nat) (h : n < 24) (ha : a ≠ CE_LEDGER (0x5A0 + n)) :
    (s.levelTaken n).rd a = (s.wr SNF_STAT (s.rd SNF_STAT &&& ~~~ bit n)).rd a :=
  State.ledger_rd _ _ _ a (ledgerMirrored_output h) ha

theorem State.levelTaken_snf (n : Nat) :
    (s.levelTaken n).snf.holding = s.snf.holding &&& ~~~ bit n ∧ (s.levelTaken n).snf.holdLeft = s.snf.holdLeft := by
  simp [State.levelTaken, State.levelMoved, State.ledger_snf]

theorem State.levelTaken_core (n : Nat) : (s.levelTaken n).core = s.core :=
  (State.ledger_core _ _ _).trans (s.wr_core _ _)

/-- A release is the level taken, the end of the start's hold of FAULT_N where no used output is snuffed any more (R56), and
FAULT_N. -/
theorem State.releaseOut_eq (n : Nat) : ∃ b, s.releaseOut n =
    State.faultNSync { s.levelTaken n with snf := { (s.levelTaken n).snf with startLow := b } } := by
  unfold State.releaseOut
  dsimp only
  split
  · exact ⟨false, rfl⟩
  · exact ⟨(s.levelTaken n).snf.startLow, rfl⟩

/-- The registers below the state ledger, other than SNF_STAT, stay. -/
theorem State.releaseOut_rd (n a : Nat) (h : n < 24) (ha : a ≠ SNF_STAT) (hl : a < CE_LEDGER 0) :
    (s.releaseOut n).rd a = s.rd a := by
  obtain ⟨b, e⟩ := s.releaseOut_eq n
  rw [e, State.faultNSync_rd_ne _ a ha]
  refine (s.levelTaken_rd n a h ?_).trans ((s.rd_wr SNF_STAT a _).trans (if_neg ha))
  unfold CE_LEDGER at *
  omega

/-- Of SNF_STAT only the output's SNUFFED bit clears, and FAULTN follows. -/
theorem State.releaseOut_status (n k : Nat) (h : n < 24) (hk : k ≠ 24) :
    bitOf ((s.releaseOut n).rd SNF_STAT) k = (bitOf (s.rd SNF_STAT) k && decide (k ≠ n)) := by
  obtain ⟨b, e⟩ := s.releaseOut_eq n
  rw [e, State.faultNSync_status _ k hk, ← bitOf_clear]
  refine congrArg (bitOf · k) ((s.levelTaken_rd n SNF_STAT h ?_).trans ((s.rd_wr SNF_STAT _ _).trans (if_pos rfl)))
  unfold CE_LEDGER SNF_STAT
  omega

theorem State.releaseOut_holding (n k : Nat) :
    bitOf (s.releaseOut n).snf.holding k = (bitOf s.snf.holding k && decide (k ≠ n)) := by
  obtain ⟨b, e⟩ := s.releaseOut_eq n
  rw [e, ← bitOf_clear, ← (s.levelTaken_snf n).1]
  rfl

theorem State.releaseOut_holdLeft (n : Nat) : (s.releaseOut n).snf.holdLeft = s.snf.holdLeft := by
  obtain ⟨b, e⟩ := s.releaseOut_eq n
  rw [e, ← (s.levelTaken_snf n).2]
  rfl

theorem State.releaseOut_core (n : Nat) : (s.releaseOut n).core = s.core := by
  obtain ⟨b, e⟩ := s.releaseOut_eq n
  rw [e]
  exact s.levelTaken_core n

/-! ## The released outputs of a mask -/

/-- The hold-off of output `n` begins, to last `h` AOCLK. -/
def State.holdoffBegun (s : State) (n h : Nat) : State :=
  { s with snf := { s.snf with holding := s.snf.holding ||| bit n, holdLeft := Store.set (fun _ => 0) s.snf.holdLeft n h } }

theorem State.releaseMask_skip (m : Word) (n : Nat) (h : bitOf m n = false) : s.releaseMask m (n + 1) = s.releaseMask m n := by
  simp [State.releaseMask, h]

theorem State.releaseMask_now (m : Word) (n : Nat) (h : bitOf m n = true)
    (h0 : (s.releaseMask m n).get (SNF_OCFG_HOLDOFF n) = 0) : s.releaseMask m (n + 1) = (s.releaseMask m n).releaseOut n := by
  simp [State.releaseMask, h, h0]

theorem State.releaseMask_later (m : Word) (n : Nat) (h : bitOf m n = true)
    (h0 : (s.releaseMask m n).get (SNF_OCFG_HOLDOFF n) ≠ 0) : s.releaseMask m (n + 1) =
      (s.releaseMask m n).holdoffBegun n ((s.releaseMask m n).get (SNF_OCFG_HOLDOFF n) * 16) := by
  simp [State.releaseMask, State.holdoffBegun, h, h0]

theorem State.releaseMask_rd (m : Word) (n a : Nat) (h : n ≤ 24) (ha : a ≠ SNF_STAT) (hl : a < CE_LEDGER 0) :
    (s.releaseMask m n).rd a = s.rd a := by
  induction n with
  | zero => rfl
  | succ n ih =>
    have ih := ih (by omega)
    by_cases hm : bitOf m n = true
    · by_cases h0 : (s.releaseMask m n).get (SNF_OCFG_HOLDOFF n) = 0
      · rw [s.releaseMask_now m n hm h0, State.releaseOut_rd _ n a h ha hl, ih]
      · rw [s.releaseMask_later m n hm h0]
        exact ih
    · rw [s.releaseMask_skip m n (Bool.eq_false_iff.2 hm), ih]

theorem State.releaseMask_holdoff (m : Word) (n k : Nat) (h : n ≤ 24) (hk : k < 24) :
    (s.releaseMask m n).get (SNF_OCFG_HOLDOFF k) = s.get (SNF_OCFG_HOLDOFF k) := by
  unfold State.get
  rw [s.releaseMask_rd m n _ h]
  · simp only [SNF_OCFG_HOLDOFF, SNF_OCFG, SNF_STAT]; omega
  · simp only [SNF_OCFG_HOLDOFF, SNF_OCFG, CE_LEDGER]; omega

/-- SNUFFED clears for the outputs of the mask without a hold-off; no other bit but FAULTN moves. -/
theorem State.releaseMask_status (m : Word) (n k : Nat) (h : n ≤ 24) (hk : k ≠ 24) :
    bitOf ((s.releaseMask m n).rd SNF_STAT) k =
      (bitOf (s.rd SNF_STAT) k && !(decide (k < n) && bitOf m k && decide (s.get (SNF_OCFG_HOLDOFF k) = 0))) := by
  induction n with
  | zero => simp [State.releaseMask]
  | succ n ih =>
    have ih := ih (by omega)
    have hlt : decide (k < n + 1) = (decide (k < n) || decide (k = n)) := by
      rw [← Bool.decide_or, decide_eq_decide]; omega
    have hoff := s.releaseMask_holdoff m n n (by omega) (by omega)
    by_cases hm : bitOf m n = true
    · by_cases h0 : (s.releaseMask m n).get (SNF_OCFG_HOLDOFF n) = 0
      · rw [s.releaseMask_now m n hm h0, State.releaseOut_status _ n k h hk, ih, hlt]
        rw [hoff] at h0
        by_cases e : k = n
        · subst e; simp [hm, h0]
        · simp [e]
      · rw [s.releaseMask_later m n hm h0]
        refine ih.trans ?_
        rw [hoff] at h0
        rw [hlt]
        by_cases e : k = n
        · subst e; simp [h0]
        · simp [e]
    · rw [s.releaseMask_skip m n (Bool.eq_false_iff.2 hm), ih, hlt]
      by_cases e : k = n
      · subst e; simp [hm]
      · simp [e]

/-- The outputs of the mask with a hold-off begin it, 16 AOCLK to the microsecond. -/
theorem State.releaseMask_holding (m : Word) (n k : Nat) (h : n ≤ 24) (hk : k < n) (hm : bitOf m k = true)
    (h0 : s.get (SNF_OCFG_HOLDOFF k) ≠ 0) : bitOf (s.releaseMask m n).snf.holding k = true ∧
      Store.get (fun _ => 0) (s.releaseMask m n).snf.holdLeft k = 16 * s.get (SNF_OCFG_HOLDOFF k) := by
  induction n with
  | zero => omega
  | succ n ih =>
    have hoff := s.releaseMask_holdoff m n n (by omega) (by omega)
    by_cases e : k = n
    · subst e
      rw [← hoff] at h0
      rw [s.releaseMask_later m k hm h0, hoff]
      exact ⟨by simp [State.holdoffBegun, bitOf_or, bitOf_bit]; omega, by simp [State.holdoffBegun, Nat.mul_comm]⟩
    · obtain ⟨hhold, hleft⟩ := ih (by omega) (by omega)
      by_cases hn : bitOf m n = true
      · by_cases hn0 : (s.releaseMask m n).get (SNF_OCFG_HOLDOFF n) = 0
        · rw [s.releaseMask_now m n hn hn0, State.releaseOut_holding, State.releaseOut_holdLeft]
          exact ⟨by simp [hhold, e], hleft⟩
        · rw [s.releaseMask_later m n hn hn0]
          exact ⟨by simp [State.holdoffBegun, bitOf_or, hhold], by simp [State.holdoffBegun, e, hleft]⟩
      · rw [s.releaseMask_skip m n (Bool.eq_false_iff.2 hn)]
        exact ⟨hhold, hleft⟩

end Sys2Proof.Machine
end

section
/-! PROOFS. The unsnuff sequence (R60, R61, R62). -/
namespace Sys2Proof.Machine
variable (s : State)

/-! ## The lowest of several causes -/

theorem State.blockFrom_none (n i : Nat) (h : ∀ k, i ≤ k → k < i + n → s.blocks k = false) : s.blockFrom n i = none := by
  induction n generalizing i with
  | zero => rfl
  | succ n ih =>
    rw [State.blockFrom, h i (by omega) (by omega), if_neg Bool.false_ne_true]
    exact ih (i + 1) (fun k h1 h2 => h k (by omega) (by omega))

theorem State.blockFrom_some (n i id : Nat) (hi : i ≤ id) (hn : id < i + n) (hb : s.blocks id = true)
    (h : ∀ k < id, s.blocks k = false) : s.blockFrom n i = some id := by
  induction n generalizing i with
  | zero => omega
  | succ n ih =>
    rw [State.blockFrom]
    by_cases e : i = id
    · rw [e, hb, if_pos rfl]
    · rw [h i (by omega), if_neg Bool.false_ne_true]
      exact ih (i + 1) (by omega) (by omega)

theorem lowestBit_zero (n i : Nat) : lowestBit n i 0 = none := by
  induction n generalizing i with
  | zero => rfl
  | succ n ih => exact ih (i + 1)

theorem lowestBit_some (n i v o : Nat) (ho : o < n) (hb : v.testBit o = true) (h : ∀ k < o, v.testBit k = false) :
    lowestBit n i v = some (i + o) := by
  induction n generalizing i v o with
  | zero => omega
  | succ n ih =>
    rw [lowestBit]
    cases o with
    | zero => rw [if_pos (by simpa using hb), Nat.add_zero]
    | succ o =>
      rw [if_neg (by simpa using h 0 (by omega)), ih (i + 1) (v / 2) o (by omega) (by rwa [Nat.testBit_succ] at hb)
        (fun k hk => by rw [← Nat.testBit_succ]; exact h (k + 1) (by omega))]
      congr 1; omega

/-! ## A refused response (R61) -/

theorem State.unsResult_result (code fault out : Nat) :
    (s.unsResult code fault out).rd SNF_UNSRES = BitVec.ofNat 32 (code + fault * 256 + out * 65536) :=
  (State.rd_flag_ne _ _ _ _ (by decide)).trans ((s.rd_wr _ _ _).trans (if_pos rfl))

theorem State.unsResult_status (code fault out k : Nat) :
    bitOf ((s.unsResult code fault out).rd SNF_STAT) k = if k = 25 then false else bitOf (s.rd SNF_STAT) k := by
  rw [State.unsResult, SNF_STAT_ARMED, State.bitOf_rd_flag _ _ _ _ _ (by decide), State.rd_wr,
    if_neg (show SNF_STAT ≠ SNF_UNSRES by decide)]

theorem State.unsResult_onlyRegs (code fault out : Nat) : s.onlyRegs (s.unsResult code fault out) [SNF_STAT, SNF_UNSRES] := by
  refine ⟨fun a ha => ?_, s.sameMem_refl⟩
  simp only [List.mem_cons, List.not_mem_nil, or_false, not_or] at ha
  exact (State.rd_flag_ne _ _ _ _ ha.1).trans ((s.rd_wr _ _ _).trans (if_neg ha.2))

theorem exec_snfChalrsp_of_reaches (v : Word) (h : s.reaches SNF_CHALRSP = true) :
    exec (.snfChalrsp v) s = .next (s.unsnuffAnswer v) :=
  congrArg Host.Outcome.next (s.ownCommand_of_reaches SNF_CHALRSP _ h)

/-- A response that is refused records its reason, disarms the sequence and raises 0x77; every output stays as it was. -/
theorem exec_snfChalrsp_of_refused (v res : Word) (code fault out : Nat) (h : s.reaches SNF_CHALRSP = true)
    (hans : s.unsnuffAnswer v = s.unsRefuse code fault out)
    (hres : BitVec.ofNat 32 (code + fault * 256 + out * 65536) = res) :
    ∃ t u : State, exec (.snfChalrsp v) s = .next t ∧ u.captures t 0x77 res 0 ∧ u.rd SNF_UNSRES = res ∧
      u.is SNF_STAT_ARMED = false ∧ u.snuffed = s.snuffed ∧ s.onlyRegs u [SNF_STAT, SNF_UNSRES] := by
  have hrd := (s.unsResult_result code fault out).trans hres
  refine ⟨_, s.unsResult code fault out, exec_snfChalrsp_of_reaches s v h, ?_, hrd, ?_, ?_, s.unsResult_onlyRegs code fault out⟩
  · rw [hans, State.unsRefuse, hrd]
    exact State.captures_raise _ 0x77 res (by decide)
  · rw [SNF_STAT_ARMED, State.is_bit]
    exact (s.unsResult_status code fault out 25).trans (if_pos rfl)
  · exact State.snuffed_congr (fun k hk => (s.unsResult_status code fault out k).trans (if_neg (by omega)))

/-! ## How a response is judged (R60, R61) -/

/-- The outputs that a response would release: the used ones of SNF_RELMASK. -/
def State.relMask (s : State) : Word := s.rd SNF_RELMASK &&& s.used &&& 0xFFFFFF

section Judged
variable {s} {v : Word}

theorem State.unsnuffAnswer_unarmed (h : s.is SNF_STAT_ARMED = false) : s.unsnuffAnswer v = s.unsRefuse 5 0 0 := by
  simp [State.unsnuffAnswer, h]

variable (harm : s.is SNF_STAT_ARMED = true)
include harm

theorem State.unsnuffAnswer_late (h : 1600 < s.snf.armAge) : s.unsnuffAnswer v = s.unsRefuse 4 0 0 := by
  simp [State.unsnuffAnswer, harm, h]

variable (hage : s.snf.armAge ≤ 1600)
include hage

theorem State.unsnuffAnswer_wrong (h : v ≠ ~~~ s.rd SNF_CHAL) : s.unsnuffAnswer v = s.unsRefuse 3 0 0 := by
  simp [State.unsnuffAnswer, harm, Nat.not_lt.2 hage, h]

variable (hval : v = ~~~ s.rd SNF_CHAL)
include hval

theorem State.unsnuffAnswer_unsealed (h : s.isSealed = false) : s.unsnuffAnswer v = s.unsRefuse 10 0 0 := by
  simp [State.unsnuffAnswer, harm, Nat.not_lt.2 hage, hval, h]

variable (hseal : s.isSealed = true)
include hseal

theorem State.unsnuffAnswer_limp (h : s.limp = true) : s.unsnuffAnswer v = s.unsRefuse 9 0 0 := by
  simp [State.unsnuffAnswer, harm, Nat.not_lt.2 hage, hval, hseal, h]

variable (hlimp : s.limp = false)
include hlimp

theorem State.unsnuffAnswer_noOutput (h : s.relMask = 0) : s.unsnuffAnswer v = s.unsRefuse 11 0 0 := by
  unfold State.relMask at h
  simp only [State.unsnuffAnswer, harm, Nat.not_lt.2 hage, hval, hseal, hlimp, h, Bool.not_true, Bool.false_eq_true, if_false,
    ne_eq, not_true, if_true]

variable (hmask : s.relMask ≠ 0)
include hmask

theorem State.unsnuffAnswer_unserved (h : (s.wwdOk && s.qawOk) = false) : s.unsnuffAnswer v = s.unsRefuse 6 0 0 := by
  unfold State.relMask at hmask
  simp only [State.unsnuffAnswer, harm, Nat.not_lt.2 hage, hval, hseal, hlimp, hmask, h, Bool.not_true, Bool.not_false,
    Bool.false_eq_true, if_false, ne_eq, not_true, if_true]

variable (hserved : (s.wwdOk && s.qawOk) = true)
include hserved

theorem State.unsnuffAnswer_blocked (id : Nat) (hid : id < 128) (hb : s.blocks id = true)
    (hlow : ∀ k < id, s.blocks k = false) : s.unsnuffAnswer v = s.unsRefuse 7 id 0 := by
  have hfrom := s.blockFrom_some 128 0 id (by omega) (by omega) hb hlow
  unfold State.relMask at *
  simp only [State.unsnuffAnswer, harm, Nat.not_lt.2 hage, hval, hseal, hlimp, hmask, hserved, hfrom, Bool.not_true,
    Bool.false_eq_true, if_false, ne_eq, not_true]

variable (hfree : ∀ id < 128, s.blocks id = false)
include hfree

theorem State.unsnuffAnswer_caused (o : Nat) (ho : o < 24) (hb : bitOf (s.relMask &&& s.activeCauses) o = true)
    (hlow : ∀ k < o, bitOf (s.relMask &&& s.activeCauses) k = false) : s.unsnuffAnswer v = s.unsRefuse 8 0 o := by
  have hfrom := s.blockFrom_none 128 0 (fun k _ hk => hfree k (by omega))
  have hbit := lowestBit_some 24 0 _ o ho hb hlow
  unfold State.relMask at *
  simp only [State.unsnuffAnswer, harm, Nat.not_lt.2 hage, hval, hseal, hlimp, hmask, hserved, hfrom, hbit, Bool.not_true,
    Bool.false_eq_true, if_false, ne_eq, not_true, Nat.zero_add]

theorem State.unsnuffAnswer_granted (hclear : s.relMask &&& s.activeCauses = 0) :
    s.unsnuffAnswer v = s.unsRelease s.relMask := by
  have hfrom := s.blockFrom_none 128 0 (fun k _ hk => hfree k (by omega))
  have hbit : lowestBit 24 0 (s.relMask &&& s.activeCauses).toNat = none := by rw [hclear]; exact lowestBit_zero 24 0
  unfold State.relMask at *
  simp only [State.unsnuffAnswer, harm, Nat.not_lt.2 hage, hval, hseal, hlimp, hmask, hserved, hfrom, hbit, Bool.not_true,
    Bool.false_eq_true, if_false, ne_eq, not_true]

end Judged

/-! ## A release (R60–R62) -/

/-- What a granted response records before its log entry: code 1, the sequence disarmed, RELEASED, the software requests and
the power-up state of the mask cleared. -/
def State.unsGranted (s : State) (m : Word) : State :=
  let t := (s.unsResult 1 0 0).flag SNF_STAT_RELEASED true
  let t := t.wr SNF_SWSNUFF (t.rd SNF_SWSNUFF &&& ~~~ m)
  { t with snf := { t.snf with powerUp := t.snf.powerUp &&& ~~~ m } }

/-- The kind-4 entry of a release. -/
def State.unsLogged (s : State) (m : Word) : State := (s.unsGranted m).log ⟨4, 0, 0, false, false, 0, m &&& s.snuffed⟩

theorem State.unsRelease_of_noInj (m : Word) (h : s.noInj 0x27 0x27 = true) :
    s.unsRelease m = (s.unsLogged m).releaseMask (m &&& s.snuffed) 24 := by
  have hlog := State.onlyLog_log (s.unsGranted m) ⟨4, 0, 0, false, false, 0, m &&& s.snuffed⟩
  exact congrArg (State.releaseMask · (m &&& s.snuffed) 24)
    (State.logCheck_of_noInj (s := s.unsGranted m) (s.unsGranted m) hlog h)

theorem State.unsGranted_status (m : Word) (k : Nat) :
    bitOf ((s.unsGranted m).rd SNF_STAT) k = if k = 27 then true else if k = 25 then false else bitOf (s.rd SNF_STAT) k := by
  rw [← s.unsResult_status 1 0 0 k, ← State.bitOf_rd_flag _ SNF_STAT 27 k true (by decide)]
  exact congrArg (bitOf · k) ((State.rd_wr _ _ _ _).trans (if_neg (by decide)))

theorem State.unsGranted_result (m : Word) : (s.unsGranted m).rd SNF_UNSRES = 1 :=
  (State.rd_wr _ _ _ _).trans ((if_neg (by decide)).trans ((State.rd_flag_ne _ _ _ _ (by decide)).trans
    (s.unsResult_result 1 0 0)))

/-- Every register but SNF_STAT, SNF_UNSRES and SNF_SWSNUFF stays. -/
theorem State.unsGranted_rd (m : Word) (a : Nat) (h : a ∉ [SNF_STAT, SNF_UNSRES, SNF_SWSNUFF]) :
    (s.unsGranted m).rd a = s.rd a := by
  simp only [List.mem_cons, List.not_mem_nil, or_false, not_or] at h
  obtain ⟨hstat, hres, hsw⟩ := h
  refine (State.rd_wr _ _ _ _).trans ((if_neg hsw).trans ((State.rd_flag_ne _ _ _ _ hstat).trans ?_))
  exact (s.unsResult_onlyRegs 1 0 0).1 a (by simp [hstat, hres])

theorem State.unsGranted_swsnuff (m : Word) : (s.unsGranted m).rd SNF_SWSNUFF = s.rd SNF_SWSNUFF &&& ~~~ m := by
  refine (State.rd_wr _ _ _ _).trans ((if_pos rfl).trans (congrArg (· &&& ~~~ m) ?_))
  exact (State.rd_flag_ne _ _ _ _ (by decide)).trans ((s.unsResult_onlyRegs 1 0 0).1 _ (by decide))

/-- Outside the collector's page the entry leaves the registers as granted. -/
theorem State.unsLogged_rd (m : Word) (a : Nat) (h : a / 4096 ≠ 0x40005) : (s.unsLogged m).rd a = (s.unsGranted m).rd a :=
  (State.onlyLog_log (s.unsGranted m) _).2.1 a h

/-- What configures an output stays through the entry. -/
theorem State.unsLogged_config (m : Word) (n : Nat) (h : n < 24) : (s.unsLogged m).rd (SNF_OCFG n) = s.rd (SNF_OCFG n) := by
  rw [s.unsLogged_rd m _ (by unfold SNF_OCFG; omega), s.unsGranted_rd m]
  simp only [SNF_OCFG, SNF_STAT, SNF_UNSRES, SNF_SWSNUFF, List.mem_cons, List.not_mem_nil, or_false]
  omega

/-- The outcome of a granted response for the registers of the sequence. -/
theorem State.unsRelease_sequence (m : Word) (h : s.noInj 0x27 0x27 = true) :
    (s.unsRelease m).rd SNF_UNSRES = 1 ∧ (s.unsRelease m).is SNF_STAT_ARMED = false ∧
    (s.unsRelease m).is SNF_STAT_RELEASED = true ∧ (s.unsRelease m).rd SNF_SWSNUFF = (s.rd SNF_SWSNUFF &&& ~~~ m) := by
  have hrd : ∀ a, a ≠ SNF_STAT → a < CE_LEDGER 0 → a / 4096 ≠ 0x40005 → (s.unsRelease m).rd a = (s.unsGranted m).rd a := by
    intro a ha hl hp
    rw [s.unsRelease_of_noInj m h, State.releaseMask_rd _ _ 24 a (by decide) ha hl, s.unsLogged_rd m a hp]
  have hbit : ∀ k, 24 < k → bitOf ((s.unsRelease m).rd SNF_STAT) k = bitOf ((s.unsGranted m).rd SNF_STAT) k := by
    intro k hk
    rw [s.unsRelease_of_noInj m h, State.releaseMask_status _ _ 24 k (by decide) (by omega), s.unsLogged_rd m _ (by decide)]
    simp [show ¬ k < 24 by omega]
  refine ⟨?_, ?_, ?_, ?_⟩
  · rw [hrd _ (by decide) (by decide) (by decide), s.unsGranted_result]
  · rw [SNF_STAT_ARMED, State.is_bit, hbit 25 (by decide), s.unsGranted_status]; rfl
  · rw [SNF_STAT_RELEASED, State.is_bit, hbit 27 (by decide), s.unsGranted_status]; rfl
  · rw [hrd _ (by decide) (by decide) (by decide), s.unsGranted_swsnuff]

theorem State.unsLogged_holdoff (m : Word) (n : Nat) (h : n < 24) :
    (s.unsLogged m).get (SNF_OCFG_HOLDOFF n) = s.get (SNF_OCFG_HOLDOFF n) :=
  congrArg (fld · 16 10) (s.unsLogged_config m n h)

/-- A masked output without a hold-off is released, every other one stays as it was (R62). -/
theorem State.unsRelease_snuffed (m : Word) (h : s.noInj 0x27 0x27 = true) (n : Nat) (hn : n < 24) :
    bitOf (s.unsRelease m).snuffed n = (bitOf s.snuffed n && (!bitOf m n || decide (s.get (SNF_OCFG_HOLDOFF n) ≠ 0))) := by
  rw [s.unsRelease_of_noInj m h, State.bitOf_snuffed, State.releaseMask_status _ _ 24 n (by decide) (by omega),
    s.unsLogged_rd m _ (by decide), s.unsGranted_status, if_neg (by omega), if_neg (by omega), s.unsLogged_holdoff m n hn,
    bitOf_and, State.bitOf_snuffed]
  simp only [hn, decide_true, Bool.true_and, decide_not]
  cases bitOf (s.rd SNF_STAT) n <;> simp

/-- A masked output with a hold-off begins it (R62). -/
theorem State.unsRelease_holding (m : Word) (h : s.noInj 0x27 0x27 = true) (n : Nat) (hn : n < 24)
    (hm : bitOf (m &&& s.snuffed) n = true) (h0 : s.get (SNF_OCFG_HOLDOFF n) ≠ 0) :
    bitOf (s.unsRelease m).snf.holding n = true ∧
      Store.get (fun _ => 0) (s.unsRelease m).snf.holdLeft n = 16 * s.get (SNF_OCFG_HOLDOFF n) := by
  rw [← s.unsLogged_holdoff m n hn] at h0 ⊢
  rw [s.unsRelease_of_noInj m h]
  exact State.releaseMask_holding _ _ 24 n (by decide) hn hm h0

/-- A used output that a granted response leaves released shows its operating level. -/
theorem State.unsRelease_outLevel (m : Word) (h : s.noInj 0x27 0x27 = true) (n : Nat) (hn : n < 24)
    (hu : s.is (SNF_OCFG_USED n) = true) (hs : bitOf (s.unsRelease m).snuffed n = false) :
    (s.unsRelease m).outLevel n = bitOf (s.rd SNF_OPLVL) n := by
  have hcfg : (s.unsRelease m).rd (SNF_OCFG n) = s.rd (SNF_OCFG n) := by
    rw [s.unsRelease_of_noInj m h, State.releaseMask_rd _ _ 24 _ (by decide), s.unsLogged_config m n hn]
    · unfold SNF_OCFG SNF_STAT; omega
    · unfold SNF_OCFG CE_LEDGER; omega
  have hlvl : (s.unsRelease m).rd SNF_OPLVL = s.rd SNF_OPLVL := by
    rw [s.unsRelease_of_noInj m h, State.releaseMask_rd _ _ 24 _ (by decide) (by decide) (by decide),
      s.unsLogged_rd m _ (by decide), s.unsGranted_rd m _ (by decide)]
  rw [State.outLevel_of_released _ n _ hs, hlvl]
  exact (congrArg (fld · 2 1 != 0) hcfg).trans hu

/-! ## The end of a hold-off (R62) -/

theorem exec_holdoffExpiry_of_holding (n : BitVec 5) (h : bitOf s.snf.holding n.toNat = true) :
    exec (.holdoffExpiry n) s = .next (s.releaseOut n.toNat) :=
  congrArg Host.Outcome.next (if_pos h)

theorem State.releaseOut_snuffed (n k : Nat) (h : n < 24) :
    bitOf (s.releaseOut n).snuffed k = (bitOf s.snuffed k && decide (k ≠ n)) := by
  rw [State.bitOf_snuffed, State.bitOf_snuffed]
  by_cases hk : k < 24
  · rw [s.releaseOut_status n k h (by omega), Bool.and_assoc]
  · simp [hk]

theorem State.releaseOut_outLevel (n : Nat) (h : n < 24) (hu : s.is (SNF_OCFG_USED n) = true) :
    (s.releaseOut n).outLevel n = bitOf (s.rd SNF_OPLVL) n := by
  have hcfg : (s.releaseOut n).rd (SNF_OCFG n) = s.rd (SNF_OCFG n) := by
    apply s.releaseOut_rd n _ h
    · unfold SNF_OCFG SNF_STAT; omega
    · unfold SNF_OCFG CE_LEDGER; omega
  rw [State.outLevel_of_released, s.releaseOut_rd n SNF_OPLVL h (by decide) (by decide)]
  · exact (congrArg (fld · 2 1 != 0) hcfg).trans hu
  · simp [s.releaseOut_snuffed n n h]

/-- Settles O24: the refusals are the cases of the judged response, each with its record; a granted response and the end of a
hold-off are read off the released outputs. -/
theorem unsnuff : Obligations.Unsnuff := by
  unfold Obligations.Unsnuff
  refine ⟨fun v s hreach => ⟨?_, ?_, ?_, ?_, ?_, ?_, ?_, ?_, ?_, ?_⟩, fun n s hn hhold => ?_⟩
  · exact fun h => exec_snfChalrsp_of_refused s v 5 5 0 0 hreach (State.unsnuffAnswer_unarmed h) rfl
  · exact fun harm h => exec_snfChalrsp_of_refused s v 4 4 0 0 hreach (State.unsnuffAnswer_late harm h) rfl
  · exact fun harm hage h => exec_snfChalrsp_of_refused s v 3 3 0 0 hreach (State.unsnuffAnswer_wrong harm hage h) rfl
  · rintro ⟨harm, hage, hval⟩ h
    exact exec_snfChalrsp_of_refused s v 10 10 0 0 hreach (State.unsnuffAnswer_unsealed harm hage hval h) rfl
  · rintro ⟨harm, hage, hval⟩ hseal h
    exact exec_snfChalrsp_of_refused s v 9 9 0 0 hreach (State.unsnuffAnswer_limp harm hage hval hseal h) rfl
  · rintro ⟨harm, hage, hval⟩ hseal hlimp h
    exact exec_snfChalrsp_of_refused s v 11 11 0 0 hreach (State.unsnuffAnswer_noOutput harm hage hval hseal hlimp h) rfl
  · rintro ⟨harm, hage, hval⟩ hseal hlimp hmask h
    exact exec_snfChalrsp_of_refused s v 6 6 0 0 hreach
      (State.unsnuffAnswer_unserved harm hage hval hseal hlimp hmask h) rfl
  · rintro id hid ⟨harm, hage, hval⟩ hseal hlimp hmask hserved hb hlow
    exact exec_snfChalrsp_of_refused s v _ 7 id 0 hreach
      (State.unsnuffAnswer_blocked harm hage hval hseal hlimp hmask hserved id hid hb hlow) rfl
  · rintro o ho ⟨harm, hage, hval⟩ hseal hlimp hmask hserved hfree hb hlow
    exact exec_snfChalrsp_of_refused s v _ 8 0 o hreach
      (State.unsnuffAnswer_caused harm hage hval hseal hlimp hmask hserved hfree o ho hb hlow) rfl
  · rintro ⟨harm, hage, hval⟩ hseal hlimp hmask hserved hfree hclear hinj
    have hexec := exec_snfChalrsp_of_reaches s v hreach
    rw [State.unsnuffAnswer_granted harm hage hval hseal hlimp hmask hserved hfree hclear] at hexec
    obtain ⟨hres, harmed, hreleased, hsw⟩ := s.unsRelease_sequence s.relMask hinj
    exact ⟨_, hexec, hres, harmed, hreleased, hsw, fun n hn => ⟨s.unsRelease_snuffed s.relMask hinj n hn,
      s.unsRelease_holding s.relMask hinj n hn, s.unsRelease_outLevel s.relMask hinj n hn⟩⟩
  · refine ⟨_, exec_holdoffExpiry_of_holding s n hhold, ?_, ?_, s.releaseOut_outLevel n.toNat hn, ?_,
      s.releaseOut_core n.toNat⟩
    · simp [s.releaseOut_snuffed n.toNat n.toNat hn]
    · simp [State.releaseOut_holding]
    · intro k hk
      simp [s.releaseOut_snuffed n.toNat k hn, hk]

end Sys2Proof.Machine
end

section
/-! PROOFS. The ALU group, its immediate forms and LUI (R131, R142). -/
namespace Sys2Proof.Machine

/-! ## An instruction that writes one general register and retires -/

theorem State.sameButRegs_setReg (s t : State) (r : Nat) (v : Word) :
    (s.setReg r v).sameButRegs t ↔ s.sameButRegs t := by
  unfold State.setReg
  split <;> exact Iff.rfl

theorem State.wentOn_setReg (s t : State) (r n : Nat) (v : Word) :
    (s.setReg r v).wentOn t n ↔ s.wentOn t n := by
  unfold State.setReg
  split <;> exact Iff.rfl

theorem State.limp_setReg (s : State) (r : Nat) (v : Word) : (s.setReg r v).limp = s.limp :=
  State.limp_congr (State.rd_congr (s.setReg_regs r v) FLT_STAT)

theorem State.limp_retireSeq (s : State) (n : Nat) : (s.retireSeq n).limp = s.limp :=
  State.limp_congr (s.retireSeq_rd n FLT_STAT (by decide))

theorem State.setReg_retireSeq_wroteReg (s : State) (rd : Reg) (v : Word) (n : Nat) :
    s.wroteReg ((s.setReg rd.toNat v).retireSeq n) rd v n := by
  refine ⟨fun r => ?_, fun k => by simp [State.acc], ?_, ?_⟩
  · rw [State.retireSeq_reg, State.reg_setReg]
    refine if_congr (and_congr_right fun hr => ?_) rfl rfl
    rw [hr]
  · exact (s.wentOn_setReg _ _ _ _).mp (State.retireSeq_wentOn _ n)
  · exact (s.sameButRegs_setReg _ _ _).mp (State.retireSeq_same _ n)

/-- Any instruction whose body writes one register from what the fetch leaves and retires in sequence. -/
theorem State.instr_wroteReg {s f : State} (h : s.fetches f) (l : List Nat) (rd : Reg) (v : State → Word) (n : Nat) :
    f.wroteReg (s.instr l fun u => (u.setReg rd.toNat (v u)).retireSeq n) rd (v f) n := by
  have ⟨_, _, _, _, _, hreset, _, hstep⟩ := h
  rw [State.instr_fetches h (by simpa using hreset) (by rw [State.limp_retireSeq, State.limp_setReg]) (by simpa using hstep)]
  exact f.setReg_retireSeq_wroteReg rd (v f) n

/-- A command of the shape `alu3` whose operation on words is `v`. -/
theorem writes3_of_alu3 {c : Reg → Reg → Reg → Instr} {n : Nat} {g v : Word → Word → Word}
    (hexec : ∀ rd ra rb s, exec (c rd ra rb) s = .next (s.alu3 n rd ra rb g)) (hval : ∀ a b, g a b = v a b) :
    Writes3 c n v := by
  intro rd ra rb s f h
  refine ⟨_, hexec rd ra rb s, ?_⟩
  rw [← hval]
  exact State.instr_wroteReg h _ rd (fun u => g (u.reg ra.toNat) (u.reg rb.toNat)) n

/-- A command of the shape `alu2` whose operation on a word and the immediate is `v`. -/
theorem writes2_of_alu2 {w : Nat} {c : Reg → Reg → BitVec w → Instr} {g v : Word → BitVec w → Word}
    (hexec : ∀ rd ra imm s, exec (c rd ra imm) s = .next (s.alu2 rd ra fun a => g a imm))
    (hval : ∀ a imm, g a imm = v a imm) : Writes2 c v := by
  intro rd ra imm s f h
  refine ⟨_, hexec rd ra imm s, ?_⟩
  rw [← hval]
  exact State.instr_wroteReg h _ rd (fun u => g (u.reg ra.toNat) imm) 1

/-! ## The compares as the order of the numbers -/

theorem sltB_iff (a b : Word) : sltB a b = true ↔ a.toInt < b.toInt := BitVec.slt_iff_toInt_lt

theorem ultB_iff (a b : Word) : ultB a b = true ↔ a.toNat < b.toNat := BitVec.ult_iff_lt

theorem ite_sltB {α : Type} (a b : Word) (x y : α) :
    (if sltB a b then x else y) = if a.toInt < b.toInt then x else y :=
  if_congr (sltB_iff a b) rfl rfl

theorem ite_ultB {α : Type} (a b : Word) (x y : α) :
    (if ultB a b then x else y) = if a.toNat < b.toNat then x else y :=
  if_congr (ultB_iff a b) rfl rfl

theorem boolWord_sltB (a b : Word) : boolWord (sltB a b) = if a.toInt < b.toInt then 1 else 0 := ite_sltB a b 1 0

theorem boolWord_ultB (a b : Word) : boolWord (ultB a b) = if a.toNat < b.toNat then 1 else 0 := ite_ultB a b 1 0

theorem boolWord_beq (a b : Word) : boolWord (a == b) = if a = b then 1 else 0 := if_congr beq_iff_eq rfl rfl

/-- The sign extension of SLTI's immediate keeps its value. -/
theorem boolWord_sltB_signExtend (a : Word) (i : BitVec 16) :
    boolWord (sltB a (i.signExtend 32)) = if a.toInt < i.toInt then 1 else 0 := by
  rw [boolWord_sltB, BitVec.toInt_signExtend_of_le (by decide)]

/-- The greater of two words in the order of their numbers: MAX and MAXU take ra where they are equal, the statement
takes rb, and the two are one word. -/
theorem ite_lt_max {α : Type} [LinearOrder α] {num : Word → α} (hinj : Function.Injective num) (a b : Word) :
    (if num a < num b then b else a) = if num b < num a then a else b := by
  rcases lt_trichotomy (num a) (num b) with h | h | h
  · rw [if_pos h, if_neg h.not_gt]
  · rw [hinj h, ite_self]
  · rw [if_neg h.not_gt, if_pos h]

theorem ite_sltB_max (a b : Word) : (if sltB a b then b else a) = if b.toInt < a.toInt then a else b :=
  (ite_sltB a b b a).trans (ite_lt_max (fun _ _ => BitVec.eq_of_toInt_eq) a b)

theorem ite_ultB_max (a b : Word) : (if ultB a b then b else a) = if b.toNat < a.toNat then a else b :=
  (ite_ultB a b b a).trans (ite_lt_max (fun _ _ => BitVec.eq_of_toNat_eq) a b)

/-! ## The instructions -/

/-- Settles O2: each instruction has the shape of a register write followed by a retirement in sequence, whose frame is proved
once; what is left is the word that it writes, which for the compares and the minima is the order of the numbers. -/
theorem registerAndImmediateArithmetic : Obligations.RegisterAndImmediateArithmetic := by
  unfold Obligations.RegisterAndImmediateArithmetic
  refine ⟨⟨?add, ?sub, ?andr, ?orr, ?xorr, ?nor, ?shl, ?shr, ?sar, ?ror, ?slt, ?sltu, ?seq, ?min, ?max, ?minu, ?maxu⟩,
    ?addi, ?andi, ?ori, ?xori, ?slti, ?sltiu, ?shli, ?shri, ?sari, ?rori, ?lui⟩
  case add | sub | andr | orr | xorr | nor | shl | shr | sar | ror =>
    exact writes3_of_alu3 (fun _ _ _ _ => rfl) fun _ _ => rfl
  case addi | andi | ori | xori | shli | shri | sari | rori =>
    exact writes2_of_alu2 (fun _ _ _ _ => rfl) fun _ _ => rfl
  case slt => exact writes3_of_alu3 (fun _ _ _ _ => rfl) boolWord_sltB
  case sltu => exact writes3_of_alu3 (fun _ _ _ _ => rfl) boolWord_ultB
  case seq => exact writes3_of_alu3 (fun _ _ _ _ => rfl) boolWord_beq
  case min => exact writes3_of_alu3 (fun _ _ _ _ => rfl) fun a b => ite_sltB b a b a
  case max => exact writes3_of_alu3 (fun _ _ _ _ => rfl) ite_sltB_max
  case minu => exact writes3_of_alu3 (fun _ _ _ _ => rfl) fun a b => ite_ultB b a b a
  case maxu => exact writes3_of_alu3 (fun _ _ _ _ => rfl) ite_ultB_max
  case slti => exact writes2_of_alu2 (fun _ _ _ _ => rfl) boolWord_sltB_signExtend
  case sltiu => exact writes2_of_alu2 (fun _ _ _ _ => rfl) fun a i => boolWord_ultB a (i.signExtend 32)
  case lui => exact fun rd imm s f h => ⟨_, rfl, State.instr_wroteReg h _ rd (fun _ => imm ++ (0 : BitVec 16)) 1⟩

end Sys2Proof.Machine
end

section
/-! PROOFS. The frame of an event on the registers, and the supplies of the I/O banks (R499). -/
namespace Sys2Proof.Machine
variable (s : State)

/-! ## Frames -/

/-- A change outside the registers, the memory and its codes. -/
theorem State.onlyRegs_of_eq {s t : State} {l : List Nat} (hr : t.regs = s.regs) (hm : t.mem = s.mem) (hc : t.syn = s.syn) :
    s.onlyRegs t l :=
  ⟨fun a _ => State.rd_congr hr a, State.byteAt_congr hm, fun u => congrArg (Store.get synReset · u) hc⟩

theorem State.onlyRegs.mono {s t : State} {l k : List Nat} (h : s.onlyRegs t l) (hk : l ⊆ k) : s.onlyRegs t k :=
  ⟨fun a ha => h.1 a (fun hl => ha (hk hl)), h.2⟩

/-- Steps that stay within the same registers. -/
theorem State.onlyRegs.trans {s t u : State} {l : List Nat} (h : s.onlyRegs t l) (g : t.onlyRegs u l) : s.onlyRegs u l :=
  (State.onlyRegs_trans h g).mono (by simp)

theorem State.onlyRegs_put (f : Fld) (v : Nat) : s.onlyRegs (s.put f v) [f.addr] := s.onlyRegs_wr f.addr _

theorem State.onlyRegs_onTap (g : Tap → Tap) : s.onlyRegs (s.onTap g) [] := State.onlyRegs_of_eq rfl rfl rfl

/-- A field of a register outside those that may differ reads as before. -/
theorem State.onlyRegs.get_eq {s t : State} {l : List Nat} (h : s.onlyRegs t l) (f : Fld) (hf : f.addr ∉ l) :
    t.get f = s.get f :=
  congrArg (fld · f.lo f.len) (h.1 f.addr hf)

/-! ## The general-purpose pins of bank 1 at 0 -/

/-- The registers that the pins of bank 1 show in. -/
def gpBank1Regs : List Nat := [GP_IN 0, GP_IRQ0]

theorem gpBit_of_lt_32 (base0 base1 n : Nat) (h : n < 32) : gpBit base0 base1 n = ⟨base0, n, 1⟩ := by
  rw [gpBit, if_pos h, Nat.mod_eq_of_lt h]

theorem gpCfg_not_mem_gpBank1Regs (n : Nat) : GP_CFG n ∉ gpBank1Regs := by
  simp only [gpBank1Regs, GP_CFG, GP_IN, GP_IRQ0, List.mem_cons, List.not_mem_nil, or_false]
  omega

theorem State.gpInput_of_owned (n : Nat) (pin : Bool) (h : s.is (GP_CFG_OWNED n) = true) : s.gpInput n pin = s := by
  simp [State.gpInput, h]

/-- A pin of bank 1 that no function owns takes the level 0, and its GP_IRQ bit may set (R347). -/
theorem State.gpInput_false_cases (n : Nat) (hn : n < 20) (ho : s.is (GP_CFG_OWNED n) = false) (hp : 3 ≤ s.pstate) :
    s.gpInput n false = s.flag ⟨GP_IN 0, n, 1⟩ false ∨
    s.gpInput n false = (s.flag ⟨GP_IN 0, n, 1⟩ false).put ⟨GP_IRQ0, n, 1⟩ 1 := by
  have h40 : ¬ 40 ≤ n := by omega
  have h3 : ¬ s.pstate < 3 := by omega
  simp only [State.gpInput, gpBit_of_lt_32 _ _ n (by omega), ho, h40, h3, Bool.false_and, decide_false, Bool.or_self,
    Bool.false_eq_true, if_false]
  split
  · exact .inr rfl
  · exact .inl rfl

theorem State.gpInput_false_onlyRegs (n : Nat) (hn : n < 20) (hp : 3 ≤ s.pstate) :
    s.onlyRegs (s.gpInput n false) gpBank1Regs := by
  have hflag : s.onlyRegs (s.flag ⟨GP_IN 0, n, 1⟩ false) gpBank1Regs := (s.onlyRegs_put _ _).mono (by simp [gpBank1Regs])
  cases ho : s.is (GP_CFG_OWNED n) with
  | true => rw [s.gpInput_of_owned n false ho]; exact State.onlyRegs_of_eq rfl rfl rfl
  | false =>
    rcases s.gpInput_false_cases n hn ho hp with e | e <;> rw [e]
    · exact hflag
    · exact hflag.trans ((State.onlyRegs_put _ _ _).mono (by simp [gpBank1Regs]))

/-- An unowned pin's bit of GP_IN clears, every other bit stays. -/
theorem State.bitOf_gpInput_false (n k : Nat) (hn : n < 20) (hp : 3 ≤ s.pstate) :
    bitOf ((s.gpInput n false).rd (GP_IN 0)) k =
      (bitOf (s.rd (GP_IN 0)) k && !(decide (k = n) && !s.is (GP_CFG_OWNED n))) := by
  cases ho : s.is (GP_CFG_OWNED n) with
  | true => simp [s.gpInput_of_owned n false ho]
  | false =>
    have hrd : (s.gpInput n false).rd (GP_IN 0) = (s.flag ⟨GP_IN 0, n, 1⟩ false).rd (GP_IN 0) := by
      rcases s.gpInput_false_cases n hn ho hp with e | e <;> rw [e]
      exact (State.rd_put _ _ _ _).trans (if_neg (show GP_IN 0 ≠ GP_IRQ0 by decide))
    rw [hrd, State.bitOf_rd_flag _ _ _ _ _ (by omega)]
    by_cases e : k = n <;> simp [e]

theorem State.gpInput_false_pstate (n : Nat) (hn : n < 20) (hp : 3 ≤ s.pstate) : (s.gpInput n false).pstate = s.pstate :=
  (s.gpInput_false_onlyRegs n hn hp).get_eq PM_STAT_STATE (by decide)

theorem State.gpFall_onlyRegs (k n : Nat) (h : k + n ≤ 20) (hp : 3 ≤ s.pstate) :
    s.onlyRegs (s.gpFall k n) gpBank1Regs := by
  induction n generalizing s k with
  | zero => exact State.onlyRegs_of_eq rfl rfl rfl
  | succ n ih =>
    have hstate := s.gpInput_false_pstate k (by omega) hp
    exact (s.gpInput_false_onlyRegs k (by omega) hp).trans (ih _ (k + 1) (by omega) (hstate ▸ hp))

/-- The bits of the unowned pins from `k` on clear, and no other. -/
theorem State.bitOf_gpFall (k n j : Nat) (h : k + n ≤ 20) (hp : 3 ≤ s.pstate) :
    bitOf ((s.gpFall k n).rd (GP_IN 0)) j =
      (bitOf (s.rd (GP_IN 0)) j && !(decide (k ≤ j ∧ j < k + n) && !s.is (GP_CFG_OWNED j))) := by
  induction n generalizing s k with
  | zero => simp [State.gpFall, show ¬ (k ≤ j ∧ j < k) by omega]
  | succ n ih =>
    have hstate := s.gpInput_false_pstate k (by omega) hp
    have howned : (s.gpInput k false).is (GP_CFG_OWNED j) = s.is (GP_CFG_OWNED j) :=
      congrArg (· != 0) ((s.gpInput_false_onlyRegs k (by omega) hp).get_eq _ (gpCfg_not_mem_gpBank1Regs j))
    rw [State.gpFall, ih _ (k + 1) (by omega) (hstate ▸ hp), s.bitOf_gpInput_false k j (by omega) hp, howned]
    by_cases e : j = k
    · subst e; simp
    · have hrange : decide (k + 1 ≤ j ∧ j < k + 1 + n) = decide (k ≤ j ∧ j < k + (n + 1)) := by
        rw [decide_eq_decide]; omega
      rw [hrange]
      simp [e]

theorem State.gpInput_pins (n : Nat) (pin : Bool) : (s.gpInput n pin).pins = s.pins := by
  unfold State.gpInput
  dsimp only
  repeat' split
  all_goals rfl

theorem State.gpFall_pins (k n : Nat) : (s.gpFall k n).pins = s.pins := by
  induction n generalizing s k with
  | zero => rfl
  | succ n ih => rw [State.gpFall, ih, s.gpInput_pins]

/-! ## The change of a bank's supply -/

/-- Bank 1 with its supply lost: its level class stays. -/
def State.bank1Absent (s : State) : State := { s with pins := { s.pins with vio1 := false } }

theorem exec_vioBankChange_bank1_absent (hv : Bool) :
    exec (.vioBankChange 0 false hv) s = .next (s.bank1Absent.gpFall 0 20).tapReset := rfl

/-- The loss of bank 1 shows in the registers of its pins alone (R499). -/
theorem State.bank1Absent_onlyRegs (hp : 3 ≤ s.pstate) :
    s.onlyRegs (s.bank1Absent.gpFall 0 20).tapReset gpBank1Regs := by
  have habsent : s.onlyRegs s.bank1Absent gpBank1Regs := State.onlyRegs_of_eq rfl rfl rfl
  exact (habsent.trans (s.bank1Absent.gpFall_onlyRegs 0 20 (by decide) hp)).trans (State.onlyRegs_of_eq rfl rfl rfl)

/-- The unowned inputs of bank 1 read 0 once it is absent (R499). -/
theorem State.bank1Absent_input (hp : 3 ≤ s.pstate) (n : Nat) (hn : n < 20) (ho : s.is (GP_CFG_OWNED n) = false) :
    (s.bank1Absent.gpFall 0 20).tapReset.is (gpBit (GP_IN 0) (GP_IN 1) n) = false := by
  rw [gpBit_of_lt_32 _ _ n (by omega), State.is_bit]
  have howned : s.bank1Absent.is (GP_CFG_OWNED n) = false := ho
  exact (s.bank1Absent.bitOf_gpFall 0 20 n (by omega) hp).trans (by simp [hn, howned])

end Sys2Proof.Machine
end

section
/-! PROOFS. The TAP's instructions (R513 to R517). -/
namespace Sys2Proof.Machine
variable (s : State)

/-! ## Selecting an instruction -/

theorem tapDecode_tapCode (i : TapInstr) : tapDecode (tapCode i) = i := by cases i <;> rfl

theorem State.tapInstr_of_ir {s : State} {i : TapInstr} (h : s.tap.ir = tapCode i) : s.tapInstr = i := by
  rw [State.tapInstr, h, tapDecode_tapCode]

theorem State.tapSelect_tapInstr (i : TapInstr) (cap : BitVec 520) : (s.tapSelect i cap).tapInstr = i :=
  State.tapInstr_of_ir rfl

/-- An instruction that drives the pins, loaded with debug open or not (R516). -/
def State.tapForced (s : State) (i : TapInstr) (spared : Bool) : State :=
  s.onTap fun t => { t with ir := tapCode i, spare := spared }

theorem State.tapForced_tapInstr (i : TapInstr) (spared : Bool) : (s.tapForced i spared).tapInstr = i :=
  State.tapInstr_of_ir rfl

theorem State.tapForce_of_open (i : TapInstr) (h : s.scanOpen = true) : s.tapForce i = s.tapForced i false := by
  have hforced : (s.onTap fun t => { t with ir := tapCode i, spare := false }).scanOpen = true := h
  simp [State.tapForce, State.tapForced, h, hforced]

theorem State.tapForce_of_closed (i : TapInstr) (h : s.scanOpen = false) :
    s.tapForce i = (s.tapForced i true).fault 0x78 0 := by
  have hforced : (s.onTap fun t => { t with ir := tapCode i, spare := true }).scanOpen = false := h
  simp [State.tapForce, State.tapForced, h, hforced]

/-- What EXTEST, CLAMP and HIGHZ have in common (R516): after the change `g` of the TAP that is the instruction's own, it is
forced; where debug is closed, the fault is captured on the TAP as it then stands. -/
theorem exec_of_tapForce {s : State} {c : Instr} {i : TapInstr} (g : Tap → Tap)
    (hc : exec c s = .next ((s.onTap g).tapForce i)) :
    (s.scanOpen = true → ∃ t, exec c s = .next t ∧ t.tapInstr = i ∧ t.tap.bsr = (g s.tap).bsr ∧ t.tap.cap = (g s.tap).cap ∧
      t.tap.spare = false ∧ s.onlyRegs t []) ∧
    (s.scanOpen = false → ∃ t u : State, exec c s = .next t ∧ u.captures t 0x78 0 0 ∧ u.tapInstr = i ∧
      u.tap.bsr = (g s.tap).bsr ∧ u.tap.cap = (g s.tap).cap ∧ u.tap.spare = true ∧ s.onlyRegs u []) := by
  have hframe (b : Bool) : s.onlyRegs ((s.onTap g).tapForced i b) [] := (s.onlyRegs_onTap g).trans (State.onlyRegs_onTap _ _)
  refine ⟨fun hopen => ⟨_, hc, ?_⟩, fun hclosed => ⟨_, (s.onTap g).tapForced i true, hc, ?_, ?_⟩⟩
  · rw [(s.onTap g).tapForce_of_open i hopen]
    exact ⟨State.tapForced_tapInstr _ i false, rfl, rfl, rfl, hframe false⟩
  · rw [(s.onTap g).tapForce_of_closed i hclosed]
    exact State.captures_raise _ 0x78 0 (by decide)
  · exact ⟨State.tapForced_tapInstr _ i true, rfl, rfl, rfl, hframe true⟩

/-! ## The commands of a TAP that works -/

section Works
variable {s} (h : s.tapOn = true)
include h

theorem exec_extest_of_tapOn (x : ScanIn) :
    exec (.extest x) s = .next ((s.scanTake x.pins x.scan).tapForce .extest) :=
  congrArg Host.Outcome.next (if_neg (by simp [h]))

theorem exec_tapClamp_of_tapOn : exec .tapClamp s = .next ((s.onTap fun t => { t with cap := 0 }).tapForce .clamp) :=
  congrArg Host.Outcome.next (if_neg (by simp [h]))

theorem exec_highz_of_tapOn : exec .highz s = .next ((s.onTap fun t => { t with cap := 0 }).tapForce .highz) :=
  congrArg Host.Outcome.next (if_neg (by simp [h]))

theorem exec_idcode_of_tapOn : exec .idcode s = .next (s.tapSelect .idcode 0xB640076B) :=
  congrArg Host.Outcome.next (if_neg (by simp [h]))

theorem exec_bypass_of_tapOn : exec .bypass s = .next (s.tapSelect .bypass 0) :=
  congrArg Host.Outcome.next (if_neg (by simp [h]))

theorem exec_samplePreload_of_tapOn (pins scan : BitVec 447) : exec (.samplePreload pins scan) s =
    .next ((s.scanTake pins scan).tapSelect .sample ((s.bsrCapture pins).setWidth 520)) :=
  congrArg Host.Outcome.next (if_neg (by simp [h]))

end Works

/-- The register of DBGACC as updated, with the access that its Update-DR starts unless one is in progress (R517). -/
def Tap.dbgUpdate (t : Tap) (wr : Bool) (a v : Word) : Tap :=
  let dbg := 0#1 ++ (BitVec.ofBool wr ++ (a ++ v))
  if t.acc.isSome then { t with dbg := dbg } else { t with dbg := dbg, acc := some ⟨wr, a, v, false⟩, ready := false }

theorem exec_dbgacc_of_tapOn {s : State} (h : s.tapOn = true) (wr : Bool) (a v : Word) : exec (.dbgacc wr a v) s =
    .next ((s.tapSelect .dbgacc (s.tap.dbgCapture.setWidth 520)).onTap fun t => t.dbgUpdate wr a v) :=
  congrArg Host.Outcome.next (if_neg (by simp [h]))

theorem Tap.dbgUpdate_ir (t : Tap) (wr : Bool) (a v : Word) : (t.dbgUpdate wr a v).ir = t.ir := by
  unfold Tap.dbgUpdate
  dsimp only
  split <;> rfl

theorem Tap.dbgUpdate_cap (t : Tap) (wr : Bool) (a v : Word) : (t.dbgUpdate wr a v).cap = t.cap := by
  unfold Tap.dbgUpdate
  dsimp only
  split <;> rfl

theorem Tap.dbgUpdate_acc (t : Tap) (wr : Bool) (a v : Word) :
    if t.acc.isSome then (t.dbgUpdate wr a v).acc = t.acc ∧ (t.dbgUpdate wr a v).ready = t.ready
    else (t.dbgUpdate wr a v).acc = some ⟨wr, a, v, false⟩ ∧ (t.dbgUpdate wr a v).ready = false := by
  unfold Tap.dbgUpdate
  cases t.acc <;> exact ⟨rfl, rfl⟩

end Sys2Proof.Machine
end

section
/-! PROOFS. A transfer of a master other than the cluster to SRAM, and the debug access (R243, R517). -/
namespace Sys2Proof.Machine
variable (s : State)

/-! ## A word of SRAM that the map grants -/

theorem inSram_bounds {a : Nat} (h : inSram a = true) : 0x10000000 ≤ a ∧ a < 0x100C0000 := by
  simpa [inSram] using h

theorem inPeriph_of_inSram {a : Nat} (h : inSram a = true) : inPeriph a = false := by
  have ⟨_, _⟩ := inSram_bounds h
  simp only [inPeriph, Bool.and_eq_false_iff, decide_eq_false_iff_not]
  omega

theorem inRingWin_of_inSram {a : Nat} (h : inSram a = true) : inRingWin a = false := by
  have ⟨_, _⟩ := inSram_bounds h
  simp only [inRingWin, Bool.and_eq_false_iff, decide_eq_false_iff_not]
  omega

theorem State.memRefusal_of_inSram (m : Master) (k : AccKind) (a : Nat) (hs : inSram a = true)
    (h : s.refusal m k a = none) : s.memRefusal m k a = none := by
  simp [State.memRefusal, h, hs]

theorem State.aimed_of_inj_nil (id a : Nat) (h : s.flt.inj = []) : s.aimed id a = false := by
  simp [State.aimed, State.injWaits, h]

theorem State.memStore_tap (a : Nat) (w : Word) : (s.memStore a w).tap = s.tap := by
  have hput (u : State) : (u.putBytes a (wordBytes w)).tap = u.tap := rfl
  have hmirror (u : State) : (u.mirror 0 a [w]).tap = u.tap := by
    unfold State.mirror; dsimp only; split <;> rfl
  unfold State.memStore
  dsimp only
  repeat' split
  all_goals simp [State.putWord, hput, hmirror]

/-- A write stores the word's four bytes and no other (R243). -/
theorem State.byteAt_memStore (a b : Nat) (w : Word) :
    (s.memStore a w).byteAt b = if a ≤ b ∧ b < a + 4 then (wordBytes w).getD (b - a) 0 else s.byteAt b :=
  (State.byteAt_congr (s := s.putBytes a (wordBytes w)) (s.memStore_mem a w) b).trans (s.byteAt_putBytes (wordBytes w) a b)

/-- A granted word write is stored, and the cluster's data cache loses the line (R112). -/
theorem State.busWrite_of_inSram (m : Master) (a : Nat) (w : Word) (hs : inSram a = true) (hinj : s.flt.inj = [])
    (h : s.refusal m .write a = none) :
    s.busWrite m a 15 w = ⟨(s.memStore a w).dinval (a / 32 * 32) (a / 32 * 32 + 32), 0, none⟩ := by
  simp [State.busWrite, inPeriph_of_inSram hs, State.mWrite, s.memRefusal_of_inSram m .write a hs h,
    s.aimed_of_inj_nil 0x27 a hinj, State.memWrite]

/-- A granted read of a word that holds no error gives the word and changes nothing. -/
theorem State.busRead_of_plainWord (m : Master) (a : Nat) (hs : inSram a = true) (h : s.refusal m .read a = none)
    (hw : s.plainWord a = true) : s.busRead m a 15 = ⟨s, s.goodWord a, none⟩ := by
  obtain ⟨hclass, haim⟩ : s.unitClass a = .good ∧ s.aimed 0x27 a = false := by simpa [State.plainWord] using hw
  simp [State.busRead, inPeriph_of_inSram hs, State.mRead, s.memRefusal_of_inSram m .read a hs h, State.memReadAt, hclass,
    haim]

/-! ## The debug access -/

theorem State.dbgDone_of_acc {s : State} {x : DbgAcc} (h : s.tap.acc = some x) (data : Word) : s.dbgDone data =
    s.onTap fun t => { t with acc := none, ready := true, data := if x.write then t.data else data } := by
  simp only [State.dbgDone, h]
  rfl

section Sram
variable {s} {a v : Word} (honly : s.snf.only = false) (hs : inSram a.toNat = true) (hal : a.toNat % 4 = 0)
include honly hs hal

theorem exec_dbgaccComplete_write (hacc : s.tap.acc = some ⟨true, a, v, false⟩) : exec .dbgaccComplete s =
    .next ((s.busWrite .debug a.toNat 15 v).st.dbgDone (s.busWrite .debug a.toNat 15 v).data) := by
  have hword : a.toNat / 4 * 4 = a.toNat := by omega
  simp [exec, execDbgaccComplete, hacc, honly, hword, inRingWin_of_inSram hs]

theorem exec_dbgaccComplete_read (hacc : s.tap.acc = some ⟨false, a, v, false⟩) : exec .dbgaccComplete s =
    .next ((s.busRead .debug a.toNat 15).st.dbgDone (s.busRead .debug a.toNat 15).data) := by
  have hword : a.toNat / 4 * 4 = a.toNat := by omega
  simp [exec, execDbgaccComplete, hacc, honly, hword, inRingWin_of_inSram hs]

end Sram

/-- Settles O55: the fall of bank 1's pins clears their bits one by one; each TAP instruction is a change of the TAP alone, the
fault of a closed debug apart; a granted debug access is a plain bus transfer. -/
theorem tapAndBanks : Obligations.TapAndBanks := by
  unfold Obligations.TapAndBanks
  refine ⟨fun hv s => ⟨?_, ?_, fun hp => ?_⟩, fun s hon => ⟨?_, ?_, ?_, ?_, ?_⟩, fun s => ?_, ?_⟩
  · exact ⟨_, rfl, rfl, rfl, rfl, State.onlyRegs_of_eq rfl rfl rfl⟩
  · exact ⟨_, rfl, rfl, rfl, rfl, State.onlyRegs_of_eq rfl rfl rfl⟩
  · exact ⟨_, exec_vioBankChange_bank1_absent s hv, congrArg Pins.vio1 (s.bank1Absent.gpFall_pins 0 20), rfl,
      s.bank1Absent_input hp, s.bank1Absent_onlyRegs hp⟩
  · intro x p hp
    simp only [List.mem_cons, List.not_mem_nil, or_false] at hp
    rcases hp with rfl | rfl | rfl
    · exact exec_of_tapForce _ (exec_extest_of_tapOn hon x)
    · exact exec_of_tapForce _ (exec_tapClamp_of_tapOn hon)
    · exact exec_of_tapForce _ (exec_highz_of_tapOn hon)
  · exact ⟨_, exec_idcode_of_tapOn hon, State.tapSelect_tapInstr _ _ _, rfl, State.onlyRegs_of_eq rfl rfl rfl⟩
  · exact ⟨_, exec_bypass_of_tapOn hon, State.tapSelect_tapInstr _ _ _, rfl, State.onlyRegs_of_eq rfl rfl rfl⟩
  · exact fun pins scan => ⟨_, exec_samplePreload_of_tapOn hon pins scan, State.tapSelect_tapInstr _ _ _, rfl, rfl,
      State.onlyRegs_of_eq rfl rfl rfl⟩
  · exact fun wr a v => ⟨_, exec_dbgacc_of_tapOn hon wr a v, State.tapInstr_of_ir (Tap.dbgUpdate_ir _ wr a v),
      Tap.dbgUpdate_cap _ wr a v, State.onlyRegs_of_eq rfl rfl rfl, Tap.dbgUpdate_acc (s.tapSelect .dbgacc _).tap wr a v⟩
  · exact ⟨_, rfl, rfl, rfl, State.onlyRegs_of_eq rfl rfl rfl⟩
  · intro s a v honly hs hal hinj _
    refine ⟨fun hacc hgrant => ?_, fun hacc hgrant hplain => ?_⟩
    · have hexec := exec_dbgaccComplete_write honly hs hal hacc
      have hstored : ((s.memStore a.toNat v).dinval (a.toNat / 32 * 32) (a.toNat / 32 * 32 + 32)).tap.acc =
          some ⟨true, a, v, false⟩ := (congrArg Tap.acc (s.memStore_tap a.toNat v)).trans hacc
      rw [s.busWrite_of_inSram .debug a.toNat v hs hinj hgrant, State.dbgDone_of_acc hstored] at hexec
      exact ⟨_, hexec, rfl, rfl, fun b => s.byteAt_memStore a.toNat b v⟩
    · have hexec := exec_dbgaccComplete_read honly hs hal hacc
      rw [s.busRead_of_plainWord .debug a.toNat hs hgrant hplain, State.dbgDone_of_acc hacc] at hexec
      exact ⟨_, hexec, rfl, rfl, rfl, s.onlyRegs_onTap _⟩

end Sys2Proof.Machine
end
